-- ==== Sys2Proof/Machine/RegMap.lean ====
section
/-! DEFINITION. The register map of the module, row by row from the spec's register tables
(Tables 1.2 to 23.3; placed by R389, R77 and Table 4.4; access types of R9, Table 0.3).
A reserved field of a table is not listed: it reads 0. One row per register or register array. -/

namespace Sys2Proof.Machine

/-- The pages of Tables 23.1 (shared) and 23.2 (channel), in the order of Table 4.4 (R77). -/
inductive Page where
  | sys | host | snap | panel | ptp | can | alloc | therm | evt | upd | sec | twin | hlth | pmcs | test
  | ch | ring | pour | cdiag | bal | ctle | cbk0 | cbk1 | prof | vax | imp | est | safe | cont | perc | fifo | pmc
  deriving DecidableEq, Repr

/-- Access types of Table 0.3 (R9). -/
inductive Acc where
  | ro | rw | wo | w1c | w1s | rwi | ros
  deriving DecidableEq, Repr

/-- One field row of a register table: bits hi:lo, access type, reset value, and whether the
field is kept in parameter MRAM. -/
structure FieldD where
  hi  : Nat
  lo  : Nat
  acc : Acc
  rst : Nat
  nv  : Bool
  deriving DecidableEq, Repr

/-- One register, or one register array of `count` elements `stride` bytes apart, at offset `off`
of its page; `prot` says that its chapter marks it protected (R84). -/
structure RegD where
  off    : Nat
  count  : Nat
  stride : Nat
  prot   : Bool
  fields : List FieldD
  deriving DecidableEq, Repr

/-- The common page header of R78 (Tables 4.5 to 4.12). -/
def headerRegs : List RegD := [
  ⟨0x000, 1, 4, false, [⟨31, 16, .ro, 0x0, false⟩, ⟨15, 8, .ro, 0x0, false⟩, ⟨7, 0, .ro, 0x0, false⟩]⟩, -- PAGE_ID (Table 4.5)
  ⟨0x004, 1, 4, false, [⟨31, 31, .rw, 0x0, false⟩, ⟨0, 0, .rw, 0x1, false⟩]⟩, -- PAGE_CTRL (Table 4.6)
  ⟨0x008, 1, 4, false, [⟨4, 4, .ro, 0x0, false⟩, ⟨3, 3, .ro, 0x1, false⟩, ⟨2, 2, .ro, 0x0, false⟩, ⟨1, 1, .ro, 0x0, false⟩, ⟨0, 0, .ro, 0x0, false⟩]⟩, -- PAGE_STAT (Table 4.7)
  ⟨0x00C, 1, 4, false, [⟨31, 2, .ro, 0x0, false⟩, ⟨1, 1, .ro, 0x0, false⟩, ⟨0, 0, .ro, 0x0, false⟩]⟩, -- IRQ_RAW (Table 4.8)
  ⟨0x010, 1, 4, false, [⟨31, 0, .rw, 0x2, false⟩]⟩, -- IRQ_EN (Table 4.9)
  ⟨0x014, 1, 4, false, [⟨31, 0, .w1c, 0x0, false⟩]⟩, -- IRQ_PEND (Table 4.10)
  ⟨0x018, 1, 4, false, [⟨31, 0, .ros, 0x0, false⟩]⟩, -- PAGE_SEQ (Table 4.11)
  ⟨0x01C, 1, 4, true, [⟨31, 0, .wo, 0x0, false⟩]⟩ -- PAGE_UNLOCK (Table 4.12)
]

/-- Block registers of page SYS. -/
def sysRegs : List RegD := [
  ⟨0x020, 1, 4, false, [⟨9, 0, .rw, 0x0, true⟩]⟩, -- PLANT_ID (Table 23.3)
  ⟨0x030, 1, 4, false, [⟨31, 31, .ro, 0x0, false⟩, ⟨30, 30, .ro, 0x0, false⟩, ⟨29, 29, .ro, 0x0, false⟩, ⟨28, 28, .ro, 0x0, false⟩, ⟨27, 24, .ro, 0x0, false⟩, ⟨19, 16, .ro, 0x0, false⟩, ⟨7, 4, .ro, 0x2, false⟩, ⟨3, 0, .ro, 0x1, false⟩]⟩, -- STAT (Table 3.7)
  ⟨0x034, 1, 4, false, [⟨3, 0, .wo, 0x0, false⟩]⟩, -- CMD (Table 3.8)
  ⟨0x038, 1, 4, false, [⟨11, 8, .rw, 0x5, true⟩, ⟨1, 1, .rw, 0x0, true⟩, ⟨0, 0, .rw, 0x0, true⟩]⟩ -- BOOT_CFG (Table 3.9)
]

/-- Block registers of page HOST. -/
def hostRegs : List RegD := [
  ⟨0x020, 1, 4, false, [⟨31, 0, .ro, 0x0, false⟩]⟩, -- LAST_HSEQ (Table 4.14)
  ⟨0x024, 1, 4, false, [⟨31, 0, .ro, 0x0, false⟩]⟩, -- DSEQ (Table 4.15)
  ⟨0x028, 1, 4, false, [⟨7, 0, .rw, 0xFF, false⟩]⟩, -- BCAST_EN (Table 4.16)
  ⟨0x02C, 1, 4, false, [⟨31, 24, .ro, 0x0, false⟩, ⟨23, 16, .ro, 0x0, false⟩, ⟨15, 8, .ro, 0x0, false⟩, ⟨7, 0, .ro, 0x0, false⟩]⟩ -- BCAST_RESULT (Table 4.17)
]

/-- Block registers of page SNAP. -/
def snapRegs : List RegD := [
  ⟨0x020, 1, 4, false, [⟨7, 0, .wo, 0x0, false⟩]⟩, -- REQ (Table 1.2)
  ⟨0x024, 1, 4, false, [⟨31, 0, .wo, 0x0, false⟩]⟩, -- END (Table 1.3)
  ⟨0x028, 1, 4, false, [⟨31, 31, .ro, 0x0, false⟩, ⟨30, 30, .ro, 0x0, false⟩, ⟨29, 29, .ro, 0x0, false⟩, ⟨28, 27, .ro, 0x0, false⟩, ⟨23, 16, .ro, 0x0, false⟩, ⟨15, 8, .ro, 0x0, false⟩, ⟨7, 0, .ro, 0x0, false⟩]⟩, -- STAT (Table 1.4)
  ⟨0x02C, 1, 4, false, [⟨31, 0, .ro, 0x0, false⟩]⟩, -- EPOCH (Table 1.5)
  ⟨0x030, 1, 4, false, [⟨15, 0, .ro, 0x0, false⟩]⟩, -- EPOCH_HI (Table 1.6)
  ⟨0x034, 1, 4, false, [⟨13, 0, .rw, 0x64, false⟩]⟩, -- TIMEOUT (Table 1.7)
  ⟨0x038, 1, 4, false, [⟨23, 0, .ro, 0x0, false⟩]⟩ -- LAST_ADDR (Table 1.8)
]

/-- Block registers of page PANEL. -/
def panelRegs : List RegD := [
  ⟨0x020, 1, 4, false, [⟨31, 31, .ro, 0x0, false⟩, ⟨30, 30, .ro, 0x0, false⟩, ⟨29, 29, .ro, 0x0, false⟩, ⟨23, 16, .ro, 0x0, false⟩, ⟨15, 8, .ro, 0x0, false⟩, ⟨3, 0, .ro, 0xF, false⟩]⟩ -- STAT (Table 2.8)
]

/-- Block registers of page PTP. -/
def ptpRegs : List RegD := [
  ⟨0x020, 1, 4, true, [⟨31, 24, .rw, 0x0, true⟩, ⟨23, 16, .rw, 0x80, true⟩, ⟨15, 8, .rw, 0x80, true⟩, ⟨7, 6, .rw, 0x1, true⟩, ⟨5, 4, .rw, 0x0, true⟩, ⟨3, 3, .rw, 0x0, true⟩, ⟨2, 2, .rw, 0x1, true⟩, ⟨1, 1, .rw, 0x1, true⟩]⟩, -- CTRL (Table 17.3)
  ⟨0x024, 1, 4, false, [⟨31, 28, .ro, 0x1, false⟩, ⟨27, 24, .ro, 0x1, false⟩, ⟨23, 23, .ro, 0x0, false⟩, ⟨22, 22, .ro, 0x0, false⟩, ⟨21, 21, .ro, 0x0, false⟩, ⟨20, 20, .ro, 0x0, false⟩, ⟨15, 0, .ro, 0x0, false⟩]⟩, -- STAT (Table 17.4)
  ⟨0x028, 1, 4, false, [⟨31, 0, .ro, 0x0, false⟩]⟩, -- OFFSET (Table 17.5)
  ⟨0x030, 1, 4, false, [⟨31, 0, .ro, 0x0, false⟩]⟩, -- TIME_S (Table 17.6)
  ⟨0x034, 1, 4, false, [⟨15, 0, .ro, 0x0, false⟩]⟩, -- TIME_SHI (Table 17.7)
  ⟨0x038, 1, 4, false, [⟨29, 0, .ro, 0x0, false⟩]⟩, -- TIME_NS (Table 17.8)
  ⟨0x03C, 1, 4, false, [⟨31, 24, .ro, 0x0, false⟩, ⟨23, 16, .ro, 0x0, false⟩]⟩ -- CNT (Table 17.9)
]

/-- Block registers of page CAN. -/
def canRegs : List RegD := [
  ⟨0x020, 1, 4, false, [⟨26, 16, .rw, 0x700, true⟩, ⟨9, 9, .rw, 0x1, true⟩, ⟨8, 8, .rw, 0x1, true⟩, ⟨7, 7, .rw, 0x0, true⟩, ⟨6, 6, .rw, 0x0, true⟩, ⟨3, 2, .rw, 0x1, true⟩, ⟨1, 0, .rw, 0x2, true⟩]⟩, -- CTRL (Table 17.11)
  ⟨0x024, 1, 4, false, [⟨0, 0, .wo, 0x0, false⟩]⟩, -- CMD (Table 17.12)
  ⟨0x028, 1, 4, false, [⟨31, 30, .ro, 0x0, false⟩, ⟨23, 16, .ro, 0x0, false⟩, ⟨8, 0, .ro, 0x0, false⟩]⟩, -- ERR (Table 17.13)
  ⟨0x030, 1, 4, false, [⟨6, 4, .wo, 0x0, false⟩, ⟨2, 0, .wo, 0x0, false⟩]⟩, -- TXCMD (Table 17.14)
  ⟨0x034, 1, 4, false, [⟨18, 16, .w1c, 0x0, false⟩, ⟨11, 0, .ro, 0x0, false⟩]⟩, -- TXSTAT (Table 17.15)
  ⟨0x038, 1, 4, false, [⟨31, 31, .ro, 0x0, false⟩, ⟨30, 30, .w1c, 0x0, false⟩, ⟨22, 16, .ro, 0x0, false⟩, ⟨15, 0, .ro, 0x0, false⟩]⟩, -- RXSTAT (Table 17.16)
  ⟨0x100, 20, 4, false, [⟨31, 0, .ro, 0x0, false⟩]⟩, -- RXWIN (Table 17.10)
  ⟨0x200, 20, 4, false, [⟨31, 0, .rw, 0x0, false⟩]⟩, -- TXB0 (Table 17.10)
  ⟨0x280, 20, 4, false, [⟨31, 0, .rw, 0x0, false⟩]⟩, -- TXB1 (Table 17.10)
  ⟨0x300, 20, 4, false, [⟨31, 0, .rw, 0x0, false⟩]⟩ -- TXB2 (Table 17.10)
]

/-- Block registers of page ALLOC. -/
def allocRegs : List RegD := [
  ⟨0x020, 1, 4, false, [⟨23, 16, .rw, 0xFF, true⟩, ⟨10, 10, .rw, 0x1, true⟩, ⟨9, 9, .rw, 0x1, true⟩, ⟨8, 8, .rw, 0x0, true⟩, ⟨5, 4, .rw, 0x1, true⟩, ⟨1, 0, .rw, 0x0, true⟩]⟩, -- CTRL (Table 13.1)
  ⟨0x024, 1, 4, false, [⟨31, 0, .rw, 0x0, false⟩]⟩, -- PCMD (Table 13.2)
  ⟨0x028, 1, 4, false, [⟨12, 0, .rw, 0x32, false⟩]⟩, -- PCMD_TMO (Table 13.3)
  ⟨0x02C, 1, 4, false, [⟨31, 31, .w1c, 0x0, false⟩, ⟨30, 30, .ro, 0x0, false⟩, ⟨27, 27, .ro, 0x0, false⟩, ⟨26, 24, .ro, 0x0, false⟩, ⟨23, 16, .ro, 0x0, false⟩, ⟨15, 0, .ro, 0x0, false⟩]⟩ -- STAT (Table 13.4)
]

/-- Block registers of page THERM. -/
def thermRegs : List RegD := [
  ⟨0x020, 1, 4, false, [⟨0, 0, .rw, 0x0, true⟩]⟩, -- CTRL (Table 15.3)
  ⟨0x024, 1, 4, false, [⟨31, 30, .ro, 0x0, false⟩, ⟨29, 29, .w1c, 0x0, false⟩, ⟨28, 20, .ro, 0x0, false⟩, ⟨19, 16, .ro, 0x0, false⟩, ⟨15, 8, .ro, 0x0, false⟩, ⟨7, 0, .ro, 0x0, false⟩]⟩, -- STAT (Table 15.4)
  ⟨0x040, 9, 4, false, [⟨15, 0, .ro, 0x8000, false⟩]⟩, -- DIE (Table 15.5)
  ⟨0x070, 4, 4, false, [⟨31, 24, .rw, 0x0, true⟩, ⟨23, 16, .rw, 0x0, true⟩, ⟨15, 8, .rw, 0x0, true⟩, ⟨7, 0, .rw, 0x0, true⟩]⟩, -- AX (Table 15.6)
  ⟨0x080, 16, 4, false, [⟨31, 24, .rw, 0x64, true⟩, ⟨23, 16, .rw, 0x64, true⟩, ⟨15, 8, .rw, 0x64, true⟩, ⟨7, 0, .rw, 0x64, true⟩]⟩, -- CMAP (Table 15.7)
  ⟨0x0C0, 16, 4, false, [⟨31, 24, .rw, 0x64, true⟩, ⟨23, 16, .rw, 0x64, true⟩, ⟨15, 8, .rw, 0x64, true⟩, ⟨7, 0, .rw, 0x64, true⟩]⟩, -- DMAP (Table 15.7)
  ⟨0x100, 8, 4, false, [⟨31, 16, .ro, 0x0, false⟩, ⟨15, 0, .ro, 0x0, false⟩]⟩ -- LIM (Table 15.8)
]

/-- Block registers of page EVT. -/
def evtRegs : List RegD := [
  ⟨0x020, 1, 4, false, [⟨31, 31, .ro, 0x0, false⟩, ⟨28, 18, .ro, 0x0, false⟩, ⟨17, 0, .ro, 0x0, false⟩]⟩, -- STAT (Table 19.4)
  ⟨0x024, 1, 4, false, [⟨31, 0, .ro, 0x1, false⟩]⟩, -- FIRST_SEQ (Table 19.5)
  ⟨0x028, 1, 4, false, [⟨31, 0, .ro, 0x1, false⟩]⟩, -- NEXT_SEQ (Table 19.6)
  ⟨0x02C, 1, 4, false, [⟨31, 0, .ro, 0x0, false⟩]⟩, -- DROPPED (Table 19.7)
  ⟨0x030, 1, 4, false, [⟨31, 0, .rw, 0x0, false⟩]⟩, -- CURSOR (Table 19.8)
  ⟨0x034, 1, 4, true, [⟨1, 1, .wo, 0x0, false⟩, ⟨0, 0, .wo, 0x0, false⟩]⟩, -- CMD (Table 19.9)
  ⟨0x038, 1, 4, false, [⟨31, 0, .ro, 0x0, false⟩]⟩, -- OPTIME_LO (Table 19.10)
  ⟨0x03C, 1, 4, false, [⟨31, 8, .ro, 0x0, false⟩, ⟨7, 0, .ro, 0x0, false⟩]⟩, -- OPTIME_HI (Table 19.11)
  ⟨0x040, 8, 4, false, [⟨31, 0, .ro, 0x0, false⟩]⟩ -- WIN (Table 19.12)
]

/-- Block registers of page UPD. -/
def updRegs : List RegD := [
  ⟨0x020, 1, 4, false, [⟨16, 16, .rw, 0x0, true⟩, ⟨11, 0, .rw, 0x258, true⟩]⟩, -- CTRL (Table 21.5)
  ⟨0x024, 1, 4, false, [⟨4, 4, .wo, 0x0, false⟩, ⟨3, 3, .wo, 0x0, false⟩, ⟨2, 2, .wo, 0x0, false⟩, ⟨1, 1, .wo, 0x0, false⟩, ⟨0, 0, .wo, 0x0, false⟩]⟩, -- CMD (Table 21.6)
  ⟨0x028, 1, 4, false, [⟨31, 29, .ro, 0x0, false⟩, ⟨28, 28, .ro, 0x0, false⟩, ⟨27, 27, .ro, 0x1, false⟩, ⟨26, 26, .w1c, 0x0, false⟩, ⟨25, 22, .ro, 0x0, false⟩, ⟨15, 8, .ro, 0x0, false⟩]⟩, -- STAT (Table 21.7)
  ⟨0x02C, 1, 4, false, [⟨31, 16, .ro, 0x0, false⟩, ⟨15, 0, .ro, 0x0, false⟩]⟩, -- VER (Table 21.8)
  ⟨0x030, 1, 4, false, [⟨31, 0, .rw, 0x0, false⟩]⟩, -- ACT_TIME_LO (Table 21.9)
  ⟨0x034, 1, 4, false, [⟨31, 16, .ro, 0x0, false⟩, ⟨15, 0, .rw, 0x0, false⟩]⟩, -- ACT_TIME_HI (Table 21.10)
  ⟨0x038, 1, 4, false, [⟨31, 0, .rw, 0x0, false⟩]⟩, -- STAGE_OFF (Table 21.11)
  ⟨0x200, 128, 4, false, [⟨31, 0, .rw, 0x0, false⟩]⟩ -- STAGE_WIN (Table 21.12)
]

/-- Block registers of page SEC. -/
def secRegs : List RegD := [
  ⟨0x020, 1, 4, false, [⟨31, 30, .ro, 0x0, false⟩, ⟨29, 29, .ro, 0x1, false⟩, ⟨27, 24, .ro, 0x0, false⟩, ⟨23, 20, .ro, 0x0, false⟩, ⟨15, 0, .ro, 0x0, false⟩]⟩, -- STAT (Table 21.13)
  ⟨0x024, 1, 4, true, [⟨1, 1, .wo, 0x0, false⟩, ⟨0, 0, .wo, 0x0, false⟩]⟩, -- CMD (Table 21.14)
  ⟨0x028, 1, 4, false, [⟨31, 28, .rw, 0x0, false⟩, ⟨25, 24, .rw, 0x0, false⟩, ⟨11, 0, .rw, 0x0, false⟩]⟩, -- OBJ_CTRL (Table 21.15)
  ⟨0x200, 128, 4, false, [⟨31, 0, .rw, 0x0, false⟩]⟩ -- OBJ_WIN (Table 21.16)
]

/-- Block registers of page TWIN. -/
def twinRegs : List RegD := [
  ⟨0x020, 1, 4, false, [⟨0, 0, .rw, 0x0, true⟩]⟩, -- CFG (Table 18.5)
  ⟨0x024, 1, 4, false, [⟨15, 8, .rw, 0xFF, true⟩, ⟨7, 0, .rw, 0x0, true⟩]⟩, -- CHCFG (Table 18.6)
  ⟨0x028, 1, 4, false, [⟨31, 31, .ro, 0x0, false⟩, ⟨30, 30, .ro, 0x0, false⟩, ⟨29, 29, .ro, 0x0, false⟩, ⟨28, 28, .ro, 0x0, false⟩, ⟨27, 24, .ro, 0x0, false⟩, ⟨23, 16, .ro, 0x0, false⟩, ⟨15, 8, .w1c, 0x0, false⟩, ⟨7, 0, .ro, 0x0, false⟩]⟩, -- STAT (Table 18.7)
  ⟨0x02C, 1, 4, false, [⟨31, 0, .ro, 0x0, false⟩]⟩, -- OFFSET (Table 18.8)
  ⟨0x030, 1, 4, false, [⟨7, 0, .wo, 0x0, false⟩]⟩, -- CMD (Table 18.9)
  ⟨0x034, 1, 4, false, [⟨31, 24, .ro, 0x0, false⟩, ⟨23, 16, .ro, 0x0, false⟩, ⟨15, 8, .ro, 0x0, false⟩, ⟨7, 0, .ro, 0x0, false⟩]⟩ -- CNT (Table 18.10)
]

/-- Block registers of page HLTH. -/
def hlthRegs : List RegD := [
  ⟨0x020, 1, 4, true, [⟨0, 0, .rw, 0x1, true⟩]⟩, -- CTRL (Table 14.20)
  ⟨0x024, 1, 4, false, [⟨31, 24, .ro, 0x0, false⟩, ⟨23, 16, .ro, 0x0, false⟩, ⟨6, 6, .ro, 0x0, false⟩, ⟨5, 5, .ro, 0x0, false⟩, ⟨4, 4, .ro, 0x0, false⟩, ⟨3, 3, .ro, 0x0, false⟩, ⟨2, 2, .ro, 0x0, false⟩, ⟨1, 1, .ro, 0x0, false⟩, ⟨0, 0, .ro, 0x0, false⟩]⟩ -- STAT (Table 14.21)
]

/-- Block registers of page TEST. -/
def testRegs : List RegD := [
  ⟨0x020, 1, 4, true, [⟨0, 0, .wo, 0x0, false⟩]⟩, -- UNLOCK (Table 21.17)
  ⟨0x024, 1, 4, false, [⟨31, 31, .ro, 0x0, false⟩, ⟨30, 30, .ro, 0x0, false⟩, ⟨29, 29, .ro, 0x0, false⟩, ⟨28, 28, .w1c, 0x0, false⟩]⟩ -- STAT (Table 21.18)
]

/-- Block registers of page CH. -/
def chRegs : List RegD := [
  ⟨0x020, 1, 4, false, [⟨15, 8, .ro, 0x0, false⟩, ⟨7, 4, .ro, 0x0, false⟩, ⟨3, 0, .ro, 0x0, false⟩]⟩, -- STATE (Table 3.5a)
  ⟨0x024, 1, 4, false, [⟨8, 8, .ro, 0x0, false⟩, ⟨7, 7, .w1c, 0x0, false⟩, ⟨6, 6, .w1c, 0x0, false⟩, ⟨5, 5, .w1c, 0x0, false⟩, ⟨4, 4, .w1c, 0x0, false⟩, ⟨3, 3, .ro, 0x0, false⟩, ⟨2, 2, .ro, 0x0, false⟩, ⟨1, 1, .ro, 0x0, false⟩, ⟨0, 0, .ro, 0x0, false⟩]⟩ -- CONN (Table 2.6)
]

/-- Block registers of page RING. -/
def ringRegs : List RegD := [
  ⟨0x020, 1, 4, false, [⟨31, 31, .rwi, 0x0, false⟩, ⟨8, 8, .rwi, 0x0, false⟩, ⟨5, 4, .rwi, 0x0, false⟩, ⟨3, 0, .rw, 0x3, false⟩]⟩, -- CTRL (Table 5.12)
  ⟨0x024, 1, 4, false, [⟨31, 28, .ro, 0x0, false⟩, ⟨27, 24, .ro, 0x0, false⟩, ⟨23, 23, .ro, 0x0, false⟩, ⟨22, 22, .ro, 0x0, false⟩, ⟨21, 21, .ro, 0x0, false⟩, ⟨16, 8, .ro, 0x0, false⟩, ⟨4, 0, .ro, 0x0, false⟩]⟩, -- STAT (Table 5.13)
  ⟨0x028, 1, 4, false, [⟨24, 16, .rwi, 0x0, true⟩, ⟨4, 0, .rwi, 0x0, true⟩]⟩, -- EXPECT (Table 5.14)
  ⟨0x02C, 1, 4, false, [⟨31, 31, .ro, 0x0, false⟩, ⟨20, 16, .ro, 0x0, false⟩, ⟨12, 8, .ro, 0x0, false⟩, ⟨7, 0, .ro, 0x0, false⟩]⟩, -- BREAK (Table 5.15)
  ⟨0x030, 1, 4, false, [⟨31, 16, .ro, 0x0, false⟩, ⟨13, 0, .ro, 0x0, false⟩]⟩, -- DELAY (Table 5.16)
  ⟨0x034, 1, 4, false, [⟨31, 24, .ro, 0x0, false⟩, ⟨23, 16, .ro, 0x0, false⟩, ⟨15, 8, .ro, 0x0, false⟩, ⟨7, 0, .ro, 0x0, false⟩]⟩, -- ERRCNT (Table 5.17)
  ⟨0x040, 26, 4, false, [⟨31, 16, .ro, 0xFFFF, false⟩, ⟨15, 0, .ro, 0xFFFF, false⟩]⟩ -- TDLY (Table 5.18)
]

/-- Block registers of page POUR. -/
def pourRegs : List RegD := [
  ⟨0x020, 1, 4, false, [⟨5, 4, .rwi, 0x0, false⟩, ⟨3, 0, .rwi, 0xF, false⟩]⟩, -- CTRL (Table 6.7)
  ⟨0x024, 1, 4, false, [⟨31, 30, .ros, 0x3, false⟩, ⟨29, 29, .ros, 0x0, false⟩, ⟨28, 28, .ros, 0x0, false⟩, ⟨27, 27, .ros, 0x0, false⟩, ⟨26, 26, .ros, 0x0, false⟩, ⟨25, 25, .ros, 0x0, false⟩, ⟨24, 24, .ros, 0x0, false⟩, ⟨23, 16, .ros, 0x0, false⟩, ⟨15, 0, .ros, 0x0, false⟩]⟩, -- STAT (Table 6.8)
  ⟨0x028, 1, 4, false, [⟨31, 24, .rwi, 0xA, true⟩, ⟨23, 16, .rwi, 0xA, true⟩, ⟨15, 8, .rwi, 0xA, true⟩, ⟨7, 0, .rwi, 0xA, true⟩]⟩, -- SDCFG (Table 6.9)
  ⟨0x02C, 1, 4, false, [⟨31, 24, .ro, 0xFF, false⟩, ⟨23, 16, .ro, 0xFF, false⟩, ⟨15, 8, .ro, 0xFF, false⟩, ⟨7, 0, .ro, 0xFF, false⟩]⟩, -- SDRTT (Table 6.10)
  ⟨0x030, 1, 4, false, [⟨31, 16, .ro, 0x0, false⟩, ⟨15, 0, .ro, 0x0, false⟩]⟩ -- CNT (Table 6.11)
]

/-- Block registers of page CDIAG. -/
def cdiagRegs : List RegD := [
  ⟨0x020, 1, 4, false, [⟨1, 0, .rw, 0x0, false⟩]⟩, -- CTRL (Table 8.3)
  ⟨0x024, 1, 4, true, [⟨31, 24, .rw, 0x1E, false⟩, ⟨23, 16, .rw, 0x32, false⟩, ⟨8, 0, .rw, 0x64, false⟩]⟩, -- OWCFG (Table 8.4)
  ⟨0x028, 1, 4, true, [⟨9, 0, .rw, 0xC8, false⟩]⟩, -- PAIR (Table 8.5)
  ⟨0x02C, 1, 4, true, [⟨31, 16, .rw, 0x9088, false⟩, ⟨15, 0, .rw, 0x61A8, false⟩]⟩, -- CMP (Table 8.6)
  ⟨0x030, 1, 4, false, [⟨31, 24, .ro, 0x0, false⟩, ⟨23, 23, .w1c, 0x0, false⟩, ⟨22, 22, .w1c, 0x0, false⟩]⟩, -- STAT (Table 8.7)
  ⟨0x034, 1, 4, false, [⟨31, 24, .ro, 0x0, true⟩, ⟨20, 16, .ro, 0x0, true⟩, ⟨15, 8, .ro, 0x0, true⟩, ⟨4, 0, .ro, 0x0, true⟩]⟩, -- SUSPECT (Table 8.8)
  ⟨0x038, 1, 4, false, [⟨31, 24, .ro, 0x0, false⟩, ⟨20, 16, .ro, 0x0, false⟩, ⟨15, 14, .ro, 0x0, false⟩, ⟨11, 0, .ro, 0x0, false⟩]⟩, -- LAST (Table 8.9)
  ⟨0x03C, 1, 4, false, [⟨28, 24, .wo, 0x0, false⟩, ⟨20, 16, .wo, 0x0, false⟩, ⟨1, 1, .wo, 0x0, false⟩, ⟨0, 0, .wo, 0x0, false⟩]⟩, -- CMD (Table 8.10)
  ⟨0x040, 1, 4, false, [⟨31, 16, .ro, 0x0, false⟩, ⟨15, 8, .ro, 0x0, false⟩, ⟨7, 0, .ro, 0x0, false⟩]⟩ -- CNT (Table 8.11)
]

/-- Block registers of page BAL. -/
def balRegs : List RegD := [
  ⟨0x020, 1, 4, false, [⟨15, 8, .rwi, 0x64, false⟩, ⟨1, 0, .rw, 0x0, false⟩]⟩, -- CTRL (Table 8.12)
  ⟨0x024, 1, 4, false, [⟨31, 16, .rw, 0xE10, false⟩, ⟨15, 0, .rw, 0x32, false⟩]⟩, -- AUTO (Table 8.13)
  ⟨0x028, 1, 4, false, [⟨31, 24, .wo, 0x0, false⟩, ⟨23, 16, .wo, 0x0, false⟩, ⟨15, 0, .wo, 0x0, false⟩]⟩, -- HCMD (Table 8.14)
  ⟨0x02C, 1, 4, false, [⟨11, 0, .rw, 0xA, false⟩]⟩, -- HOST_TMO (Table 8.15)
  ⟨0x030, 1, 4, false, [⟨31, 23, .ros, 0x0, false⟩, ⟨15, 8, .ros, 0x0, false⟩, ⟨7, 0, .ros, 0x0, false⟩]⟩, -- STAT (Table 8.16)
  ⟨0x034, 1, 4, false, [⟨25, 0, .ros, 0x0, false⟩]⟩, -- LIMITED (Table 8.17)
  ⟨0x038, 1, 4, false, [⟨25, 0, .ro, 0x0, false⟩]⟩, -- WFAIL (Table 8.18)
  ⟨0x040, 26, 4, false, [⟨31, 24, .ros, 0x0, false⟩, ⟨23, 16, .ros, 0x64, false⟩, ⟨15, 0, .ros, 0x0, false⟩]⟩ -- ACT (Table 8.19)
]

/-- Block registers of page CTLE. -/
def ctleRegs : List RegD := [
  ⟨0x020, 1, 4, false, [⟨31, 31, .rw, 0x0, false⟩, ⟨29, 16, .rwi, 0x1F4, false⟩, ⟨13, 12, .rwi, 0x3, false⟩, ⟨9, 8, .rwi, 0x1, false⟩, ⟨5, 0, .rwi, 0x14, false⟩]⟩, -- CTRL (Table 9.5)
  ⟨0x024, 1, 4, true, [⟨31, 16, .rwi, 0x0, false⟩, ⟨15, 0, .rwi, 0x0, false⟩]⟩, -- STAGE (Table 9.6)
  ⟨0x028, 1, 4, false, [⟨31, 31, .ro, 0x0, true⟩, ⟨30, 30, .ro, 0x0, false⟩, ⟨2, 2, .wo, 0x0, false⟩, ⟨1, 1, .wo, 0x0, false⟩, ⟨0, 0, .wo, 0x0, false⟩]⟩, -- BANKSEL (Table 9.7)
  ⟨0x02C, 1, 4, false, [⟨31, 0, .rw, 0x0, false⟩]⟩, -- SWAP_EPOCH (Table 9.8)
  ⟨0x030, 1, 4, false, [⟨31, 30, .ro, 0x0, false⟩, ⟨29, 29, .ro, 0x1, false⟩, ⟨28, 28, .ro, 0x0, false⟩, ⟨27, 27, .ro, 0x0, false⟩, ⟨26, 26, .ro, 0x0, false⟩, ⟨25, 25, .ro, 0x0, false⟩, ⟨24, 24, .ro, 0x0, false⟩, ⟨23, 23, .ro, 0x0, false⟩, ⟨22, 22, .ro, 0x0, false⟩, ⟨21, 21, .ro, 0x0, false⟩, ⟨20, 20, .w1c, 0x0, false⟩, ⟨15, 8, .ro, 0x0, false⟩, ⟨3, 0, .ro, 0x0, false⟩]⟩, -- STAT (Table 9.9)
  ⟨0x034, 1, 4, false, [⟨31, 0, .ro, 0x0, false⟩]⟩, -- IREF (Table 9.10)
  ⟨0x038, 1, 4, false, [⟨31, 16, .ro, 0x0, false⟩, ⟨15, 0, .ro, 0x0, false⟩]⟩, -- MODEL (Table 9.11)
  ⟨0x03C, 1, 4, false, [⟨31, 16, .ro, 0x0, false⟩, ⟨15, 8, .ro, 0x0, false⟩, ⟨7, 0, .ro, 0x0, false⟩]⟩, -- CNT (Table 9.12)
  ⟨0x040, 1, 4, false, [⟨31, 0, .rwi, 0x3F000000, false⟩]⟩, -- ILOOP_KP (Table 9.13)
  ⟨0x044, 1, 4, false, [⟨31, 0, .rwi, 0x447A0000, false⟩]⟩, -- ILOOP_KI (Table 9.14)
  ⟨0x048, 1, 4, false, [⟨31, 31, .wo, 0x0, false⟩, ⟨30, 30, .wo, 0x0, false⟩, ⟨29, 29, .ro, 0x0, false⟩, ⟨28, 28, .w1c, 0x0, false⟩, ⟨25, 24, .rw, 0x0, false⟩, ⟨21, 20, .rw, 0x0, false⟩, ⟨15, 0, .rw, 0x3E8, false⟩]⟩, -- INJ_CTRL (Table 9.15)
  ⟨0x04C, 1, 4, false, [⟨31, 16, .rw, 0x0, false⟩, ⟨15, 0, .rw, 0x0, false⟩]⟩, -- INJ_PARAM (Table 9.16)
  ⟨0x050, 1, 4, false, [⟨31, 31, .wo, 0x0, false⟩, ⟨27, 24, .rw, 0x1, false⟩, ⟨19, 16, .rw, 0x0, false⟩, ⟨15, 8, .rw, 0x1, false⟩, ⟨1, 0, .rw, 0x0, false⟩]⟩, -- CAP_CTRL (Table 9.17)
  ⟨0x054, 1, 4, false, [⟨31, 31, .ro, 0x0, false⟩, ⟨30, 30, .ro, 0x0, false⟩, ⟨28, 16, .ro, 0x0, false⟩, ⟨15, 0, .ro, 0x0, false⟩]⟩, -- CAP_STAT (Table 9.18)
  ⟨0x058, 1, 4, false, [⟨31, 0, .ro, 0x0, false⟩]⟩ -- CAP_DATA (Table 9.19)
]

/-- Block registers of page CBK0 (and CBK1, Table 9.2). -/
def cbk0Regs : List RegD := [
  ⟨0x020, 1, 4, false, [⟨31, 0, .rw, 0x3F000000, true⟩]⟩, -- KP (Table 9.2)
  ⟨0x024, 1, 4, false, [⟨31, 0, .rw, 0x447A0000, true⟩]⟩, -- KI (Table 9.2)
  ⟨0x028, 1, 4, false, [⟨31, 0, .rw, 0x43480000, true⟩]⟩, -- KAW (Table 9.2)
  ⟨0x02C, 1, 4, false, [⟨31, 0, .rw, 0xC2480000, true⟩]⟩, -- XMIN (Table 9.2)
  ⟨0x030, 1, 4, false, [⟨31, 0, .rw, 0x42480000, true⟩]⟩, -- XMAX (Table 9.2)
  ⟨0x034, 1, 4, false, [⟨31, 0, .rw, 0x3CA3D70A, true⟩]⟩, -- DMIN (Table 9.2)
  ⟨0x038, 1, 4, false, [⟨31, 0, .rw, 0x3F733333, true⟩]⟩, -- DMAX (Table 9.2)
  ⟨0x03C, 1, 4, false, [⟨31, 0, .rw, 0x40000000, true⟩]⟩, -- KVP (Table 9.2)
  ⟨0x040, 1, 4, false, [⟨31, 0, .rw, 0x43480000, true⟩]⟩, -- KVI (Table 9.2)
  ⟨0x044, 1, 4, false, [⟨31, 0, .rw, 0x44BB8000, true⟩]⟩, -- VSTR_MAX (Table 9.2)
  ⟨0x048, 1, 4, false, [⟨31, 0, .rw, 0x44480000, true⟩]⟩, -- VSTR_MIN (Table 9.2)
  ⟨0x04C, 1, 4, false, [⟨31, 0, .rw, 0x44BB8000, true⟩]⟩, -- VBUS_MAX (Table 9.2)
  ⟨0x050, 1, 4, false, [⟨31, 0, .rw, 0x44160000, true⟩]⟩, -- VBUS_MIN (Table 9.2)
  ⟨0x054, 1, 4, false, [⟨31, 0, .rw, 0x3F000000, true⟩]⟩, -- PKP (Table 9.2)
  ⟨0x058, 1, 4, false, [⟨31, 0, .rw, 0x41A00000, true⟩]⟩, -- PKI (Table 9.2)
  ⟨0x05C, 1, 4, false, [⟨31, 0, .rw, 0x40A00000, true⟩]⟩, -- PRE_IMAX (Table 9.2)
  ⟨0x060, 1, 4, false, [⟨31, 0, .rw, 0x3F800000, true⟩]⟩, -- PRE_RATE (Table 9.2)
  ⟨0x064, 1, 4, false, [⟨31, 0, .rw, 0x40A00000, true⟩]⟩, -- PRE_WIN (Table 9.2)
  ⟨0x068, 1, 4, false, [⟨31, 0, .rw, 0x42480000, true⟩]⟩, -- PRE_FE_LIM (Table 9.2)
  ⟨0x06C, 1, 4, false, [⟨31, 0, .rw, 0x43FA0000, true⟩]⟩, -- PRE_FE_TIME (Table 9.2)
  ⟨0x070, 1, 4, false, [⟨31, 0, .rw, 0x3B03126F, true⟩]⟩, -- MP_TAU (Table 9.2)
  ⟨0x074, 1, 4, false, [⟨31, 0, .rw, 0x41A00000, true⟩]⟩, -- MP_THRESH (Table 9.2)
  ⟨0x078, 1, 4, false, [⟨31, 0, .rw, 0x3C23D70A, true⟩]⟩, -- MP_RL (Table 9.2)
  ⟨0x07C, 1, 4, false, [⟨31, 0, .rw, 0x41700000, true⟩]⟩, -- VP_THRESH (Table 9.2)
  ⟨0x080, 1, 4, false, [⟨31, 0, .rw, 0x3BA3D70A, true⟩]⟩, -- R_CONN (Table 9.2)
  ⟨0x084, 1, 4, false, [⟨31, 0, .rw, 0x40A00000, true⟩]⟩, -- POS_KP (Table 9.2)
  ⟨0x088, 1, 4, false, [⟨31, 0, .rw, 0x43800000, true⟩]⟩, -- POS_FE_LIM (Table 9.2)
  ⟨0x08C, 1, 4, false, [⟨31, 0, .rw, 0x43480000, true⟩]⟩ -- POS_FE_TIME (Table 9.2)
]

/-- Block registers of page PROF. -/
def profRegs : List RegD := [
  ⟨0x020, 1, 4, false, [⟨31, 0, .rw, 0x0, false⟩]⟩, -- CUR_TARGET (Table 10.4)
  ⟨0x024, 1, 4, false, [⟨31, 20, .rw, 0x64, false⟩, ⟨19, 10, .rw, 0xA, false⟩, ⟨9, 0, .rw, 0x1, false⟩]⟩, -- CUR_LIM (Table 10.5)
  ⟨0x028, 1, 4, false, [⟨31, 20, .rw, 0x3E8, false⟩, ⟨19, 10, .rw, 0x64, false⟩, ⟨9, 0, .rw, 0x14, false⟩]⟩, -- CUR_STOP (Table 10.6)
  ⟨0x02C, 1, 4, false, [⟨31, 0, .rw, 0x0, false⟩]⟩, -- VLV_TARGET (Table 10.7)
  ⟨0x030, 1, 4, false, [⟨31, 20, .rw, 0xC8, false⟩, ⟨19, 10, .rw, 0x32, false⟩, ⟨9, 0, .rw, 0xA, false⟩]⟩, -- VLV_LIM (Table 10.8)
  ⟨0x034, 1, 4, false, [⟨0, 0, .wo, 0x0, false⟩]⟩, -- CTRL (Table 10.9)
  ⟨0x038, 1, 4, false, [⟨31, 31, .ro, 0x0, false⟩, ⟨30, 30, .ro, 0x0, false⟩, ⟨29, 29, .ro, 0x0, false⟩, ⟨28, 28, .ro, 0x0, false⟩, ⟨27, 27, .w1c, 0x0, false⟩, ⟨26, 26, .w1c, 0x0, false⟩, ⟨25, 24, .ro, 0x0, false⟩]⟩, -- STAT (Table 10.10)
  ⟨0x03C, 1, 4, false, [⟨31, 0, .ro, 0x0, false⟩]⟩ -- CUR_OUT (Table 10.11)
]

/-- Block registers of page VAX. -/
def vaxRegs : List RegD := [
  ⟨0x020, 1, 4, false, [⟨31, 31, .wo, 0x0, false⟩, ⟨29, 29, .wo, 0x0, false⟩, ⟨9, 8, .rw, 0x0, false⟩, ⟨2, 2, .rw, 0x0, true⟩, ⟨1, 1, .rw, 0x0, false⟩, ⟨0, 0, .rw, 0x0, false⟩]⟩, -- CTRL (Table 10.12)
  ⟨0x024, 1, 4, false, [⟨31, 24, .rw, 0x64, false⟩, ⟨23, 16, .rw, 0x32, false⟩, ⟨15, 8, .rw, 0x14, false⟩, ⟨3, 0, .rw, 0x3, false⟩]⟩, -- DRIVE (Table 10.13)
  ⟨0x028, 1, 4, false, [⟨31, 16, .rwi, 0x100, false⟩, ⟨15, 0, .rw, 0x100, false⟩]⟩, -- ENC (Table 10.14)
  ⟨0x02C, 1, 4, false, [⟨31, 20, .rw, 0x64, false⟩, ⟨19, 8, .rw, 0x10, false⟩, ⟨7, 0, .rw, 0x3C, false⟩]⟩, -- HOME (Table 10.15)
  ⟨0x030, 1, 4, false, [⟨31, 0, .rw, 0x0, false⟩]⟩, -- HOME_POS (Table 10.16)
  ⟨0x034, 1, 4, false, [⟨31, 16, .rw, 0xFA0, false⟩, ⟨15, 0, .rw, 0x0, false⟩]⟩, -- RANGE (Table 10.17)
  ⟨0x038, 1, 4, false, [⟨31, 31, .ro, 0x0, false⟩, ⟨30, 30, .ro, 0x0, false⟩, ⟨29, 29, .ro, 0x0, false⟩, ⟨28, 28, .ro, 0x0, false⟩, ⟨27, 27, .ro, 0x0, false⟩, ⟨26, 26, .ro, 0x0, false⟩, ⟨25, 25, .ro, 0x0, false⟩, ⟨23, 20, .ro, 0x0, false⟩, ⟨15, 0, .ro, 0x0, false⟩]⟩, -- STAT (Table 10.18)
  ⟨0x03C, 1, 4, false, [⟨31, 0, .ros, 0x0, false⟩]⟩ -- POS (Table 10.19)
]

/-- Block registers of page IMP. -/
def impRegs : List RegD := [
  ⟨0x020, 1, 4, false, [⟨31, 28, .rw, 0x3, true⟩, ⟨27, 24, .rw, 0x2, true⟩, ⟨20, 16, .rw, 0x4, true⟩, ⟨8, 8, .rw, 0x0, true⟩, ⟨5, 4, .rw, 0x0, true⟩, ⟨1, 0, .rw, 0x0, true⟩]⟩, -- CTRL (Table 11.4)
  ⟨0x024, 1, 4, false, [⟨31, 16, .rw, 0x3C, false⟩, ⟨15, 8, .rw, 0x14, false⟩, ⟨4, 0, .rw, 0x5, false⟩]⟩, -- SCHED (Table 11.5)
  ⟨0x028, 1, 4, false, [⟨31, 16, .ro, 0x0, false⟩, ⟨15, 0, .rw, 0x64, false⟩]⟩, -- AMP (Table 11.6)
  ⟨0x030, 16, 4, false, [⟨19, 16, .rw, 0x4, true⟩, ⟨12, 0, .rw, 0x0, true⟩]⟩, -- TONE (Table 11.7)
  ⟨0x070, 1, 4, false, [⟨1, 1, .wo, 0x0, false⟩, ⟨0, 0, .wo, 0x0, false⟩]⟩, -- CMD (Table 11.8)
  ⟨0x074, 1, 4, false, [⟨31, 30, .ro, 0x0, false⟩, ⟨29, 29, .ro, 0x0, false⟩, ⟨28, 28, .w1c, 0x0, false⟩, ⟨27, 27, .ro, 0x0, false⟩, ⟨26, 26, .ro, 0x0, false⟩, ⟨23, 16, .ro, 0x0, false⟩, ⟨15, 0, .ro, 0x0, false⟩]⟩ -- STAT (Table 11.9)
]

/-- Block registers of page EST. -/
def estRegs : List RegD := [
  ⟨0x020, 1, 4, false, [⟨31, 31, .wo, 0x0, false⟩, ⟨30, 30, .wo, 0x0, false⟩, ⟨0, 0, .rw, 0x1, true⟩]⟩, -- CTRL (Table 12.8)
  ⟨0x024, 1, 4, false, [⟨31, 30, .ros, 0x3, false⟩, ⟨29, 29, .ros, 0x0, false⟩, ⟨28, 28, .ro, 0x0, false⟩, ⟨27, 27, .w1c, 0x0, false⟩, ⟨26, 26, .ro, 0x0, false⟩, ⟨25, 25, .ro, 0x0, false⟩, ⟨15, 0, .ro, 0x0, false⟩]⟩, -- STAT (Table 12.9)
  ⟨0x028, 1, 4, false, [⟨9, 0, .rwi, 0x0, false⟩]⟩, -- CHEM_ADDR (Table 12.10)
  ⟨0x02C, 1, 4, false, [⟨31, 0, .rwi, 0x0, false⟩]⟩, -- CHEM_DATA (Table 12.11)
  ⟨0x030, 1, 4, true, [⟨31, 16, .ro, 0xFFFF, false⟩, ⟨0, 0, .wo, 0x0, false⟩]⟩, -- CHEM_CMD (Table 12.12)
  ⟨0x034, 1, 4, false, [⟨31, 0, .ro, 0x0, false⟩]⟩, -- CHEM_ID (Table 12.13)
  ⟨0x038, 1, 4, false, [⟨31, 24, .rw, 0x32, true⟩, ⟨23, 12, .rw, 0x5, true⟩, ⟨11, 0, .rw, 0x14, true⟩]⟩, -- NOISE (Table 12.14)
  ⟨0x03C, 1, 4, false, [⟨31, 24, .rw, 0x4, true⟩, ⟨23, 16, .rw, 0x5, true⟩, ⟨15, 8, .rw, 0x2, true⟩]⟩, -- ENV (Table 12.15)
  ⟨0x040, 1, 4, false, [⟨31, 28, .ro, 0x0, false⟩, ⟨27, 24, .ro, 0x0, false⟩, ⟨23, 16, .rw, 0x40, false⟩, ⟨15, 8, .ro, 0x0, false⟩, ⟨7, 0, .ro, 0x0, false⟩]⟩, -- LEARN (Table 12.16)
  ⟨0x044, 1, 4, false, [⟨31, 31, .wo, 0x0, false⟩, ⟨30, 30, .wo, 0x0, false⟩, ⟨29, 28, .ro, 0x0, false⟩, ⟨25, 24, .rw, 0x0, false⟩]⟩, -- ICAL (Table 12.17)
  ⟨0x048, 1, 4, false, [⟨31, 0, .rw, 0x0, false⟩]⟩, -- ICAL_REF (Table 12.18)
  ⟨0x04C, 1, 4, false, [⟨31, 16, .ro, 0x0, false⟩, ⟨15, 0, .ro, 0x0, false⟩]⟩ -- CNT (Table 12.19)
]

/-- Block registers of page SAFE. -/
def safeRegs : List RegD := [
  ⟨0x020, 1, 4, true, [⟨31, 16, .rwi, 0x9088, true⟩, ⟨15, 0, .rwi, 0x61A8, true⟩]⟩, -- CELL (Table 14.8)
  ⟨0x024, 1, 4, true, [⟨31, 16, .rwi, 0x0, true⟩, ⟨15, 8, .rwi, 0x3C, true⟩]⟩, -- LIMIT (Table 14.9)
  ⟨0x028, 1, 4, true, [⟨7, 4, .rwi, 0xF, true⟩, ⟨3, 0, .rwi, 0x0, true⟩]⟩, -- SICFG (Table 14.10)
  ⟨0x02C, 1, 4, false, [⟨19, 16, .ro, 0x0, false⟩, ⟨15, 12, .ro, 0x0, false⟩, ⟨11, 8, .ro, 0x0, false⟩, ⟨7, 4, .ro, 0x0, false⟩, ⟨3, 0, .ro, 0x0, false⟩]⟩, -- SISTAT (Table 14.11)
  ⟨0x030, 1, 4, true, [⟨31, 16, .rw, 0x1E0, false⟩, ⟨15, 0, .ro, 0x0, false⟩]⟩, -- DEG (Table 14.12)
  ⟨0x034, 1, 4, false, [⟨31, 31, .ro, 0x0, false⟩, ⟨3, 0, .ro, 0x0, false⟩]⟩, -- DEG_STAT (Table 14.13)
  ⟨0x038, 1, 4, false, [⟨31, 24, .ro, 0x0, false⟩, ⟨23, 16, .ro, 0x0, false⟩, ⟨15, 0, .ro, 0x0, false⟩]⟩, -- TRIPREC (Table 14.14)
  ⟨0x03C, 1, 4, false, [⟨31, 0, .ro, 0x0, false⟩]⟩, -- TRIPEPOCH (Table 14.15)
  ⟨0x040, 1, 4, false, [⟨1, 1, .wo, 0x0, false⟩, ⟨0, 0, .wo, 0x0, false⟩]⟩ -- CMD (Table 14.16)
]

/-- Block registers of page CONT. -/
def contRegs : List RegD := [
  ⟨0x020, 1, 4, false, [⟨1, 1, .wo, 0x0, false⟩, ⟨0, 0, .wo, 0x0, false⟩]⟩, -- CMD (Table 14.17)
  ⟨0x024, 1, 4, false, [⟨31, 24, .rwi, 0xA, true⟩, ⟨15, 0, .rwi, 0x64, true⟩]⟩, -- CFG (Table 14.18)
  ⟨0x028, 1, 4, false, [⟨31, 28, .ro, 0x0, false⟩, ⟨27, 27, .ro, 0x0, false⟩, ⟨26, 26, .ro, 0x0, false⟩, ⟨25, 25, .ro, 0x1, false⟩, ⟨5, 5, .ro, 0x0, false⟩, ⟨4, 4, .ro, 0x0, false⟩, ⟨3, 3, .ro, 0x0, false⟩, ⟨2, 2, .ro, 0x0, false⟩, ⟨1, 1, .ro, 0x0, false⟩, ⟨0, 0, .ro, 0x0, false⟩]⟩ -- STAT (Table 14.19)
]

/-- Block registers of page PERC. -/
def percRegs : List RegD := [
  ⟨0x020, 1, 4, false, [⟨8, 8, .rw, 0x0, true⟩, ⟨1, 0, .rw, 0x0, false⟩]⟩, -- CTRL (Table 16.6)
  ⟨0x024, 1, 4, false, [⟨31, 30, .ro, 0x0, false⟩, ⟨29, 27, .ro, 0x0, false⟩, ⟨26, 24, .ro, 0x0, false⟩, ⟨23, 21, .ro, 0x0, false⟩, ⟨20, 16, .ro, 0x0, false⟩, ⟨15, 15, .w1c, 0x0, false⟩, ⟨14, 14, .ro, 0x0, false⟩]⟩, -- STAT (Table 16.7)
  ⟨0x028, 1, 4, false, [⟨31, 0, .ro, 0x0, false⟩]⟩, -- PROG_ID (Table 16.8)
  ⟨0x02C, 1, 4, false, [⟨15, 0, .rw, 0x0, false⟩]⟩, -- PROG_ADDR (Table 16.9)
  ⟨0x030, 1, 4, false, [⟨31, 0, .rw, 0x0, false⟩]⟩, -- PROG_DATA (Table 16.10)
  ⟨0x034, 1, 4, false, [⟨2, 2, .wo, 0x0, false⟩, ⟨1, 1, .wo, 0x0, false⟩, ⟨0, 0, .wo, 0x0, false⟩]⟩, -- CMD (Table 16.11)
  ⟨0x040, 8, 4, false, [⟨31, 30, .ro, 0x0, false⟩, ⟨29, 20, .ro, 0x0, false⟩, ⟨19, 10, .ro, 0x0, false⟩, ⟨9, 7, .ro, 0x0, false⟩]⟩, -- TASK (Table 16.12)
  ⟨0x060, 8, 4, false, [⟨31, 16, .ro, 0x0, false⟩, ⟨15, 0, .ro, 0x0, false⟩]⟩, -- TSTAT (Table 16.13)
  ⟨0x080, 1, 4, false, [⟨25, 0, .ro, 0x0, false⟩]⟩, -- OUTFAIL (Table 16.14)
  ⟨0x090, 4, 4, false, [⟨31, 0, .ro, 0x0, false⟩]⟩, -- SAFE (Table 16.15)
  ⟨0x0B0, 1, 4, false, [⟨31, 16, .ro, 0x0, false⟩, ⟨15, 0, .ro, 0x0, false⟩]⟩ -- CNT (Table 16.16)
]

/-- Block registers of page FIFO. -/
def fifoRegs : List RegD := [
  ⟨0x020, 1, 4, false, [⟨2, 2, .rwi, 0x0, false⟩, ⟨1, 1, .rw, 0x0, false⟩, ⟨0, 0, .rw, 0x0, false⟩]⟩, -- CTRL (Table 7.3)
  ⟨0x024, 1, 4, false, [⟨3, 3, .wo, 0x0, false⟩, ⟨2, 2, .wo, 0x0, false⟩, ⟨1, 1, .wo, 0x0, false⟩, ⟨0, 0, .wo, 0x0, false⟩]⟩, -- CMD (Table 7.4)
  ⟨0x028, 1, 4, false, [⟨31, 31, .w1c, 0x0, false⟩, ⟨30, 30, .w1c, 0x0, false⟩, ⟨29, 29, .ro, 0x0, false⟩, ⟨28, 28, .ro, 0x0, false⟩, ⟨27, 27, .ro, 0x0, false⟩, ⟨15, 0, .ro, 0x0, false⟩]⟩, -- STAT (Table 7.5)
  ⟨0x02C, 1, 4, false, [⟨31, 16, .ro, 0x0, false⟩, ⟨15, 0, .ro, 0x0, false⟩]⟩, -- PTR (Table 7.6)
  ⟨0x030, 1, 4, false, [⟨31, 16, .ro, 0x0, false⟩, ⟨15, 0, .ro, 0x0, false⟩]⟩, -- LEVEL (Table 7.7)
  ⟨0x034, 1, 4, false, [⟨31, 0, .ro, 0x0, false⟩]⟩, -- DATA (Table 7.8)
  ⟨0x038, 1, 4, false, [⟨31, 16, .ro, 0x0, false⟩, ⟨15, 0, .ro, 0x0, false⟩]⟩, -- ECC (Table 7.9)
  ⟨0x03C, 1, 4, false, [⟨31, 16, .ro, 0x0, false⟩]⟩ -- CNT (Table 7.10)
]

/-- Block registers of page PMC (and PMCS, R355). -/
def pmcRegs : List RegD := [
  ⟨0x020, 1, 4, false, [⟨9, 9, .rw, 0x0, false⟩, ⟨1, 1, .rw, 0x1, false⟩, ⟨0, 0, .rw, 0x1, false⟩]⟩, -- CTRL (Table 20.3)
  ⟨0x024, 1, 4, false, [⟨13, 8, .w1c, 0x0, false⟩, ⟨5, 0, .w1c, 0x0, false⟩]⟩, -- OVF (Table 20.4)
  ⟨0x028, 1, 4, false, [⟨31, 31, .wo, 0x0, false⟩, ⟨30, 30, .rw, 0x0, false⟩, ⟨29, 29, .rw, 0x0, false⟩, ⟨15, 0, .rw, 0x400, false⟩]⟩, -- PS_CTRL (Table 20.5)
  ⟨0x02C, 1, 4, false, [⟨31, 31, .ro, 0x0, false⟩, ⟨6, 0, .ro, 0x0, false⟩]⟩, -- PS_STAT (Table 20.6)
  ⟨0x030, 1, 4, false, [⟨31, 0, .ro, 0x0, false⟩]⟩, -- PS_DATA (Table 20.7)
  ⟨0x040, 6, 4, false, [⟨7, 0, .rw, 0x0, false⟩]⟩, -- EVSEL0 (Table 20.8)
  ⟨0x058, 6, 8, false, [⟨31, 0, .rw, 0x0, false⟩]⟩, -- CNTL0 (Table 20.9)
  ⟨0x05C, 6, 8, false, [⟨15, 0, .rw, 0x0, false⟩]⟩, -- CNTH0 (Table 20.10)
  ⟨0x0A0, 6, 4, false, [⟨7, 0, .rw, 0x0, false⟩]⟩, -- EVSEL1 (Table 20.8)
  ⟨0x0B8, 6, 8, false, [⟨31, 0, .rw, 0x0, false⟩]⟩, -- CNTL1 (Table 20.9)
  ⟨0x0BC, 6, 8, false, [⟨15, 0, .rw, 0x0, false⟩]⟩ -- CNTH1 (Table 20.10)
]

/-- The block registers of a page. -/
def pageRegs : Page → List RegD
  | .sys => sysRegs
  | .host => hostRegs
  | .snap => snapRegs
  | .panel => panelRegs
  | .ptp => ptpRegs
  | .can => canRegs
  | .alloc => allocRegs
  | .therm => thermRegs
  | .evt => evtRegs
  | .upd => updRegs
  | .sec => secRegs
  | .twin => twinRegs
  | .hlth => hlthRegs
  | .pmcs => pmcRegs
  | .test => testRegs
  | .ch => chRegs
  | .ring => ringRegs
  | .pour => pourRegs
  | .cdiag => cdiagRegs
  | .bal => balRegs
  | .ctle => ctleRegs
  | .cbk0 => cbk0Regs
  | .cbk1 => cbk0Regs
  | .prof => profRegs
  | .vax => vaxRegs
  | .imp => impRegs
  | .est => estRegs
  | .safe => safeRegs
  | .cont => contRegs
  | .perc => percRegs
  | .fifo => fifoRegs
  | .pmc => pmcRegs

/-- PAGE_ID.TYPE of a page (R77; Tables 23.1 and 23.2). -/
def pageType : Page → Nat
  | .sys => 0x0001
  | .host => 0x0002
  | .snap => 0x0003
  | .panel => 0x0004
  | .ptp => 0x0005
  | .can => 0x0006
  | .alloc => 0x0007
  | .therm => 0x0008
  | .evt => 0x0009
  | .upd => 0x000A
  | .sec => 0x000B
  | .twin => 0x000C
  | .hlth => 0x000D
  | .pmcs => 0x000E
  | .test => 0x000F
  | .ch => 0x0101
  | .ring => 0x0102
  | .pour => 0x0103
  | .cdiag => 0x0104
  | .bal => 0x0105
  | .ctle => 0x0106
  | .cbk0 => 0x0107
  | .cbk1 => 0x0108
  | .prof => 0x0109
  | .vax => 0x010A
  | .imp => 0x010B
  | .est => 0x010C
  | .safe => 0x010D
  | .cont => 0x010E
  | .perc => 0x010F
  | .fifo => 0x0110
  | .pmc => 0x0111

/-- The page a shared base names (Table 23.1): index = base / 0x400. -/
def sharedPages : List Page := [.sys, .host, .snap, .panel, .ptp, .can, .alloc, .therm, .evt, .upd, .sec, .twin, .hlth, .pmcs, .test]

/-- The page a channel offset names (Table 23.2): index = offset / 0x400. -/
def chanPages : List Page := [.ch, .ring, .pour, .cdiag, .bal, .ctle, .cbk0, .cbk1, .prof, .vax, .imp, .est, .safe, .cont, .perc, .fifo, .pmc]

/-- A page is a channel page (Table 23.2). -/
def Page.isChan : Page → Bool
  | .sys => false
  | .host => false
  | .snap => false
  | .panel => false
  | .ptp => false
  | .can => false
  | .alloc => false
  | .therm => false
  | .evt => false
  | .upd => false
  | .sec => false
  | .twin => false
  | .hlth => false
  | .pmcs => false
  | .test => false
  | .ch => true
  | .ring => true
  | .pour => true
  | .cdiag => true
  | .bal => true
  | .ctle => true
  | .cbk0 => true
  | .cbk1 => true
  | .prof => true
  | .vax => true
  | .imp => true
  | .est => true
  | .safe => true
  | .cont => true
  | .perc => true
  | .fifo => true
  | .pmc => true

/-- Offset of a page: from 0 for a shared page, from the channel base for a channel page. -/
def pageOff : Page → Nat
  | .sys => 0x0000
  | .host => 0x0400
  | .snap => 0x0800
  | .panel => 0x0C00
  | .ptp => 0x1000
  | .can => 0x1400
  | .alloc => 0x1800
  | .therm => 0x1C00
  | .evt => 0x2000
  | .upd => 0x2400
  | .sec => 0x2800
  | .twin => 0x2C00
  | .hlth => 0x3000
  | .pmcs => 0x3400
  | .test => 0x3800
  | .ch => 0x0000
  | .ring => 0x0400
  | .pour => 0x0800
  | .cdiag => 0x0C00
  | .bal => 0x1000
  | .ctle => 0x1400
  | .cbk0 => 0x1800
  | .cbk1 => 0x1C00
  | .prof => 0x2000
  | .vax => 0x2400
  | .imp => 0x2800
  | .est => 0x2C00
  | .safe => 0x3000
  | .cont => 0x3400
  | .perc => 0x3800
  | .fifo => 0x3C00
  | .pmc => 0x4000

/-- Reset words that differ from element to element of an array: IMP.TONEk (Table 11.7) and
THERM.AXk (Table 15.6); and UPD.VER, whose reset is "per slot" (DESIGN CHOICE, log entry 14). -/
def perIndexReset (p : Page) (off k : Nat) : Option Nat :=
  match p with
  | .imp => if off = 0x030 then
      match k with
      | 0 => some 0x40004 | 1 => some 0x40014 | 2 => some 0x400C8 | 3 => some 0x407D0 | _ => some 0x40000
    else none
  | .therm => if off = 0x070 then
      match k with
      | 0 => some 0x0A00F6EC | 1 => some 0x3C322819 | 2 => some 0x320A0500 | _ => some 0x645F5A50
    else none
  | .upd => if off = 0x02C then some 0x00000100 else none
  | _ => none

end Sys2Proof.Machine
end

