-- ==== Sys2Proof/Syntax.lean ====
section
/-! DEFINITION. The commands of the block: one constructor of `Instr` per row of spec/opcode_table.json, with its
operands. An operand is what reaches the module from outside: the writing source, an address and a value, or what a
connector, a frame, a sensor or an external device (tile, stage, contactor, valve, partner module, host) presents. -/

namespace Sys2Proof
open Machine (Page)

/-- A channel, CH0 to CH7. -/
abbrev Ch := Fin 8

/-- A host identity: the SHA-256 of the DER client certificate (R65, Table 19.2). -/
abbrev Ident := BitVec 256

/-- The ports that carry WRAP sessions (R64). -/
inductive Port where
  | plantA | plantB | service
  deriving DecidableEq, Repr

/-- Who makes an access: a WRAP session by its handle, user code of channel `n`'s Percolator (a SYNC task or a
FREE task, R296), or a unit of the module itself (allocator, thermal management, Crema, supervisor: rank 2). -/
inductive Src where
  | session (sid : Nat)
  | perc (n : Ch) (sync : Bool)
  | unit
  deriving DecidableEq, Repr

/-- A page instance: a page and, for a channel page, its channel (R77). -/
structure PageRef where
  page : Page
  ch   : Ch
  deriving DecidableEq, Repr

/-- One operation of an ATOMIC request (R81): writes, masked writes, or an operation that R81 forbids. -/
inductive AtomicOp where
  | write (addr : Nat) (ws : List Word)
  | mask (addr : Nat) (ps : List (Word × Word))
  | other
  deriving DecidableEq, Repr

/-- What a DTLS handshake offers (R373): the required options without pre-shared keys, early data or connection
IDs; a client certificate; the committed anchor it chains to through at most one intermediate; and whether plant
time lies in the certificates' validity periods. -/
structure Offer where
  options  : Bool
  cert     : Bool
  anchor   : Option Nat
  inPeriod : Bool
  deriving DecidableEq, Repr

/-- The outcomes of the BOOT steps that act on hardware (Table 3.3). -/
structure BootResult where
  /-- step 1: supervisor self-test passed -/
  selftest : Bool
  /-- step 1: 3 consecutive samples with TMOD at or above 100 °C (R278) -/
  hot : Bool
  /-- step 2: the signature of slot A, of slot B verifies -/
  sigA : Bool
  sigB : Bool
  /-- step 3: the parameters loaded -/
  params : Bool
  /-- step 4: channel n's cores passed their self-test -/
  core : List Bool
  /-- the 15 s bound of R54 ended BOOT -/
  timeout : Bool
  deriving DecidableEq, Repr

/-- The connectors of a channel with a detect loop (R35). -/
inductive Conn where
  | ringA | ringB | ps | io
  deriving DecidableEq, Repr

/-- The supply items that hold-up persists, as far as VHOLD allowed (R60, R61). -/
structure HoldupOutcome where
  mv     : Nat
  events : Bool
  est    : List Bool
  params : Bool
  deriving DecidableEq, Repr

/-- What the four sigma-delta streams and the HOLD readbacks give at a sample instant (R119 to R121, R261):
values in mA and mV, none where a stream did not decode; `F` marks the replica-filtered values of R120; `clean`
says that a stream decoded throughout the last 2 ms; round trips in ns. -/
structure SampleIn where
  iMain : Option Int
  iAux  : Option Int
  vStr  : Option Int
  vBus  : Option Int
  iMainF : Option Int
  iAuxF  : Option Int
  vStrF  : Option Int
  vBusF  : Option Int
  cleanMain : Bool
  cleanAux  : Bool
  rtt : List (Option Nat)
  /-- R119: SDCLK edge of each input's output k, ns after the sample instant, in the order IMAIN, IAUX, VSTR, VBUS; the
  eight values above are outputs k, and `next` holds outputs k + 1 in the order of the fields -/
  edge : List (Option Int)
  next : List (Option Int)
  holdPos : Bool
  holdNeg : Bool
  holdPre : Bool
  /-- twin: sniffed and mastered data of the epoch agree (R271) -/
  sniffOk : Bool
  deriving DecidableEq, Repr

/-- A ring port of the module. -/
inductive Side where
  | a | b
  deriving DecidableEq, Repr

/-- A write request with whether it is placed in the arbitration round of the request before it (R82). -/
structure Joined (α : Type) where
  val  : α
  join : Bool
  deriving DecidableEq, Repr

/-- One status block of a returning ENUM frame (Table 5.5): serial, populated cells, microcode version. -/
structure EnumBlock where
  serial : BitVec 64
  cells  : Nat
  mcver  : Nat
  deriving DecidableEq, Repr

/-- One tile's part of a delay measurement set (R99): the tick differences of its probe pairs and h in ns. -/
structure TileMeas where
  ticks : List Int
  h     : Nat
  deriving DecidableEq, Repr

/-- A measurement set of R99: return times and relay departure times of the probe pairs in ns, and the tiles. -/
structure DelayMeas where
  tBack : List Nat
  tBdep : List Nat
  tiles : List TileMeas
  deriving DecidableEq, Repr

/-- The end of a ring start's delay measurement (R100): the set, and which tiles confirmed their holds. -/
structure DelayEnd where
  meas      : DelayMeas
  confirmed : List Bool
  deriving DecidableEq, Repr

/-- A channel whose FIFO takes a frame, and the bits of its stored words that have turned over since the commit before:
word address, and the bits of its 39 (R130). -/
structure FifoCommitIn where
  ch    : Ch
  flips : List (Nat × BitVec 39)
  deriving DecidableEq, Repr

/-- What holds an exchange of programs back or lets it go (R300): no SYNC task executes, and every FREE task is at the
end of its loop. -/
structure ExchangePoint where
  idle       : Bool
  freeAtEnds : Bool
  deriving DecidableEq, Repr

/-- The inputs of one ILOOP sample, unfiltered, mA and mV; none for a stream with a Manchester error (R173). -/
structure CtleIn where
  k     : Nat
  iMain : Option Int
  iAux  : Option Int
  vStr  : Option Int
  vBus  : Option Int
  deriving DecidableEq, Repr

/-- The limit registers of R191. -/
inductive LimReg where
  | curLim | curStop | vlvLim
  deriving DecidableEq, Repr

/-- The estimator tasks of Table 12.1. -/
inductive EstTask where
  | aggregates | impedance | checks | filter | sop
  deriving DecidableEq, Repr

/-- The Crema checks of R271 and their outcome per channel (`fail n`: the check failed for channel n); module-wide
checks use the empty list with `bad`. -/
inductive CremaKind where
  | reference | pourX | sram | timebase | supercap | latent | core
  deriving DecidableEq, Repr

/-- The result of a `CREMA_CHECK`: which check, whether it failed, and the channels concerned. -/
structure CremaResult where
  kind : CremaKind
  bad  : Bool
  chans : List Ch
  deriving DecidableEq, Repr

/-- The issue slots of a core in an interval, each in exactly one of four classes (R357). -/
structure IssueSlots where
  retired : Nat
  wasted  : Nat
  front   : Nat
  back    : Nat
  deriving DecidableEq, Repr

/-- A task of a Percolator program (R284): class 1 SYNC or 2 FREE. -/
structure TaskDef where
  cls    : Nat
  period : Nat
  phase  : Nat
  prio   : Nat
  wdogUs : Nat
  deriving DecidableEq, Repr

/-- An instance of a program (R299, R300). -/
structure InstDef where
  id  : Word
  typ : Nat
  retained : Bool
  init : Word
  deriving DecidableEq, Repr

/-- An output bit's owner (R288): tile, output, task. -/
structure OwnDef where
  tile : Nat
  out  : Nat
  task : Nat
  deriving DecidableEq, Repr

/-- What the sections of a program image state (their format belongs to Reneraek, R297; DEDUCED, log entry 41). -/
structure ProgInfo where
  tasks  : List TaskDef
  insts  : List InstDef
  owners : List OwnDef
  /-- safe nibble of each tile, tile 1 first -/
  safe   : List Nat
  deriving DecidableEq, Repr

/-- A received Sync used or not (R306, R309): port (false A), offset local minus master in ns, logMessageInterval,
a valid path delay, and the master's identity. -/
structure SyncMsg where
  portB  : Bool
  offset : Int
  logInt : Int
  pathOk : Bool
  master : Nat
  deriving DecidableEq, Repr

/-- The data set an Announce carries, as the best master clock algorithm compares it (R307). -/
structure AnnounceMsg where
  portB : Bool
  domain : Nat
  prio1 : Nat
  clockClass : Nat
  accuracy : Nat
  variance : Nat
  prio2 : Nat
  identity : Nat
  deriving DecidableEq, Repr

/-- A PTP message to forward (R308): ingress port, whether it is an event message, residence time and ingress link
delay in ns, and the correctionField in ns. -/
structure FwdMsg where
  fromB : Bool
  residence : Int
  linkDelay : Int
  correction : Int
  deriving DecidableEq, Repr

/-- A CAN frame (Table 17.10). -/
structure CanFrame where
  ide : Bool
  fdf : Bool
  brs : Bool
  esi : Bool
  rtr : Bool
  id  : Nat
  dlc : Nat
  data : List Byte
  deriving DecidableEq, Repr

/-- The errors of a CAN transmission (R318). -/
inductive CanTxErr where
  | lostArbitration | error
  deriving DecidableEq, Repr

/-- One channel's part of a HEARTBEAT (Table 18.3); its role: owner, and the preference of TWIN.CHCFG (DEDUCED, log entry 36). -/
structure HbChan where
  owner  : Bool
  pref   : Bool
  state  : Nat
  holdPos : Bool
  holdNeg : Bool
  holdPre : Bool
  bridge : Bool
  target : Int
  deriving DecidableEq, Repr

/-- A HEARTBEAT of the partner: its mode, SIDE, the offset its stamps give (local minus partner, ns, R334), READY,
whether CRC and TYPE check (R330), and its channels. -/
structure HbMsg where
  ok     : Bool
  mode   : Nat
  side   : Nat
  offset : Int
  ready  : Bool
  chans  : List HbChan
  deriving DecidableEq, Repr

/-- A learning cycle (R236): SoC at its opening, charge in Ah, current and temperature ranges, opening time. -/
structure Machine.Cycle where
  soc0 : Rat
  charge : Rat
  imin : Rat
  imax : Rat
  tmin : Rat
  tmax : Rat
  opened : Nat
  deriving DecidableEq, Repr

/-- A validity envelope: current range in A, temperature range in °C (R229). -/
structure Machine.Envel where
  imin : Rat
  imax : Rat
  tmin : Rat
  tmax : Rat
  deriving DecidableEq, Repr

/-- A cell of the mirrored estimator record (R239, R332): filter state, P, learned capacity (with one that applies from
the next update, R238), kR, the envelopes and the open cycle, whose opening is given by its age in ns. -/
structure MirrorCell where
  cell : Nat
  soc : Rat
  v1 : Rat
  v2 : Rat
  p00 : Rat
  p01 : Rat
  p02 : Rat
  p11 : Rat
  p12 : Rat
  p22 : Rat
  q : Rat
  qNew : Option (Rat × Machine.Envel)
  kR : Rat
  envQ : Option Machine.Envel
  envR : Option Machine.Envel
  cycle : Option Machine.Cycle
  deriving DecidableEq, Repr

/-- A mirror segment (R332): channel, segment index, number of segments, and what the record carries: parameter
registers by channel offset, retained data, engine mode, PROG_ID, contactor intent, last event sequence number, and the
estimator record. -/
structure MirrorSeg where
  ok    : Bool
  ch    : Ch
  index : Nat
  total : Nat
  params : List (Nat × Word)
  retain : List (Word × Word)
  pmode  : Nat
  progId : Word
  intent : BitVec 3
  evtSeq : Word
  restAge : Nat
  cal    : List (Int × Rat)
  calEnv : List (Option (Rat × Rat))
  cells  : List MirrorCell
  deriving DecidableEq, Repr

/-- What a twin RING message carries (Table 18.3). -/
inductive RingMsg where
  | bad
  | probe (ch : Ch) (bdep : List Nat)
  | tables (ch : Ch) (a b : List Nat) (d : Nat) (serials : List (BitVec 64))
  | block (ch : Ch) (bytes : List Byte)
  | presence (ch : Ch) (present : Bool)
  deriving DecidableEq, Repr

/-- A sampled instruction (R361). -/
structure PsEntry where
  addr : Word
  enc  : Word
  lat  : Nat
  deriving DecidableEq, Repr

/-- The commands, one constructor per row of spec/opcode_table.json: the rows with operands in the table's order, then
those without. (Compiled Lean code can build a constructor with operands only below a number of 245.) -/
inductive Instr where
  | wrapRequest (sid : Nat) (bytes : Joined (List Byte))
  | read (src : Src) (addr n : Nat)
  | write (src : Src) (addr : Nat) (ws : List Word) (join : Bool)
  | readRepeat (src : Src) (addr n : Nat)
  | writeMask (src : Src) (addr : Nat) (ps : List (Word × Word)) (join : Bool)
  | atomicRequest (src : Src) (ops : Joined (List AtomicOp))
  | broadcastWrite (src : Src) (off : Nat) (ws : Joined (List Word))
  | registerWrite (src : Src) (addr : Nat) (v : Word) (join : Bool)
  | irqPendClear (src : Src) (pg : PageRef) (v : Word)
  | pageUnlock (src : Src) (pg : PageRef) (key : Word)
  | unlockExpiry (sid : Nat) (pg : PageRef)
  | unlockLockoutEnd (ident : Ident) (pg : PageRef)
  | softReset (src : Src) (pg : PageRef)
  | pageDisable (src : Src) (pg : PageRef)
  | pageEnable (src : Src) (pg : PageRef)
  | dtlsHandshake (port : Port) (ident : Ident) (offer : Offer)
  | sessionTimeout (sid : Nat)
  | snapReq (src : Src) (v : Word) (join : Bool)
  | snapEnd (src : Src) (v : Word)
  | snapLastRead (src : Src)
  | powerOn (absentMs : Nat)
  | bootEnd (r : BootResult)
  | standby (src : Src)
  | run (src : Src)
  | decaf (src : Src)
  | wake (src : Src)
  | restart (src : Src)
  | halt (src : Src)
  | wakeVoltageCheck (mv : List Nat)
  | logic24Low (mv : Nat)
  | holdupStart (o : HoldupOutcome)
  | detectLoopQualified (n : Ch) (c : Conn) (present : Bool)
  | padTouch (pads : BitVec 8)
  | keysw (service : Bool)
  | isolateFeedbackOpen (n : Ch)
  | isolateFail (n : Ch)
  | epochSample (n : Ch) (smp : SampleIn)
  | trigSend (n : Ch)
  | collectSend (n : Ch)
  | frameReturn (n : Ch) (side : Side) (bytes : List Byte)
  | readSend (n : Ch)
  | sweepClose (n : Ch)
  | stale (n : Ch)
  | cellOt (n : Ch)
  | pourPublish (n : Ch)
  | vlimModel (n : Ch)
  | fifoCommit (c : FifoCommitIn)
  | fifoDataRead (src : Src) (n : Ch)
  | mark (src : Src) (n : Ch)
  | rewind (src : Src) (n : Ch)
  | flush (src : Src) (n : Ch)
  | clrmark (src : Src) (n : Ch)
  | ringStart (n : Ch)
  | restartRing (src : Src) (n : Ch)
  | ringWakeEnd (n : Ch)
  | enum (n : Ch) (blocks : List EnumBlock) (farEnd : Bool)
  | mcloadDone (n : Ch) (crcs : List Word)
  | delaySetDone (n : Ch) (e : DelayEnd)
  | ringRetry (n : Ch)
  | commandFrameSend (n : Ch)
  | backgroundSetStart (n : Ch)
  /-- `times`: the return times and the relay departure times of the set's probe pairs (R99) -/
  | backgroundSetDone (n : Ch) (times : List Nat × List Nat) (tiles : List TileMeas)
  | portLinkDown (n : Ch) (side : Side)
  | portLinkUp (n : Ch) (side : Side)
  | alarm (n : Ch) (posA posB : Nat)
  | splitEntry (n : Ch)
  | rejoinSetStart (n : Ch)
  | rejoin (n : Ch) (confirmA confirmB : Bool)
  | cdiagClear (src : Src) (n : Ch)
  | cdiagForce (src : Src) (n : Ch) (tile tap : Nat)
  | balAutoRun (n : Ch)
  | balHcmd (src : Src) (n : Ch) (v : Word)
  | balHcmdLapse (n : Ch) (tile cell : Nat)
  | ctleSample (n : Ch) (smp : CtleIn)
  | late (n : Ch)
  | stageFault (n : Ch) (asserted : Bool)
  | preDone (n : Ch)
  | ploopFe (n : Ch)
  | fe (n : Ch)
  | bankSwapReq (src : Src) (n : Ch) (atEpoch : Bool)
  | bankSwapCancel (src : Src) (n : Ch)
  | swap (n : Ch)
  | iloopGainWrite (src : Src) (n : Ch) (ki : Bool) (v : Word)
  | injStart (src : Src) (n : Ch) (v : Word)
  | injBegin (n : Ch)
  | injStop (src : Src) (n : Ch)
  | injEnd (n : Ch)
  | arm (src : Src) (n : Ch) (v : Word)
  | capDone (n : Ch)
  | capDataRead (src : Src) (n : Ch)
  | curTargetWrite (src : Src) (n : Ch) (v : Word)
  | limitWrite (src : Src) (n : Ch) (r : LimReg) (v : Word)
  | vlvTargetWrite (src : Src) (n : Ch) (v : Word)
  | stop (src : Src) (n : Ch)
  | currentZero (n : Ch)
  | stopTmo (n : Ch)
  | vlvEval (n : Ch) (count : Int)
  | enc (n : Ch)
  | coil (n : Ch)
  | motorSupplyFault (ov : Bool)
  | motorSupplyRecover (mv : Nat)
  | iholdTimer (n : Ch)
  | clrfault (src : Src) (n : Ch)
  | home (src : Src) (n : Ch) (v : Word)
  | limitTransition (n : Ch) (hi : Bool) (level : Bool)
  | limitQualified (n : Ch) (hi : Bool)
  | homeComplete (n : Ch)
  | homeTmo (n : Ch)
  | impLeadinStart (n : Ch)
  | impBlockEnd (n : Ch)
  | blockDone (n : Ch)
  | blockVoid (n : Ch) (cause : Nat)
  | impStart (src : Src) (n : Ch)
  | impAbort (src : Src) (n : Ch)
  | aggregateTask (n : Ch)
  | kfUpdate (n : Ch)
  | sopUpdate (n : Ch)
  | taskLate (n : Ch) (t : EstTask)
  | restPoint (n : Ch)
  | restAgeTick (n : Ch)
  | chemDataAccess (src : Src) (n : Ch) (w : Option Word)
  | commitChem (src : Src) (n : Ch)
  | reinit (src : Src) (n : Ch)
  | learnClear (src : Src) (n : Ch)
  | icalOffset (src : Src) (n : Ch)
  | icalGain (src : Src) (n : Ch)
  | icalDone (n : Ch)
  | estRecordWrite (n : Ch)
  | pcmdWrite (src : Src) (v : Word)
  | tripOpen (n : Ch)
  | overcurrentDetect (n : Ch) (aux : Bool) (mA : Int)
  | overcurrent (n : Ch)
  | siDemand (n : Ch) (input : Fin 4) (lineB : Bool)
  | testPulse (n : Ch) (lineB : Bool) (high cross level : BitVec 4)
  | siLineRestore (n : Ch) (input : Fin 4) (lineB : Bool)
  | connect (src : Src) (n : Ch)
  | disconnect (src : Src) (n : Ch)
  | fbChange (n : Ch) (pos neg pre : Bool)
  | fbClose (n : Ch)
  | preTmo (n : Ch)
  | weld (n : Ch)
  | degradeTmax (n : Ch)
  | reset (src : Src) (n : Ch)
  | degAck (src : Src) (n : Ch)
  | cremaCheck (r : CremaResult)
  | tripTest (n : Ch) (opened : Bool)
  | hlthDisable (src : Src)
  | dieSample (t : List (Option Int))
  | syncCycleStart (n : Ch) (task : Nat)
  | syncDeadline (n : Ch) (task : Nat) (finished : Bool) (outs : List (Nat × Nat × Bool))
  | freeWdog (n : Ch) (task : Nat)
  | freeSwitch (n : Ch)
  | outputImageSend (n : Ch)
  | freeOutputWrite (n : Ch) (inst : Word) (tile out : Nat) (on : Bool)
  | percModeRun (src : Src) (n : Ch)
  | percModeStop (src : Src) (n : Ch)
  | percModeHold (src : Src) (n : Ch)
  | wscRead (n : Ch) (sync : Bool) (addr : Nat)
  | wscWrite (n : Ch) (sync : Bool) (addr : Nat) (v : Word)
  | progDataAccess (src : Src) (n : Ch) (w : Option Word)
  | load (src : Src) (n : Ch)
  | exchange (src : Src) (n : Ch)
  | retInit (src : Src) (n : Ch)
  | progCheckDone (n : Ch) (info : ProgInfo)
  | xdone (n : Ch) (x : ExchangePoint)
  | progFlashWrite (n : Ch)
  | retainCopy (n : Ch)
  | ptpSync (m : SyncMsg)
  | ptpForward (m : FwdMsg)
  | ptpCtrlWrite (src : Src) (v : Word)
  | canRxFrame (f : CanFrame)
  | canTxReq (src : Src) (mask : BitVec 3)
  | canTxCancel (src : Src) (mask : BitVec 3)
  | canTxError (e : CanTxErr)
  | recover (src : Src)
  | canRxLock (src : Src)
  | canRxRelease (src : Src)
  | heartbeat (m : HbMsg)
  | noticeTrip (ch cause path : Nat)
  | noticeRelease (ch : Nat)
  | noticeRestart (ch : Nat)
  | mirrorSend (n : Ch)
  | mirror (m : MirrorSeg)
  | mirrorFail (n : Ch)
  | ringMsg (m : RingMsg)
  | ownerInChange (n : Ch) (claimed : Bool)
  | claimWatchEnd (n : Ch)
  | lost (n : Ch)
  | takeoverEnable (n : Ch)
  | bridgeClose (n : Ch)
  | handover (src : Src) (v : Word)
  | evtFlush (src : Src)
  | clear (src : Src)
  | evtWin7Read (src : Src)
  /-- a core's run in an interval: its issue slots, and its counts of the events above 0x05 of Table 20.1 (R355) -/
  | ovf (pg : PageRef) (c : Fin 2) (slots : IssueSlots) (others : List (Nat × Nat))
  | pmcCntlRead (src : Src) (pg : PageRef) (c : Fin 2) (k : Fin 6)
  | pmcCntlWrite (src : Src) (pg : PageRef) (c : Fin 2) (k : Fin 6) (v : Word)
  | psSample (pg : PageRef) (e : PsEntry)
  | psDataRead (src : Src) (pg : PageRef)
  | psClear (src : Src) (pg : PageRef) (v : Word)
  | stageWrite (src : Src) (k : Fin 128) (v : Word)
  | verify (src : Src)
  | updArm (src : Src)
  | cancel (src : Src)
  | accept (src : Src)
  | commit (src : Src)
  | deprovision (src : Src)
  | unlock (src : Src) (v : Word)
  | identityKeygen (coverClosed : Bool)
  | tapInstruction (dev : Fin 3) (op : Byte)
  | claimStart (n : Ch)
  | testPulseStart (n : Ch) (lineB : Bool)
  | impedanceAccumulation (n : Ch)
  | ptpAnnounce (m : AnnounceMsg)
  | ptpPathDelay (portB : Bool) (ns : Int)
  | notifySend
  | snapTimeout
  | logic24High
  | holdupReset
  | selectionLapse
  | ack
  | lockoutRelease
  | panelWakeConfirm
  | isolate
  | isolateAbandon
  | allocRun
  | pcmdTmo
  | restWindowEnd
  | compensationStep
  | thermLimitEval
  | ptpSyncTimeout
  | step
  | canTxArbitration
  | canTxComplete
  | canBusOff
  | canRecoveryDone
  | lockTmo
  | canStatusFrame
  | heartbeatSend
  | heartbeatMissed
  | resync
  | link
  | ready
  | eventFlush
  | optimePersist
  | verifyDone
  | activated
  | confirm
  | fallback
  | coverOpen
  | aux24Low
  | auxFuseOpen
  | auxFuseReclose
  | aux24Restored
  | vholdCharged
  | slewEnd
  | supervisorRestartDone
  | canRxError
  | canBusJoin
  | ptpMasterSync
  deriving DecidableEq, Repr

end Sys2Proof
end

