-- ==== Sys2Proof/Decode.lean ====
section
/-! DEFINITION. The decoder over the rows of spec/opcode_table.json that give bits. None does: every row's list of
fields is empty and no row has a pattern, so no word spells a command. WRAP datagrams, whose bytes do spell operations,
are decoded in Machine/Wrap.lean (R67 to R69). -/

namespace Sys2Proof

/-- The command that a word of the table spells: none, since the table gives no row bits. -/
def decodeTableWord (_nbits _w : Nat) : Option Instr := none

end Sys2Proof
end

