-- ==== Sys2Proof/Machine/Bits.lean ====
section
/-! DEFINITION. Bit fields, signed numbers, byte order, CRCs (R91), binary32 (R176) and rational square roots. -/

namespace Sys2Proof.Machine

/-- Bits hi:lo of a word, as a number. -/
def bitsOf (w : Word) (hi lo : Nat) : Nat := (w.toNat / 2 ^ lo) % 2 ^ (hi + 1 - lo)

/-- The word with ones at bits hi:lo. -/
def fieldMask (hi lo : Nat) : Word := BitVec.ofNat 32 ((2 ^ (hi + 1 - lo) - 1) * 2 ^ lo)

/-- The word with bits hi:lo replaced by v (taken modulo the field's width). -/
def putBits (w : Word) (hi lo v : Nat) : Word :=
  (w &&& ~~~(fieldMask hi lo)) ||| (BitVec.ofNat 32 ((v % 2 ^ (hi + 1 - lo)) * 2 ^ lo))

/-- One bit of a word. -/
def bit (w : Word) (i : Nat) : Bool := w.getLsbD i

def b2n (b : Bool) : Nat := if b then 1 else 0
def b2w (b : Bool) : Word := if b then 1 else 0

/-- A number of `width` bits read as signed. -/
def signed (width v : Nat) : Int := if v < 2 ^ (width - 1) then (v : Int) else (v : Int) - 2 ^ width

/-- The low 32 bits of an integer. -/
def intWord (i : Int) : Word := BitVec.ofInt 32 i

/-- The low 16 bits of an integer, as a number. -/
def int16 (i : Int) : Nat := (BitVec.ofInt 16 i).toNat

/-- An integer clamped to a range. -/
def clampI (lo hi i : Int) : Int := if i < lo then lo else if hi < i then hi else i
def clampR (x lo hi : Rat) : Rat := if x < lo then lo else if hi < x then hi else x
def minR (a b : Rat) : Rat := if a ≤ b then a else b
def maxR (a b : Rat) : Rat := if a ≤ b then b else a
def absR (a : Rat) : Rat := if a < 0 then -a else a

/-- A count that saturates at `top`. -/
def satInc (top n : Nat) : Nat := if n < top then n + 1 else n

/-- The signed difference a - b modulo 2^width, half the range negative (R12). -/
def sdiff (width a b : Nat) : Int :=
  signed width ((a % 2 ^ width + 2 ^ width - b % 2 ^ width) % 2 ^ width)

/-- R12: t lies in the window [start, stop). -/
def inWindow (width t start stop : Nat) : Bool := 0 ≤ sdiff width t start && sdiff width t stop < 0

/-- Big-endian bytes of a number, `n` of them (R67, R90). -/
def beBytes : Nat → Nat → List Byte
  | 0, _ => []
  | n + 1, v => beBytes n (v / 256) ++ [BitVec.ofNat 8 v]

/-- The number that big-endian bytes spell. -/
def beNat (l : List Byte) : Nat := l.foldl (fun a b => a * 256 + b.toNat) 0

def wordBytes (w : Word) : List Byte := beBytes 4 w.toNat
def bytesWord (l : List Byte) : Word := BitVec.ofNat 32 (beNat l)

/-- Words from big-endian bytes, four at a time; a tail shorter than four bytes is left out. -/
def bytesWords : List Byte → List Word
  | a :: b :: c :: d :: t => bytesWord [a, b, c, d] :: bytesWords t
  | _ => []

/-- One bit of the reflected CRC-32 of IEEE 802.3 (R91). -/
def crc32Bit (c : Word) : Word := if c.getLsbD 0 then (c >>> 1) ^^^ 0xEDB88320 else c >>> 1

def crc32Byte (c : Word) (b : Byte) : Word :=
  crc32Bit (crc32Bit (crc32Bit (crc32Bit (crc32Bit (crc32Bit (crc32Bit (crc32Bit (c ^^^ b.setWidth 32))))))))

/-- CRC-32 of R91: initial value 0xFFFF_FFFF, reflected, final complement. -/
def crc32 (l : List Byte) : Word := ~~~(l.foldl crc32Byte 0xFFFFFFFF)

def crc8Bit (c : Byte) : Byte := if c.getLsbD 7 then (c <<< 1) ^^^ 0x07 else c <<< 1

/-- CRC-8 of R91: polynomial 0x07, initial value 0x00, no reflection. -/
def crc8 (l : List Byte) : Byte :=
  l.foldl (fun c b => crc8Bit (crc8Bit (crc8Bit (crc8Bit (crc8Bit (crc8Bit (crc8Bit (crc8Bit (c ^^^ b))))))))) 0

/-- CRC-32 over words, each most significant byte first (R131, R221, R298). -/
def crcWords (l : List Word) : Word := crc32 (l.flatMap wordBytes)

/-- 2 to an integer power. -/
def pow2 (e : Int) : Rat := if e ≥ 0 then ((2 ^ e.toNat : Nat) : Rat) else 1 / ((2 ^ (-e).toNat : Nat) : Rat)

/-- The value of a binary32 word, none when it is not finite (IEEE 754, R176). -/
def f32 (w : Word) : Option Rat :=
  let e := bitsOf w 30 23
  let m := bitsOf w 22 0
  let s : Rat := if bit w 31 then -1 else 1
  if e = 255 then none
  else if e = 0 then some (s * m * pow2 (-149))
  else some (s * ((2 ^ 23 + m : Nat) : Rat) * pow2 ((e : Int) - 150))

/-- The value of a finite binary32 word, 0 for one that is not finite. -/
def f32D (w : Word) : Rat := (f32 w).getD 0

/-- Rounded to the nearest integer, ties to even. -/
def roundEven (q : Rat) : Int :=
  let f := q.floor
  let r := q - f
  if r < 1 / 2 then f else if 1 / 2 < r then f + 1 else if f % 2 = 0 then f else f + 1

/-- Rounded half away from zero. -/
def roundHalf (q : Rat) : Int := if q < 0 then -((-q + 1 / 2).floor) else (q + 1 / 2).floor

/-- Rounded towards zero. -/
def truncR (q : Rat) : Int := if q < 0 then -((-q).floor) else q.floor

/-- The binary32 word nearest to a rational, ties to even; beyond the range, infinity (DESIGN CHOICE, log entry 5). -/
def toF32 (q : Rat) : Word :=
  let s : Word := if q < 0 then 0x80000000 else 0
  let a := absR q
  if a = 0 then 0 else
    let lg : Int := (Nat.log2 a.num.natAbs : Int) - (Nat.log2 a.den : Int)
    let e0 : Int := if a < pow2 lg then lg - 1 else lg
    let e : Int := if e0 < -126 then -126 else e0
    let m := (roundEven (a / pow2 (e - 23))).toNat
    let e' := if m = 2 ^ 24 then e + 1 else e
    let m' := if m = 2 ^ 24 then 2 ^ 23 else m
    if e' > 127 then s ||| 0x7F800000
    else if m' < 2 ^ 23 then s ||| BitVec.ofNat 32 m'
    else s ||| BitVec.ofNat 32 ((e' + 127).toNat * 2 ^ 23 + (m' - 2 ^ 23))

/-- A rational square root: the floor of the root at a resolution of 2^-24 (DESIGN CHOICE, log entry 5). -/
def sqrtR (q : Rat) : Rat :=
  if q ≤ 0 then 0 else ((Nat.sqrt ((q * ((2 ^ 48 : Nat) : Rat)).floor.toNat) : Nat) : Rat) / ((2 ^ 24 : Nat) : Rat)

/-- Element i of a list of numbers, 0 when absent. -/
def nth (l : List Nat) (i : Nat) : Nat := l.getD i 0

/-- The list with element i replaced; padded with `d` up to i. -/
def setAt {α : Type} (d : α) : List α → Nat → α → List α
  | [], 0, v => [v]
  | [], i + 1, v => d :: setAt d [] i v
  | _ :: t, 0, v => v :: t
  | h :: t, i + 1, v => h :: setAt d t i v

/-- The sum of a list of rationals. -/
def sumR (l : List Rat) : Rat := l.foldl (· + ·) 0
def sumI (l : List Int) : Int := l.foldl (· + ·) 0

end Sys2Proof.Machine
end

