-- ==== Sys2Proof/Machine/RegNames.lean ====
section
/-! DEFINITION. Names for the fields and registers of the register tables (spec 01 to 23): `F.PAGE_REG_FIELD` is a
field (its register's byte address under Table 4.4 and its bits), `R.PAGE_REG` a register's byte address.
A channel field takes the channel, an array element its index. -/

namespace Sys2Proof.Machine

/-- A field of a register: the register's byte address and the field's bits. -/
structure RF where
  addr : Nat
  hi   : Nat
  lo   : Nat
  deriving DecidableEq, Repr

/-- Base address of channel n's pages (Table 4.4). -/
def chBase (n : Ch) : Nat := 0x100000 + n.val * 0x20000


/-- SYS.PLANT_ID: module number in the plant, kept in parameter MRAM (23_register_index.md). -/
def R.SYS_PLANT_ID : Nat := 0x20
def F.SYS_PLANT_ID_ID : RF := ⟨R.SYS_PLANT_ID, 9, 0⟩
/-- SYS.STAT: module mode and start-up status (03_modes_startup_and_decaf.md). -/
def R.SYS_STAT : Nat := 0x30
def F.SYS_STAT_REPLACE_REQUEST : RF := ⟨R.SYS_STAT, 31, 31⟩
def F.SYS_STAT_HOLDUP_OK : RF := ⟨R.SYS_STAT, 30, 30⟩
def F.SYS_STAT_PF_INCOMPLETE : RF := ⟨R.SYS_STAT, 29, 29⟩
def F.SYS_STAT_DECAF_LATCH : RF := ⟨R.SYS_STAT, 28, 28⟩
def F.SYS_STAT_HALT_CAUSE : RF := ⟨R.SYS_STAT, 27, 24⟩
def F.SYS_STAT_BOOT_STEP : RF := ⟨R.SYS_STAT, 19, 16⟩
def F.SYS_STAT_OPLVL : RF := ⟨R.SYS_STAT, 7, 4⟩
def F.SYS_STAT_MODE : RF := ⟨R.SYS_STAT, 3, 0⟩
/-- SYS.CMD: mode command (03_modes_startup_and_decaf.md). -/
def R.SYS_CMD : Nat := 0x34
def F.SYS_CMD_CMD : RF := ⟨R.SYS_CMD, 3, 0⟩
/-- SYS.BOOT_CFG: start-up options, kept in parameter MRAM (03_modes_startup_and_decaf.md). -/
def R.SYS_BOOT_CFG : Nat := 0x38
def F.SYS_BOOT_CFG_LOCK_TMO : RF := ⟨R.SYS_BOOT_CFG, 11, 8⟩
def F.SYS_BOOT_CFG_WAIT_LOCK : RF := ⟨R.SYS_BOOT_CFG, 1, 1⟩
def F.SYS_BOOT_CFG_AUTORUN : RF := ⟨R.SYS_BOOT_CFG, 0, 0⟩
/-- HOST.LAST_HSEQ: newest executed HSEQ of the reading identity (04_host_access_and_registers.md). -/
def R.HOST_LAST_HSEQ : Nat := 0x420
def F.HOST_LAST_HSEQ_HSEQ : RF := ⟨R.HOST_LAST_HSEQ, 31, 0⟩
/-- HOST.DSEQ: last DSEQ sent to the reading identity (04_host_access_and_registers.md). -/
def R.HOST_DSEQ : Nat := 0x424
def F.HOST_DSEQ_DSEQ : RF := ⟨R.HOST_DSEQ, 31, 0⟩
/-- HOST.BCAST_EN: channels reached by the broadcast alias (04_host_access_and_registers.md). -/
def R.HOST_BCAST_EN : Nat := 0x428
def F.HOST_BCAST_EN_EN : RF := ⟨R.HOST_BCAST_EN, 7, 0⟩
/-- HOST.BCAST_RESULT: outcome of the identity's last broadcast (04_host_access_and_registers.md). -/
def R.HOST_BCAST_RESULT : Nat := 0x42C
def F.HOST_BCAST_RESULT_STATUS : RF := ⟨R.HOST_BCAST_RESULT, 31, 24⟩
def F.HOST_BCAST_RESULT_TARGET : RF := ⟨R.HOST_BCAST_RESULT, 23, 16⟩
def F.HOST_BCAST_RESULT_REFUSED : RF := ⟨R.HOST_BCAST_RESULT, 15, 8⟩
def F.HOST_BCAST_RESULT_ACCEPTED : RF := ⟨R.HOST_BCAST_RESULT, 7, 0⟩
/-- SNAP.REQ: request a snapshot of the selected channels (01_epochs_and_coherent_state.md). -/
def R.SNAP_REQ : Nat := 0x820
def F.SNAP_REQ_CHSEL : RF := ⟨R.SNAP_REQ, 7, 0⟩
/-- SNAP.END: release the held snapshot (01_epochs_and_coherent_state.md). -/
def R.SNAP_END : Nat := 0x824
def F.SNAP_END_END : RF := ⟨R.SNAP_END, 31, 0⟩
/-- SNAP.STAT: snapshot status (01_epochs_and_coherent_state.md). -/
def R.SNAP_STAT : Nat := 0x828
def F.SNAP_STAT_HELD : RF := ⟨R.SNAP_STAT, 31, 31⟩
def F.SNAP_STAT_EXPIRED : RF := ⟨R.SNAP_STAT, 30, 30⟩
def F.SNAP_STAT_HOLDOVER : RF := ⟨R.SNAP_STAT, 29, 29⟩
def F.SNAP_STAT_GRADE : RF := ⟨R.SNAP_STAT, 28, 27⟩
def F.SNAP_STAT_PARTIAL : RF := ⟨R.SNAP_STAT, 23, 16⟩
def F.SNAP_STAT_NODATA : RF := ⟨R.SNAP_STAT, 15, 8⟩
def F.SNAP_STAT_SEL : RF := ⟨R.SNAP_STAT, 7, 0⟩
/-- SNAP.EPOCH: frozen epoch number, low 32 bits (01_epochs_and_coherent_state.md). -/
def R.SNAP_EPOCH : Nat := 0x82C
def F.SNAP_EPOCH_EPOCH_LO : RF := ⟨R.SNAP_EPOCH, 31, 0⟩
/-- SNAP.EPOCH_HI: frozen epoch number, high 16 bits (01_epochs_and_coherent_state.md). -/
def R.SNAP_EPOCH_HI : Nat := 0x830
def F.SNAP_EPOCH_HI_EPOCH_HI : RF := ⟨R.SNAP_EPOCH_HI, 15, 0⟩
/-- SNAP.TIMEOUT: automatic release time (01_epochs_and_coherent_state.md). -/
def R.SNAP_TIMEOUT : Nat := 0x834
def F.SNAP_TIMEOUT_MS : RF := ⟨R.SNAP_TIMEOUT, 13, 0⟩
/-- SNAP.LAST_ADDR: address that releases the snapshot on read (01_epochs_and_coherent_state.md). -/
def R.SNAP_LAST_ADDR : Nat := 0x838
def F.SNAP_LAST_ADDR_ADDR : RF := ⟨R.SNAP_LAST_ADDR, 23, 0⟩
/-- PANEL.STAT: keys, pads and lockout status (02_module_connectors_and_panel.md). -/
def R.PANEL_STAT : Nat := 0xC20
def F.PANEL_STAT_KEYSW : RF := ⟨R.PANEL_STAT, 31, 31⟩
def F.PANEL_STAT_ACK : RF := ⟨R.PANEL_STAT, 30, 30⟩
def F.PANEL_STAT_ISOLATE : RF := ⟨R.PANEL_STAT, 29, 29⟩
def F.PANEL_STAT_PAD : RF := ⟨R.PANEL_STAT, 23, 16⟩
def F.PANEL_STAT_LOCKOUT : RF := ⟨R.PANEL_STAT, 15, 8⟩
def F.PANEL_STAT_SELCH : RF := ⟨R.PANEL_STAT, 3, 0⟩
/-- PTP.CTRL: profile, role and clock data, protected, kept in parameter MRAM (17_plant_time_and_can.md). -/
def R.PTP_CTRL : Nat := 0x1020
def F.PTP_CTRL_DOMAIN : RF := ⟨R.PTP_CTRL, 31, 24⟩
def F.PTP_CTRL_PRIO1 : RF := ⟨R.PTP_CTRL, 23, 16⟩
def F.PTP_CTRL_PRIO2 : RF := ⟨R.PTP_CTRL, 15, 8⟩
def F.PTP_CTRL_PROFILE : RF := ⟨R.PTP_CTRL, 7, 6⟩
def F.PTP_CTRL_ROLE : RF := ⟨R.PTP_CTRL, 5, 4⟩
def F.PTP_CTRL_TC : RF := ⟨R.PTP_CTRL, 3, 3⟩
def F.PTP_CTRL_EN_B : RF := ⟨R.PTP_CTRL, 2, 2⟩
def F.PTP_CTRL_EN_A : RF := ⟨R.PTP_CTRL, 1, 1⟩
/-- PTP.STAT: port states and clock status (17_plant_time_and_can.md). -/
def R.PTP_STAT : Nat := 0x1024
def F.PTP_STAT_STATE_A : RF := ⟨R.PTP_STAT, 31, 28⟩
def F.PTP_STAT_STATE_B : RF := ⟨R.PTP_STAT, 27, 24⟩
def F.PTP_STAT_LOCKED : RF := ⟨R.PTP_STAT, 23, 23⟩
def F.PTP_STAT_HOLDOVER : RF := ⟨R.PTP_STAT, 22, 22⟩
def F.PTP_STAT_EVER_LOCKED : RF := ⟨R.PTP_STAT, 21, 21⟩
def F.PTP_STAT_SLEWING : RF := ⟨R.PTP_STAT, 20, 20⟩
def F.PTP_STAT_HOLD_AGE : RF := ⟨R.PTP_STAT, 15, 0⟩
/-- PTP.OFFSET: last offset from master (17_plant_time_and_can.md). -/
def R.PTP_OFFSET : Nat := 0x1028
def F.PTP_OFFSET_NS : RF := ⟨R.PTP_OFFSET, 31, 0⟩
/-- PTP.TIME_S: seconds, bits 31:0 (17_plant_time_and_can.md). -/
def R.PTP_TIME_S : Nat := 0x1030
def F.PTP_TIME_S_S_LO : RF := ⟨R.PTP_TIME_S, 31, 0⟩
/-- PTP.TIME_SHI: seconds, bits 47:32 (17_plant_time_and_can.md). -/
def R.PTP_TIME_SHI : Nat := 0x1034
def F.PTP_TIME_SHI_S_HI : RF := ⟨R.PTP_TIME_SHI, 15, 0⟩
/-- PTP.TIME_NS: nanoseconds (17_plant_time_and_can.md). -/
def R.PTP_TIME_NS : Nat := 0x1038
def F.PTP_TIME_NS_NS : RF := ⟨R.PTP_TIME_NS, 29, 0⟩
/-- PTP.CNT: counts since BOOT (17_plant_time_and_can.md). -/
def R.PTP_CNT : Nat := 0x103C
def F.PTP_CNT_STEPS : RF := ⟨R.PTP_CNT, 31, 24⟩
def F.PTP_CNT_LOSSES : RF := ⟨R.PTP_CNT, 23, 16⟩
/-- CAN.CTRL: rates, ordering and status frame, kept in parameter MRAM (17_plant_time_and_can.md). -/
def R.CAN_CTRL : Nat := 0x1420
def F.CAN_CTRL_STATUS_ID : RF := ⟨R.CAN_CTRL, 26, 16⟩
def F.CAN_CTRL_STATUS_EN : RF := ⟨R.CAN_CTRL, 9, 9⟩
def F.CAN_CTRL_ABO : RF := ⟨R.CAN_CTRL, 8, 8⟩
def F.CAN_CTRL_TXPRIO : RF := ⟨R.CAN_CTRL, 7, 7⟩
def F.CAN_CTRL_LISTEN : RF := ⟨R.CAN_CTRL, 6, 6⟩
def F.CAN_CTRL_DBR : RF := ⟨R.CAN_CTRL, 3, 2⟩
def F.CAN_CTRL_NBR : RF := ⟨R.CAN_CTRL, 1, 0⟩
/-- CAN.CMD: bus-off recovery (17_plant_time_and_can.md). -/
def R.CAN_CMD : Nat := 0x1424
def F.CAN_CMD_RECOVER : RF := ⟨R.CAN_CMD, 0, 0⟩
/-- CAN.ERR: error state (17_plant_time_and_can.md). -/
def R.CAN_ERR : Nat := 0x1428
def F.CAN_ERR_STATE : RF := ⟨R.CAN_ERR, 31, 30⟩
def F.CAN_ERR_REC : RF := ⟨R.CAN_ERR, 23, 16⟩
def F.CAN_ERR_TEC : RF := ⟨R.CAN_ERR, 8, 0⟩
/-- CAN.TXCMD: request and cancel (17_plant_time_and_can.md). -/
def R.CAN_TXCMD : Nat := 0x1430
def F.CAN_TXCMD_CANCEL : RF := ⟨R.CAN_TXCMD, 6, 4⟩
def F.CAN_TXCMD_REQ : RF := ⟨R.CAN_TXCMD, 2, 0⟩
/-- CAN.TXSTAT: buffer states (17_plant_time_and_can.md). -/
def R.CAN_TXSTAT : Nat := 0x1434
def F.CAN_TXSTAT_CFAIL : RF := ⟨R.CAN_TXSTAT, 18, 16⟩
def F.CAN_TXSTAT_STATE : RF := ⟨R.CAN_TXSTAT, 11, 0⟩
/-- CAN.RXSTAT: receive FIFO status (17_plant_time_and_can.md). -/
def R.CAN_RXSTAT : Nat := 0x1438
def F.CAN_RXSTAT_LOCKED : RF := ⟨R.CAN_RXSTAT, 31, 31⟩
def F.CAN_RXSTAT_LOCK_TMO : RF := ⟨R.CAN_RXSTAT, 30, 30⟩
def F.CAN_RXSTAT_COUNT : RF := ⟨R.CAN_RXSTAT, 22, 16⟩
def F.CAN_RXSTAT_OVF : RF := ⟨R.CAN_RXSTAT, 15, 0⟩
/-- CAN.RXWIN: receive window (17_plant_time_and_can.md). -/
def R.CAN_RXWIN (k : Nat) : Nat := 0x1500 + 4 * k
/-- CAN.TXB0: transmit buffer 0 (17_plant_time_and_can.md). -/
def R.CAN_TXB0 (k : Nat) : Nat := 0x1600 + 4 * k
/-- CAN.TXB1: transmit buffer 1 (17_plant_time_and_can.md). -/
def R.CAN_TXB1 (k : Nat) : Nat := 0x1680 + 4 * k
/-- CAN.TXB2: transmit buffer 2 (17_plant_time_and_can.md). -/
def R.CAN_TXB2 (k : Nat) : Nat := 0x1700 + 4 * k
/-- ALLOC.CTRL: mode, horizon and membership, kept in parameter MRAM (13_dispatch_allocation.md). -/
def R.ALLOC_CTRL : Nat := 0x1820
def F.ALLOC_CTRL_CHEN : RF := ⟨R.ALLOC_CTRL, 23, 16⟩
def F.ALLOC_CTRL_IMP_RES : RF := ⟨R.ALLOC_CTRL, 10, 10⟩
def F.ALLOC_CTRL_REST_EN : RF := ⟨R.ALLOC_CTRL, 9, 9⟩
def F.ALLOC_CTRL_SHARE : RF := ⟨R.ALLOC_CTRL, 8, 8⟩
def F.ALLOC_CTRL_HOR : RF := ⟨R.ALLOC_CTRL, 5, 4⟩
def F.ALLOC_CTRL_MODE : RF := ⟨R.ALLOC_CTRL, 1, 0⟩
/-- ALLOC.PCMD: module power command (13_dispatch_allocation.md). -/
def R.ALLOC_PCMD : Nat := 0x1824
def F.ALLOC_PCMD_P : RF := ⟨R.ALLOC_PCMD, 31, 0⟩
/-- ALLOC.PCMD_TMO: command timeout (13_dispatch_allocation.md). -/
def R.ALLOC_PCMD_TMO : Nat := 0x1828
def F.ALLOC_PCMD_TMO_TMO : RF := ⟨R.ALLOC_PCMD_TMO, 12, 0⟩
/-- ALLOC.STAT: allocation status (13_dispatch_allocation.md). -/
def R.ALLOC_STAT : Nat := 0x182C
def F.ALLOC_STAT_TMO : RF := ⟨R.ALLOC_STAT, 31, 31⟩
def F.ALLOC_STAT_SHORT : RF := ⟨R.ALLOC_STAT, 30, 30⟩
def F.ALLOC_STAT_REST_ACT : RF := ⟨R.ALLOC_STAT, 27, 27⟩
def F.ALLOC_STAT_REST_CH : RF := ⟨R.ALLOC_STAT, 26, 24⟩
def F.ALLOC_STAT_MEMBERS : RF := ⟨R.ALLOC_STAT, 23, 16⟩
def F.ALLOC_STAT_UNMET : RF := ⟨R.ALLOC_STAT, 15, 0⟩
/-- THERM.CTRL: cell limit mode, kept in parameter MRAM (15_thermal_management.md). -/
def R.THERM_CTRL : Nat := 0x1C20
def F.THERM_CTRL_COMPAT : RF := ⟨R.THERM_CTRL, 0, 0⟩
/-- THERM.STAT: thermal status (15_thermal_management.md). -/
def R.THERM_STAT : Nat := 0x1C24
def F.THERM_STAT_LEVEL : RF := ⟨R.THERM_STAT, 31, 30⟩
def F.THERM_STAT_CFG_ERR : RF := ⟨R.THERM_STAT, 29, 29⟩
def F.THERM_STAT_FAILED : RF := ⟨R.THERM_STAT, 28, 20⟩
def F.THERM_STAT_SRC : RF := ⟨R.THERM_STAT, 19, 16⟩
def F.THERM_STAT_INHIBIT : RF := ⟨R.THERM_STAT, 15, 8⟩
def F.THERM_STAT_TMOD : RF := ⟨R.THERM_STAT, 7, 0⟩
/-- THERM.DIE: sensor k reading (15_thermal_management.md). -/
def R.THERM_DIE (k : Nat) : Nat := 0x1C40 + 4 * k
def F.THERM_DIE_TEMP (k : Nat) : RF := ⟨R.THERM_DIE k, 15, 0⟩
/-- THERM.AX: map axes, kept in parameter MRAM (15_thermal_management.md). -/
def R.THERM_AX (k : Nat) : Nat := 0x1C70 + 4 * k
def F.THERM_AX_P3 (k : Nat) : RF := ⟨R.THERM_AX k, 31, 24⟩
def F.THERM_AX_P2 (k : Nat) : RF := ⟨R.THERM_AX k, 23, 16⟩
def F.THERM_AX_P1 (k : Nat) : RF := ⟨R.THERM_AX k, 15, 8⟩
def F.THERM_AX_P0 (k : Nat) : RF := ⟨R.THERM_AX k, 7, 0⟩
/-- THERM.CMAP: charge and discharge maps, kept in parameter MRAM (15_thermal_management.md). -/
def R.THERM_CMAP (k : Nat) : Nat := 0x1C80 + 4 * k
def F.THERM_CMAP_E3 (k : Nat) : RF := ⟨R.THERM_CMAP k, 31, 24⟩
def F.THERM_CMAP_E2 (k : Nat) : RF := ⟨R.THERM_CMAP k, 23, 16⟩
def F.THERM_CMAP_E1 (k : Nat) : RF := ⟨R.THERM_CMAP k, 15, 8⟩
def F.THERM_CMAP_E0 (k : Nat) : RF := ⟨R.THERM_CMAP k, 7, 0⟩
/-- THERM.DMAP: charge and discharge maps, kept in parameter MRAM (15_thermal_management.md). -/
def R.THERM_DMAP (k : Nat) : Nat := 0x1CC0 + 4 * k
def F.THERM_DMAP_E3 (k : Nat) : RF := ⟨R.THERM_DMAP k, 31, 24⟩
def F.THERM_DMAP_E2 (k : Nat) : RF := ⟨R.THERM_DMAP k, 23, 16⟩
def F.THERM_DMAP_E1 (k : Nat) : RF := ⟨R.THERM_DMAP k, 15, 8⟩
def F.THERM_DMAP_E0 (k : Nat) : RF := ⟨R.THERM_DMAP k, 7, 0⟩
/-- THERM.LIM: thermal limits of channel n (15_thermal_management.md). -/
def R.THERM_LIM (k : Nat) : Nat := 0x1D00 + 4 * k
def F.THERM_LIM_CHG (k : Nat) : RF := ⟨R.THERM_LIM k, 31, 16⟩
def F.THERM_LIM_DIS (k : Nat) : RF := ⟨R.THERM_LIM k, 15, 0⟩
/-- EVT.STAT: fill state (19_event_recorder.md). -/
def R.EVT_STAT : Nat := 0x2020
def F.EVT_STAT_FULL : RF := ⟨R.EVT_STAT, 31, 31⟩
def F.EVT_STAT_STAGED : RF := ⟨R.EVT_STAT, 28, 18⟩
def F.EVT_STAT_COUNT : RF := ⟨R.EVT_STAT, 17, 0⟩
/-- EVT.FIRST_SEQ: oldest retained sequence number (19_event_recorder.md). -/
def R.EVT_FIRST_SEQ : Nat := 0x2024
def F.EVT_FIRST_SEQ_SEQ : RF := ⟨R.EVT_FIRST_SEQ, 31, 0⟩
/-- EVT.NEXT_SEQ: number the next record takes (19_event_recorder.md). -/
def R.EVT_NEXT_SEQ : Nat := 0x2028
def F.EVT_NEXT_SEQ_SEQ : RF := ⟨R.EVT_NEXT_SEQ, 31, 0⟩
/-- EVT.DROPPED: dropped events (19_event_recorder.md). -/
def R.EVT_DROPPED : Nat := 0x202C
def F.EVT_DROPPED_COUNT : RF := ⟨R.EVT_DROPPED, 31, 0⟩
/-- EVT.CURSOR: read position of the reader (19_event_recorder.md). -/
def R.EVT_CURSOR : Nat := 0x2030
def F.EVT_CURSOR_SEQ : RF := ⟨R.EVT_CURSOR, 31, 0⟩
/-- EVT.CMD: clear and flush (19_event_recorder.md). -/
def R.EVT_CMD : Nat := 0x2034
def F.EVT_CMD_FLUSH : RF := ⟨R.EVT_CMD, 1, 1⟩
def F.EVT_CMD_CLEAR : RF := ⟨R.EVT_CMD, 0, 0⟩
/-- EVT.OPTIME_LO: operating time, low word (19_event_recorder.md). -/
def R.EVT_OPTIME_LO : Nat := 0x2038
def F.EVT_OPTIME_LO_MS : RF := ⟨R.EVT_OPTIME_LO, 31, 0⟩
/-- EVT.OPTIME_HI: operating time, high bits, and power cycles (19_event_recorder.md). -/
def R.EVT_OPTIME_HI : Nat := 0x203C
def F.EVT_OPTIME_HI_PCC : RF := ⟨R.EVT_OPTIME_HI, 31, 8⟩
def F.EVT_OPTIME_HI_MS_HI : RF := ⟨R.EVT_OPTIME_HI, 7, 0⟩
/-- EVT.WIN: record window (19_event_recorder.md). -/
def R.EVT_WIN (k : Nat) : Nat := 0x2040 + 4 * k
def F.EVT_WIN_WORD (k : Nat) : RF := ⟨R.EVT_WIN k, 31, 0⟩
/-- UPD.CTRL: trial window and confirmation mode, kept in parameter MRAM (21_update_test_access_and_secrets.md). -/
def R.UPD_CTRL : Nat := 0x2420
def F.UPD_CTRL_CONFIRM_HOST : RF := ⟨R.UPD_CTRL, 16, 16⟩
def F.UPD_CTRL_TRIAL : RF := ⟨R.UPD_CTRL, 11, 0⟩
/-- UPD.CMD: verify, arm, cancel and accept (21_update_test_access_and_secrets.md). -/
def R.UPD_CMD : Nat := 0x2424
def F.UPD_CMD_CONFIRM : RF := ⟨R.UPD_CMD, 4, 4⟩
def F.UPD_CMD_ACCEPT : RF := ⟨R.UPD_CMD, 3, 3⟩
def F.UPD_CMD_CANCEL : RF := ⟨R.UPD_CMD, 2, 2⟩
def F.UPD_CMD_ARM : RF := ⟨R.UPD_CMD, 1, 1⟩
def F.UPD_CMD_VERIFY : RF := ⟨R.UPD_CMD, 0, 0⟩
/-- UPD.STAT: update state (21_update_test_access_and_secrets.md). -/
def R.UPD_STAT : Nat := 0x2428
def F.UPD_STAT_STATE : RF := ⟨R.UPD_STAT, 31, 29⟩
def F.UPD_STAT_ACTIVE : RF := ⟨R.UPD_STAT, 28, 28⟩
def F.UPD_STAT_CONFIRMED : RF := ⟨R.UPD_STAT, 27, 27⟩
def F.UPD_STAT_FALLBACK : RF := ⟨R.UPD_STAT, 26, 26⟩
def F.UPD_STAT_VERR : RF := ⟨R.UPD_STAT, 25, 22⟩
def F.UPD_STAT_CH_OLD : RF := ⟨R.UPD_STAT, 15, 8⟩
/-- UPD.VER: slot versions (21_update_test_access_and_secrets.md). -/
def R.UPD_VER : Nat := 0x242C
def F.UPD_VER_VER_B : RF := ⟨R.UPD_VER, 31, 16⟩
def F.UPD_VER_VER_A : RF := ⟨R.UPD_VER, 15, 0⟩
/-- UPD.ACT_TIME_LO: activation time, seconds 31:0 (21_update_test_access_and_secrets.md). -/
def R.UPD_ACT_TIME_LO : Nat := 0x2430
def F.UPD_ACT_TIME_LO_S_LO : RF := ⟨R.UPD_ACT_TIME_LO, 31, 0⟩
/-- UPD.ACT_TIME_HI: activation time, seconds 47:32, and trial time left (21_update_test_access_and_secrets.md). -/
def R.UPD_ACT_TIME_HI : Nat := 0x2434
def F.UPD_ACT_TIME_HI_TRIAL_LEFT : RF := ⟨R.UPD_ACT_TIME_HI, 31, 16⟩
def F.UPD_ACT_TIME_HI_S_HI : RF := ⟨R.UPD_ACT_TIME_HI, 15, 0⟩
/-- UPD.STAGE_OFF: staging block offset (21_update_test_access_and_secrets.md). -/
def R.UPD_STAGE_OFF : Nat := 0x2438
def F.UPD_STAGE_OFF_OFF : RF := ⟨R.UPD_STAGE_OFF, 31, 0⟩
/-- UPD.STAGE_WIN: staging window (21_update_test_access_and_secrets.md). -/
def R.UPD_STAGE_WIN (k : Nat) : Nat := 0x2600 + 4 * k
def F.UPD_STAGE_WIN_DATA (k : Nat) : RF := ⟨R.UPD_STAGE_WIN k, 31, 0⟩
/-- SEC.STAT: provisioning state and rollback floor (21_update_test_access_and_secrets.md). -/
def R.SEC_STAT : Nat := 0x2820
def F.SEC_STAT_PROV : RF := ⟨R.SEC_STAT, 31, 30⟩
def F.SEC_STAT_TIME_UNCHECKED : RF := ⟨R.SEC_STAT, 29, 29⟩
def F.SEC_STAT_REVOKED : RF := ⟨R.SEC_STAT, 27, 24⟩
def F.SEC_STAT_ANCHORS : RF := ⟨R.SEC_STAT, 23, 20⟩
def F.SEC_STAT_FLOOR : RF := ⟨R.SEC_STAT, 15, 0⟩
/-- SEC.CMD: commit and deprovision, protected, service privilege (21_update_test_access_and_secrets.md). -/
def R.SEC_CMD : Nat := 0x2824
def F.SEC_CMD_DEPROVISION : RF := ⟨R.SEC_CMD, 1, 1⟩
def F.SEC_CMD_COMMIT : RF := ⟨R.SEC_CMD, 0, 0⟩
/-- SEC.OBJ_CTRL: object selection (21_update_test_access_and_secrets.md). -/
def R.SEC_OBJ_CTRL : Nat := 0x2828
def F.SEC_OBJ_CTRL_OBJ : RF := ⟨R.SEC_OBJ_CTRL, 31, 28⟩
def F.SEC_OBJ_CTRL_BLK : RF := ⟨R.SEC_OBJ_CTRL, 25, 24⟩
def F.SEC_OBJ_CTRL_LEN : RF := ⟨R.SEC_OBJ_CTRL, 11, 0⟩
/-- SEC.OBJ_WIN: object window (21_update_test_access_and_secrets.md). -/
def R.SEC_OBJ_WIN (k : Nat) : Nat := 0x2A00 + 4 * k
def F.SEC_OBJ_WIN_DATA (k : Nat) : RF := ⟨R.SEC_OBJ_WIN k, 31, 0⟩
/-- TWIN.CFG: pair side, kept in parameter MRAM (18_twin_operation.md). -/
def R.TWIN_CFG : Nat := 0x2C20
def F.TWIN_CFG_SIDE : RF := ⟨R.TWIN_CFG, 0, 0⟩
/-- TWIN.CHCFG: preferred owner and valve, kept in parameter MRAM (18_twin_operation.md). -/
def R.TWIN_CHCFG : Nat := 0x2C24
def F.TWIN_CHCFG_VLV : RF := ⟨R.TWIN_CHCFG, 15, 8⟩
def F.TWIN_CHCFG_PREF : RF := ⟨R.TWIN_CHCFG, 7, 0⟩
/-- TWIN.STAT: link and partner status (18_twin_operation.md). -/
def R.TWIN_STAT : Nat := 0x2C28
def F.TWIN_STAT_LINK : RF := ⟨R.TWIN_STAT, 31, 31⟩
def F.TWIN_STAT_READY : RF := ⟨R.TWIN_STAT, 30, 30⟩
def F.TWIN_STAT_ALIGNED : RF := ⟨R.TWIN_STAT, 29, 29⟩
def F.TWIN_STAT_CFG_ERR : RF := ⟨R.TWIN_STAT, 28, 28⟩
def F.TWIN_STAT_PMODE : RF := ⟨R.TWIN_STAT, 27, 24⟩
def F.TWIN_STAT_BRIDGE : RF := ⟨R.TWIN_STAT, 23, 16⟩
def F.TWIN_STAT_LOST : RF := ⟨R.TWIN_STAT, 15, 8⟩
def F.TWIN_STAT_OWN : RF := ⟨R.TWIN_STAT, 7, 0⟩
/-- TWIN.OFFSET: time-base offset (18_twin_operation.md). -/
def R.TWIN_OFFSET : Nat := 0x2C2C
def F.TWIN_OFFSET_NS : RF := ⟨R.TWIN_OFFSET, 31, 0⟩
/-- TWIN.CMD: handover (18_twin_operation.md). -/
def R.TWIN_CMD : Nat := 0x2C30
def F.TWIN_CMD_HANDOVER : RF := ⟨R.TWIN_CMD, 7, 0⟩
/-- TWIN.CNT: counts since BOOT (18_twin_operation.md). -/
def R.TWIN_CNT : Nat := 0x2C34
def F.TWIN_CNT_TAKEOVERS : RF := ⟨R.TWIN_CNT, 31, 24⟩
def F.TWIN_CNT_MIRROR_FAIL : RF := ⟨R.TWIN_CNT, 23, 16⟩
def F.TWIN_CNT_MISSED : RF := ⟨R.TWIN_CNT, 15, 8⟩
def F.TWIN_CNT_BAD : RF := ⟨R.TWIN_CNT, 7, 0⟩
/-- HLTH.CTRL: Crema enable, protected (14_protection_and_safety.md). -/
def R.HLTH_CTRL : Nat := 0x3020
def F.HLTH_CTRL_EN : RF := ⟨R.HLTH_CTRL, 0, 0⟩
/-- HLTH.STAT: Crema findings, held until BOOT (14_protection_and_safety.md). -/
def R.HLTH_STAT : Nat := 0x3024
def F.HLTH_STAT_COND : RF := ⟨R.HLTH_STAT, 31, 24⟩
def F.HLTH_STAT_CHMASK : RF := ⟨R.HLTH_STAT, 23, 16⟩
def F.HLTH_STAT_LATENT : RF := ⟨R.HLTH_STAT, 6, 6⟩
def F.HLTH_STAT_HOLDUP : RF := ⟨R.HLTH_STAT, 5, 5⟩
def F.HLTH_STAT_TIMEBASE : RF := ⟨R.HLTH_STAT, 4, 4⟩
def F.HLTH_STAT_TRIPTEST : RF := ⟨R.HLTH_STAT, 3, 3⟩
def F.HLTH_STAT_MEMORY : RF := ⟨R.HLTH_STAT, 2, 2⟩
def F.HLTH_STAT_POUR_X : RF := ⟨R.HLTH_STAT, 1, 1⟩
def F.HLTH_STAT_REF : RF := ⟨R.HLTH_STAT, 0, 0⟩
/-- PMCS.CTRL: run and user access (20_performance_counters.md). -/
def R.PMCS_CTRL : Nat := 0x3420
def F.PMCS_CTRL_USER_EN : RF := ⟨R.PMCS_CTRL, 9, 9⟩
def F.PMCS_CTRL_RUN1 : RF := ⟨R.PMCS_CTRL, 1, 1⟩
def F.PMCS_CTRL_RUN0 : RF := ⟨R.PMCS_CTRL, 0, 0⟩
/-- PMCS.OVF: sticky overflow (20_performance_counters.md). -/
def R.PMCS_OVF : Nat := 0x3424
def F.PMCS_OVF_CORE1 : RF := ⟨R.PMCS_OVF, 13, 8⟩
def F.PMCS_OVF_CORE0 : RF := ⟨R.PMCS_OVF, 5, 0⟩
/-- PMCS.PS_CTRL: precise sampling (20_performance_counters.md). -/
def R.PMCS_PS_CTRL : Nat := 0x3428
def F.PMCS_PS_CTRL_CLEAR : RF := ⟨R.PMCS_PS_CTRL, 31, 31⟩
def F.PMCS_PS_CTRL_ARM : RF := ⟨R.PMCS_PS_CTRL, 30, 30⟩
def F.PMCS_PS_CTRL_CORE : RF := ⟨R.PMCS_PS_CTRL, 29, 29⟩
def F.PMCS_PS_CTRL_PERIOD : RF := ⟨R.PMCS_PS_CTRL, 15, 0⟩
/-- PMCS.PS_STAT: sampling buffer status (20_performance_counters.md). -/
def R.PMCS_PS_STAT : Nat := 0x342C
def F.PMCS_PS_STAT_FULL : RF := ⟨R.PMCS_PS_STAT, 31, 31⟩
def F.PMCS_PS_STAT_COUNT : RF := ⟨R.PMCS_PS_STAT, 6, 0⟩
/-- PMCS.PS_DATA: sampling read port (20_performance_counters.md). -/
def R.PMCS_PS_DATA : Nat := 0x3430
def F.PMCS_PS_DATA_DATA : RF := ⟨R.PMCS_PS_DATA, 31, 0⟩
/-- PMCS.EVSEL0: event select (20_performance_counters.md). -/
def R.PMCS_EVSEL0 (k : Nat) : Nat := 0x3440 + 4 * k
def F.PMCS_EVSEL0_EVENT (k : Nat) : RF := ⟨R.PMCS_EVSEL0 k, 7, 0⟩
/-- PMCS.CNTL0: counter, bits 31:0 (20_performance_counters.md). -/
def R.PMCS_CNTL0 (k : Nat) : Nat := 0x3458 + 8 * k
def F.PMCS_CNTL0_LO (k : Nat) : RF := ⟨R.PMCS_CNTL0 k, 31, 0⟩
/-- PMCS.CNTH0: counter, bits 47:32 (20_performance_counters.md). -/
def R.PMCS_CNTH0 (k : Nat) : Nat := 0x345C + 8 * k
def F.PMCS_CNTH0_HI (k : Nat) : RF := ⟨R.PMCS_CNTH0 k, 15, 0⟩
/-- PMCS.EVSEL1: event select (20_performance_counters.md). -/
def R.PMCS_EVSEL1 (k : Nat) : Nat := 0x34A0 + 4 * k
def F.PMCS_EVSEL1_EVENT (k : Nat) : RF := ⟨R.PMCS_EVSEL1 k, 7, 0⟩
/-- PMCS.CNTL1: counter, bits 31:0 (20_performance_counters.md). -/
def R.PMCS_CNTL1 (k : Nat) : Nat := 0x34B8 + 8 * k
def F.PMCS_CNTL1_LO (k : Nat) : RF := ⟨R.PMCS_CNTL1 k, 31, 0⟩
/-- PMCS.CNTH1: counter, bits 47:32 (20_performance_counters.md). -/
def R.PMCS_CNTH1 (k : Nat) : Nat := 0x34BC + 8 * k
def F.PMCS_CNTH1_HI (k : Nat) : RF := ⟨R.PMCS_CNTH1 k, 15, 0⟩
/-- TEST.UNLOCK: test access request, protected, service privilege (21_update_test_access_and_secrets.md). -/
def R.TEST_UNLOCK : Nat := 0x3820
def F.TEST_UNLOCK_UNLOCK : RF := ⟨R.TEST_UNLOCK, 0, 0⟩
/-- TEST.STAT: test access status (21_update_test_access_and_secrets.md). -/
def R.TEST_STAT : Nat := 0x3824
def F.TEST_STAT_COVER_OPEN : RF := ⟨R.TEST_STAT, 31, 31⟩
def F.TEST_STAT_TAP_EN : RF := ⟨R.TEST_STAT, 30, 30⟩
def F.TEST_STAT_RESTRICT_OK : RF := ⟨R.TEST_STAT, 29, 29⟩
def F.TEST_STAT_REFUSED : RF := ⟨R.TEST_STAT, 28, 28⟩
/-- CH.STATE: channel state (03_modes_startup_and_decaf.md). -/
def R.CH_STATE (n : Ch) : Nat := chBase n + 0x20
def F.CH_STATE_CAUSE (n : Ch) : RF := ⟨R.CH_STATE n, 15, 8⟩
def F.CH_STATE_PREV (n : Ch) : RF := ⟨R.CH_STATE n, 7, 4⟩
def F.CH_STATE_STATE (n : Ch) : RF := ⟨R.CH_STATE n, 3, 0⟩
/-- CH.CONN: connector presence and unplug record (02_module_connectors_and_panel.md). -/
def R.CH_CONN (n : Ch) : Nat := chBase n + 0x24
def F.CH_CONN_RING_B_REMOTE (n : Ch) : RF := ⟨R.CH_CONN n, 8, 8⟩
def F.CH_CONN_UNPLUG_IO (n : Ch) : RF := ⟨R.CH_CONN n, 7, 7⟩
def F.CH_CONN_UNPLUG_PS (n : Ch) : RF := ⟨R.CH_CONN n, 6, 6⟩
def F.CH_CONN_UNPLUG_RB (n : Ch) : RF := ⟨R.CH_CONN n, 5, 5⟩
def F.CH_CONN_UNPLUG_RA (n : Ch) : RF := ⟨R.CH_CONN n, 4, 4⟩
def F.CH_CONN_IO (n : Ch) : RF := ⟨R.CH_CONN n, 3, 3⟩
def F.CH_CONN_PS (n : Ch) : RF := ⟨R.CH_CONN n, 2, 2⟩
def F.CH_CONN_RB (n : Ch) : RF := ⟨R.CH_CONN n, 1, 1⟩
def F.CH_CONN_RA (n : Ch) : RF := ⟨R.CH_CONN n, 0, 0⟩
/-- RING.CTRL: ring topology, restart and retries (05_tile_ring.md). -/
def R.RING_CTRL (n : Ch) : Nat := chBase n + 0x420
def F.RING_CTRL_RESTART (n : Ch) : RF := ⟨R.RING_CTRL n, 31, 31⟩
def F.RING_CTRL_END (n : Ch) : RF := ⟨R.RING_CTRL n, 8, 8⟩
def F.RING_CTRL_TOPO (n : Ch) : RF := ⟨R.RING_CTRL n, 5, 4⟩
def F.RING_CTRL_RETRY_MAX (n : Ch) : RF := ⟨R.RING_CTRL n, 3, 0⟩
/-- RING.STAT: ring state and population (05_tile_ring.md). -/
def R.RING_STAT (n : Ch) : Nat := chBase n + 0x424
def F.RING_STAT_STATE (n : Ch) : RF := ⟨R.RING_STAT n, 31, 28⟩
def F.RING_STAT_START_ERR (n : Ch) : RF := ⟨R.RING_STAT n, 27, 24⟩
def F.RING_STAT_MASTER_B (n : Ch) : RF := ⟨R.RING_STAT n, 23, 23⟩
def F.RING_STAT_RELAY (n : Ch) : RF := ⟨R.RING_STAT n, 22, 22⟩
def F.RING_STAT_DELAY_FAULT (n : Ch) : RF := ⟨R.RING_STAT n, 21, 21⟩
def F.RING_STAT_CELLS (n : Ch) : RF := ⟨R.RING_STAT n, 16, 8⟩
def F.RING_STAT_TILES (n : Ch) : RF := ⟨R.RING_STAT n, 4, 0⟩
/-- RING.EXPECT: expected population, kept in parameter MRAM (05_tile_ring.md). -/
def R.RING_EXPECT (n : Ch) : Nat := chBase n + 0x428
def F.RING_EXPECT_CELLS (n : Ch) : RF := ⟨R.RING_EXPECT n, 24, 16⟩
def F.RING_EXPECT_TILES (n : Ch) : RF := ⟨R.RING_EXPECT n, 4, 0⟩
/-- RING.BREAK: break location (05_tile_ring.md). -/
def R.RING_BREAK (n : Ch) : Nat := chBase n + 0x42C
def F.RING_BREAK_SPLIT (n : Ch) : RF := ⟨R.RING_BREAK n, 31, 31⟩
def F.RING_BREAK_POS_B (n : Ch) : RF := ⟨R.RING_BREAK n, 20, 16⟩
def F.RING_BREAK_POS_A (n : Ch) : RF := ⟨R.RING_BREAK n, 12, 8⟩
def F.RING_BREAK_COUNT (n : Ch) : RF := ⟨R.RING_BREAK n, 7, 0⟩
/-- RING.DELAY: loop time and D (05_tile_ring.md). -/
def R.RING_DELAY (n : Ch) : Nat := chBase n + 0x430
def F.RING_DELAY_LOOP_NS (n : Ch) : RF := ⟨R.RING_DELAY n, 31, 16⟩
def F.RING_DELAY_D_NS (n : Ch) : RF := ⟨R.RING_DELAY n, 13, 0⟩
/-- RING.ERRCNT: ring error counts since ring start (05_tile_ring.md). -/
def R.RING_ERRCNT (n : Ch) : Nat := chBase n + 0x434
def F.RING_ERRCNT_CRC (n : Ch) : RF := ⟨R.RING_ERRCNT n, 31, 24⟩
def F.RING_ERRCNT_LOST (n : Ch) : RF := ⟨R.RING_ERRCNT n, 23, 16⟩
def F.RING_ERRCNT_READS (n : Ch) : RF := ⟨R.RING_ERRCNT n, 15, 8⟩
def F.RING_ERRCNT_RECOLLECT (n : Ch) : RF := ⟨R.RING_ERRCNT n, 7, 0⟩
/-- RING.TDLY: delays of tile k + 1 (05_tile_ring.md). -/
def R.RING_TDLY (n : Ch) (k : Nat) : Nat := chBase n + 0x440 + 4 * k
def F.RING_TDLY_REV_NS (n : Ch) (k : Nat) : RF := ⟨R.RING_TDLY n k, 31, 16⟩
def F.RING_TDLY_FWD_NS (n : Ch) (k : Nat) : RF := ⟨R.RING_TDLY n k, 15, 0⟩
/-- POUR.CTRL: current source and thermistor population (06_pour_sweep.md). -/
def R.POUR_CTRL (n : Ch) : Nat := chBase n + 0x820
def F.POUR_CTRL_ISEL (n : Ch) : RF := ⟨R.POUR_CTRL n, 5, 4⟩
def F.POUR_CTRL_TMASK (n : Ch) : RF := ⟨R.POUR_CTRL n, 3, 0⟩
/-- POUR.STAT: state of the last delivered epoch (06_pour_sweep.md). -/
def R.POUR_STAT (n : Ch) : Nat := chBase n + 0x824
def F.POUR_STAT_GRADE (n : Ch) : RF := ⟨R.POUR_STAT n, 31, 30⟩
def F.POUR_STAT_HOLDOVER (n : Ch) : RF := ⟨R.POUR_STAT n, 29, 29⟩
def F.POUR_STAT_PARTIAL (n : Ch) : RF := ⟨R.POUR_STAT n, 28, 28⟩
def F.POUR_STAT_ISRC (n : Ch) : RF := ⟨R.POUR_STAT n, 27, 27⟩
def F.POUR_STAT_IVALID (n : Ch) : RF := ⟨R.POUR_STAT n, 26, 26⟩
def F.POUR_STAT_SPLIT (n : Ch) : RF := ⟨R.POUR_STAT n, 25, 25⟩
def F.POUR_STAT_LATE (n : Ch) : RF := ⟨R.POUR_STAT n, 24, 24⟩
def F.POUR_STAT_STALE_RUN (n : Ch) : RF := ⟨R.POUR_STAT n, 23, 16⟩
def F.POUR_STAT_DELIV_US (n : Ch) : RF := ⟨R.POUR_STAT n, 15, 0⟩
/-- POUR.SDCFG: modulator delays, kept in parameter MRAM (06_pour_sweep.md). -/
def R.POUR_SDCFG (n : Ch) : Nat := chBase n + 0x828
def F.POUR_SDCFG_M_IMAIN (n : Ch) : RF := ⟨R.POUR_SDCFG n, 31, 24⟩
def F.POUR_SDCFG_M_IAUX (n : Ch) : RF := ⟨R.POUR_SDCFG n, 23, 16⟩
def F.POUR_SDCFG_M_VSTR (n : Ch) : RF := ⟨R.POUR_SDCFG n, 15, 8⟩
def F.POUR_SDCFG_M_VBUS (n : Ch) : RF := ⟨R.POUR_SDCFG n, 7, 0⟩
/-- POUR.SDRTT: measured round trips (06_pour_sweep.md). -/
def R.POUR_SDRTT (n : Ch) : Nat := chBase n + 0x82C
def F.POUR_SDRTT_R_IMAIN (n : Ch) : RF := ⟨R.POUR_SDRTT n, 31, 24⟩
def F.POUR_SDRTT_R_IAUX (n : Ch) : RF := ⟨R.POUR_SDRTT n, 23, 16⟩
def F.POUR_SDRTT_R_VSTR (n : Ch) : RF := ⟨R.POUR_SDRTT n, 15, 8⟩
def F.POUR_SDRTT_R_VBUS (n : Ch) : RF := ⟨R.POUR_SDRTT n, 7, 0⟩
/-- POUR.CNT: counts since ring start (06_pour_sweep.md). -/
def R.POUR_CNT (n : Ch) : Nat := chBase n + 0x830
def F.POUR_CNT_PARTIAL (n : Ch) : RF := ⟨R.POUR_CNT n, 31, 16⟩
def F.POUR_CNT_OVERRUN (n : Ch) : RF := ⟨R.POUR_CNT n, 15, 0⟩
/-- CDIAG.CTRL: test schedule (08_cell_integrity_and_balancing.md). -/
def R.CDIAG_CTRL (n : Ch) : Nat := chBase n + 0xC20
def F.CDIAG_CTRL_MODE (n : Ch) : RF := ⟨R.CDIAG_CTRL n, 1, 0⟩
/-- CDIAG.OWCFG: test and drift thresholds, protected (08_cell_integrity_and_balancing.md). -/
def R.CDIAG_OWCFG (n : Ch) : Nat := chBase n + 0xC24
def F.CDIAG_OWCFG_SUM_TOL (n : Ch) : RF := ⟨R.CDIAG_OWCFG n, 31, 24⟩
def F.CDIAG_OWCFG_DRIFT (n : Ch) : RF := ⟨R.CDIAG_OWCFG n, 23, 16⟩
def F.CDIAG_OWCFG_OW_THRESH (n : Ch) : RF := ⟨R.CDIAG_OWCFG n, 8, 0⟩
/-- CDIAG.PAIR: pair rule margin, protected (08_cell_integrity_and_balancing.md). -/
def R.CDIAG_PAIR (n : Ch) : Nat := chBase n + 0xC28
def F.CDIAG_PAIR_MARGIN (n : Ch) : RF := ⟨R.CDIAG_PAIR n, 9, 0⟩
/-- CDIAG.CMP: comparator thresholds, protected (08_cell_integrity_and_balancing.md). -/
def R.CDIAG_CMP (n : Ch) : Nat := chBase n + 0xC2C
def F.CDIAG_CMP_OV (n : Ch) : RF := ⟨R.CDIAG_CMP n, 31, 16⟩
def F.CDIAG_CMP_UV (n : Ch) : RF := ⟨R.CDIAG_CMP n, 15, 0⟩
/-- CDIAG.STAT: integrity status (08_cell_integrity_and_balancing.md). -/
def R.CDIAG_STAT (n : Ch) : Nat := chBase n + 0xC30
def F.CDIAG_STAT_NSUSP (n : Ch) : RF := ⟨R.CDIAG_STAT n, 31, 24⟩
def F.CDIAG_STAT_END_TAP (n : Ch) : RF := ⟨R.CDIAG_STAT n, 23, 23⟩
def F.CDIAG_STAT_CMP_MISMATCH (n : Ch) : RF := ⟨R.CDIAG_STAT n, 22, 22⟩
/-- CDIAG.SUSPECT: latched suspect taps, kept in parameter MRAM (08_cell_integrity_and_balancing.md). -/
def R.CDIAG_SUSPECT (n : Ch) : Nat := chBase n + 0xC34
def F.CDIAG_SUSPECT_TILE1 (n : Ch) : RF := ⟨R.CDIAG_SUSPECT n, 31, 24⟩
def F.CDIAG_SUSPECT_TAP1 (n : Ch) : RF := ⟨R.CDIAG_SUSPECT n, 20, 16⟩
def F.CDIAG_SUSPECT_TILE0 (n : Ch) : RF := ⟨R.CDIAG_SUSPECT n, 15, 8⟩
def F.CDIAG_SUSPECT_TAP0 (n : Ch) : RF := ⟨R.CDIAG_SUSPECT n, 4, 0⟩
/-- CDIAG.LAST: last evaluated test (08_cell_integrity_and_balancing.md). -/
def R.CDIAG_LAST (n : Ch) : Nat := chBase n + 0xC38
def F.CDIAG_LAST_TILE (n : Ch) : RF := ⟨R.CDIAG_LAST n, 31, 24⟩
def F.CDIAG_LAST_TAP (n : Ch) : RF := ⟨R.CDIAG_LAST n, 20, 16⟩
def F.CDIAG_LAST_RES (n : Ch) : RF := ⟨R.CDIAG_LAST n, 15, 14⟩
def F.CDIAG_LAST_DIFF (n : Ch) : RF := ⟨R.CDIAG_LAST n, 11, 0⟩
/-- CDIAG.CMD: clear and forced test (08_cell_integrity_and_balancing.md). -/
def R.CDIAG_CMD (n : Ch) : Nat := chBase n + 0xC3C
def F.CDIAG_CMD_TILE (n : Ch) : RF := ⟨R.CDIAG_CMD n, 28, 24⟩
def F.CDIAG_CMD_TAP (n : Ch) : RF := ⟨R.CDIAG_CMD n, 20, 16⟩
def F.CDIAG_CMD_FORCE (n : Ch) : RF := ⟨R.CDIAG_CMD n, 1, 1⟩
def F.CDIAG_CMD_CLEAR (n : Ch) : RF := ⟨R.CDIAG_CMD n, 0, 0⟩
/-- CDIAG.CNT: test counts since ring start (08_cell_integrity_and_balancing.md). -/
def R.CDIAG_CNT (n : Ch) : Nat := chBase n + 0xC40
def F.CDIAG_CNT_POSITIVE (n : Ch) : RF := ⟨R.CDIAG_CNT n, 31, 16⟩
def F.CDIAG_CNT_VOID (n : Ch) : RF := ⟨R.CDIAG_CNT n, 15, 8⟩
def F.CDIAG_CNT_TRANSIENT (n : Ch) : RF := ⟨R.CDIAG_CNT n, 7, 0⟩
/-- BAL.CTRL: balancing mode and bleed current (08_cell_integrity_and_balancing.md). -/
def R.BAL_CTRL (n : Ch) : Nat := chBase n + 0x1020
def F.BAL_CTRL_IBLEED (n : Ch) : RF := ⟨R.BAL_CTRL n, 15, 8⟩
def F.BAL_CTRL_MODE (n : Ch) : RF := ⟨R.BAL_CTRL n, 1, 0⟩
/-- BAL.AUTO: AUTO parameters (08_cell_integrity_and_balancing.md). -/
def R.BAL_AUTO (n : Ch) : Nat := chBase n + 0x1024
def F.BAL_AUTO_HORIZON (n : Ch) : RF := ⟨R.BAL_AUTO n, 31, 16⟩
def F.BAL_AUTO_DB (n : Ch) : RF := ⟨R.BAL_AUTO n, 15, 0⟩
/-- BAL.HCMD: host duty command (08_cell_integrity_and_balancing.md). -/
def R.BAL_HCMD (n : Ch) : Nat := chBase n + 0x1028
def F.BAL_HCMD_TILE (n : Ch) : RF := ⟨R.BAL_HCMD n, 31, 24⟩
def F.BAL_HCMD_DUTY (n : Ch) : RF := ⟨R.BAL_HCMD n, 23, 16⟩
def F.BAL_HCMD_MASK (n : Ch) : RF := ⟨R.BAL_HCMD n, 15, 0⟩
/-- BAL.HOST_TMO: host command lifetime (08_cell_integrity_and_balancing.md). -/
def R.BAL_HOST_TMO (n : Ch) : Nat := chBase n + 0x102C
def F.BAL_HOST_TMO_S (n : Ch) : RF := ⟨R.BAL_HOST_TMO n, 11, 0⟩
/-- BAL.STAT: balancing status (08_cell_integrity_and_balancing.md). -/
def R.BAL_STAT (n : Ch) : Nat := chBase n + 0x1030
def F.BAL_STAT_ACTIVE (n : Ch) : RF := ⟨R.BAL_STAT n, 31, 23⟩
def F.BAL_STAT_DIE_MAX (n : Ch) : RF := ⟨R.BAL_STAT n, 15, 8⟩
def F.BAL_STAT_NLIMIT (n : Ch) : RF := ⟨R.BAL_STAT n, 7, 0⟩
/-- BAL.LIMITED: tiles scaled by die temperature (08_cell_integrity_and_balancing.md). -/
def R.BAL_LIMITED (n : Ch) : Nat := chBase n + 0x1034
def F.BAL_LIMITED_TILES (n : Ch) : RF := ⟨R.BAL_LIMITED n, 25, 0⟩
/-- BAL.WFAIL: tiles with failed settings (08_cell_integrity_and_balancing.md). -/
def R.BAL_WFAIL (n : Ch) : Nat := chBase n + 0x1038
def F.BAL_WFAIL_TILES (n : Ch) : RF := ⟨R.BAL_WFAIL n, 25, 0⟩
/-- BAL.ACT: bleeding of tile k + 1 (08_cell_integrity_and_balancing.md). -/
def R.BAL_ACT (n : Ch) (k : Nat) : Nat := chBase n + 0x1040 + 4 * k
def F.BAL_ACT_DUTY_MAX (n : Ch) (k : Nat) : RF := ⟨R.BAL_ACT n k, 31, 24⟩
def F.BAL_ACT_LIMIT (n : Ch) (k : Nat) : RF := ⟨R.BAL_ACT n k, 23, 16⟩
def F.BAL_ACT_MASK (n : Ch) (k : Nat) : RF := ⟨R.BAL_ACT n k, 15, 0⟩
/-- CTLE.CTRL: rate, carrier, legs and dead time (09_string_current_control.md). -/
def R.CTLE_CTRL (n : Ch) : Nat := chBase n + 0x1420
def F.CTLE_CTRL_BUMPMODE (n : Ch) : RF := ⟨R.CTLE_CTRL n, 31, 31⟩
def F.CTLE_CTRL_DEADTIME (n : Ch) : RF := ⟨R.CTLE_CTRL n, 29, 16⟩
def F.CTLE_CTRL_LEGS (n : Ch) : RF := ⟨R.CTLE_CTRL n, 13, 12⟩
def F.CTLE_CTRL_RATE (n : Ch) : RF := ⟨R.CTLE_CTRL n, 9, 8⟩
def F.CTLE_CTRL_CARRIER_M (n : Ch) : RF := ⟨R.CTLE_CTRL n, 5, 0⟩
/-- CTLE.STAGE: stage data, protected (09_string_current_control.md). -/
def R.CTLE_STAGE (n : Ch) : Nat := chBase n + 0x1424
def F.CTLE_STAGE_L_UH (n : Ch) : RF := ⟨R.CTLE_STAGE n, 31, 16⟩
def F.CTLE_STAGE_IRATED (n : Ch) : RF := ⟨R.CTLE_STAGE n, 15, 0⟩
/-- CTLE.BANKSEL: bank swap (09_string_current_control.md). -/
def R.CTLE_BANKSEL (n : Ch) : Nat := chBase n + 0x1428
def F.CTLE_BANKSEL_ACTIVE (n : Ch) : RF := ⟨R.CTLE_BANKSEL n, 31, 31⟩
def F.CTLE_BANKSEL_PENDING (n : Ch) : RF := ⟨R.CTLE_BANKSEL n, 30, 30⟩
def F.CTLE_BANKSEL_AT_EPOCH (n : Ch) : RF := ⟨R.CTLE_BANKSEL n, 2, 2⟩
def F.CTLE_BANKSEL_CANCEL (n : Ch) : RF := ⟨R.CTLE_BANKSEL n, 1, 1⟩
def F.CTLE_BANKSEL_REQ (n : Ch) : RF := ⟨R.CTLE_BANKSEL n, 0, 0⟩
/-- CTLE.SWAP_EPOCH: scheduled swap epoch (09_string_current_control.md). -/
def R.CTLE_SWAP_EPOCH (n : Ch) : Nat := chBase n + 0x142C
def F.CTLE_SWAP_EPOCH_EPOCH_LO (n : Ch) : RF := ⟨R.CTLE_SWAP_EPOCH n, 31, 0⟩
/-- CTLE.STAT: engine status (09_string_current_control.md). -/
def R.CTLE_STAT (n : Ch) : Nat := chBase n + 0x1430
def F.CTLE_STAT_LAW (n : Ch) : RF := ⟨R.CTLE_STAT n, 31, 30⟩
def F.CTLE_STAT_INHIBIT (n : Ch) : RF := ⟨R.CTLE_STAT n, 29, 29⟩
def F.CTLE_STAT_SAT (n : Ch) : RF := ⟨R.CTLE_STAT n, 28, 28⟩
def F.CTLE_STAT_VLIM_ACT (n : Ch) : RF := ⟨R.CTLE_STAT n, 27, 27⟩
def F.CTLE_STAT_NOBUS (n : Ch) : RF := ⟨R.CTLE_STAT n, 26, 26⟩
def F.CTLE_STAT_STAGE_FAULT (n : Ch) : RF := ⟨R.CTLE_STAT n, 25, 25⟩
def F.CTLE_STAT_IMAIN_FAIL (n : Ch) : RF := ⟨R.CTLE_STAT n, 24, 24⟩
def F.CTLE_STAT_IAUX_FAIL (n : Ch) : RF := ⟨R.CTLE_STAT n, 23, 23⟩
def F.CTLE_STAT_FE_PRE (n : Ch) : RF := ⟨R.CTLE_STAT n, 22, 22⟩
def F.CTLE_STAT_PRE_DONE (n : Ch) : RF := ⟨R.CTLE_STAT n, 21, 21⟩
def F.CTLE_STAT_SWAP_REJECT (n : Ch) : RF := ⟨R.CTLE_STAT n, 20, 20⟩
def F.CTLE_STAT_REJ_OFF (n : Ch) : RF := ⟨R.CTLE_STAT n, 15, 8⟩
def F.CTLE_STAT_LIMITER (n : Ch) : RF := ⟨R.CTLE_STAT n, 3, 0⟩
/-- CTLE.IREF: reference after clamps (09_string_current_control.md). -/
def R.CTLE_IREF (n : Ch) : Nat := chBase n + 0x1434
def F.CTLE_IREF_IREF (n : Ch) : RF := ⟨R.CTLE_IREF n, 31, 0⟩
/-- CTLE.MODEL: filtered residuals (09_string_current_control.md). -/
def R.CTLE_MODEL (n : Ch) : Nat := chBase n + 0x1438
def F.CTLE_MODEL_RF_MAIN (n : Ch) : RF := ⟨R.CTLE_MODEL n, 31, 16⟩
def F.CTLE_MODEL_RF_AUX (n : Ch) : RF := ⟨R.CTLE_MODEL n, 15, 0⟩
/-- CTLE.CNT: engine counts since BOOT (09_string_current_control.md). -/
def R.CTLE_CNT (n : Ch) : Nat := chBase n + 0x143C
def F.CTLE_CNT_LATE (n : Ch) : RF := ⟨R.CTLE_CNT n, 31, 16⟩
def F.CTLE_CNT_SWAPS (n : Ch) : RF := ⟨R.CTLE_CNT n, 15, 8⟩
def F.CTLE_CNT_REJECTS (n : Ch) : RF := ⟨R.CTLE_CNT n, 7, 0⟩
/-- CTLE.ILOOP_KP: active bank KP (09_string_current_control.md). -/
def R.CTLE_ILOOP_KP (n : Ch) : Nat := chBase n + 0x1440
def F.CTLE_ILOOP_KP_KP (n : Ch) : RF := ⟨R.CTLE_ILOOP_KP n, 31, 0⟩
/-- CTLE.ILOOP_KI: active bank KI (09_string_current_control.md). -/
def R.CTLE_ILOOP_KI (n : Ch) : Nat := chBase n + 0x1444
def F.CTLE_ILOOP_KI_KI (n : Ch) : RF := ⟨R.CTLE_ILOOP_KI n, 31, 0⟩
/-- CTLE.INJ_CTRL: injector control (09_string_current_control.md). -/
def R.CTLE_INJ_CTRL (n : Ch) : Nat := chBase n + 0x1448
def F.CTLE_INJ_CTRL_START (n : Ch) : RF := ⟨R.CTLE_INJ_CTRL n, 31, 31⟩
def F.CTLE_INJ_CTRL_STOP (n : Ch) : RF := ⟨R.CTLE_INJ_CTRL n, 30, 30⟩
def F.CTLE_INJ_CTRL_ACTIVE (n : Ch) : RF := ⟨R.CTLE_INJ_CTRL n, 29, 29⟩
def F.CTLE_INJ_CTRL_ABORT (n : Ch) : RF := ⟨R.CTLE_INJ_CTRL n, 28, 28⟩
def F.CTLE_INJ_CTRL_POINT (n : Ch) : RF := ⟨R.CTLE_INJ_CTRL n, 25, 24⟩
def F.CTLE_INJ_CTRL_MODE (n : Ch) : RF := ⟨R.CTLE_INJ_CTRL n, 21, 20⟩
def F.CTLE_INJ_CTRL_DURATION (n : Ch) : RF := ⟨R.CTLE_INJ_CTRL n, 15, 0⟩
/-- CTLE.INJ_PARAM: injector amplitude and frequency (09_string_current_control.md). -/
def R.CTLE_INJ_PARAM (n : Ch) : Nat := chBase n + 0x144C
def F.CTLE_INJ_PARAM_AMP (n : Ch) : RF := ⟨R.CTLE_INJ_PARAM n, 31, 16⟩
def F.CTLE_INJ_PARAM_FREQ (n : Ch) : RF := ⟨R.CTLE_INJ_PARAM n, 15, 0⟩
/-- CTLE.CAP_CTRL: capture control (09_string_current_control.md). -/
def R.CTLE_CAP_CTRL (n : Ch) : Nat := chBase n + 0x1450
def F.CTLE_CAP_CTRL_ARM (n : Ch) : RF := ⟨R.CTLE_CAP_CTRL n, 31, 31⟩
def F.CTLE_CAP_CTRL_SIG_B (n : Ch) : RF := ⟨R.CTLE_CAP_CTRL n, 27, 24⟩
def F.CTLE_CAP_CTRL_SIG_A (n : Ch) : RF := ⟨R.CTLE_CAP_CTRL n, 19, 16⟩
def F.CTLE_CAP_CTRL_DECIM (n : Ch) : RF := ⟨R.CTLE_CAP_CTRL n, 15, 8⟩
def F.CTLE_CAP_CTRL_TRIG (n : Ch) : RF := ⟨R.CTLE_CAP_CTRL n, 1, 0⟩
/-- CTLE.CAP_STAT: capture status (09_string_current_control.md). -/
def R.CTLE_CAP_STAT (n : Ch) : Nat := chBase n + 0x1454
def F.CTLE_CAP_STAT_DONE (n : Ch) : RF := ⟨R.CTLE_CAP_STAT n, 31, 31⟩
def F.CTLE_CAP_STAT_ARMED (n : Ch) : RF := ⟨R.CTLE_CAP_STAT n, 30, 30⟩
def F.CTLE_CAP_STAT_COUNT (n : Ch) : RF := ⟨R.CTLE_CAP_STAT n, 28, 16⟩
def F.CTLE_CAP_STAT_RDIDX (n : Ch) : RF := ⟨R.CTLE_CAP_STAT n, 15, 0⟩
/-- CTLE.CAP_DATA: capture read port (09_string_current_control.md). -/
def R.CTLE_CAP_DATA (n : Ch) : Nat := chBase n + 0x1458
def F.CTLE_CAP_DATA_DATA (n : Ch) : RF := ⟨R.CTLE_CAP_DATA n, 31, 0⟩
/-- CBK0.KP: coefficient KP, range 0 to 100 (09_string_current_control.md). -/
def R.CBK0_KP (n : Ch) : Nat := chBase n + 0x1820
/-- CBK0.KI: coefficient KI, range 0 to 10^6 (09_string_current_control.md). -/
def R.CBK0_KI (n : Ch) : Nat := chBase n + 0x1824
/-- CBK0.KAW: coefficient KAW, range 0 to 10^6 (09_string_current_control.md). -/
def R.CBK0_KAW (n : Ch) : Nat := chBase n + 0x1828
/-- CBK0.XMIN: coefficient XMIN, range −500 to 0 (09_string_current_control.md). -/
def R.CBK0_XMIN (n : Ch) : Nat := chBase n + 0x182C
/-- CBK0.XMAX: coefficient XMAX, range 0 to 500 (09_string_current_control.md). -/
def R.CBK0_XMAX (n : Ch) : Nat := chBase n + 0x1830
/-- CBK0.DMIN: coefficient DMIN, range 0 to 0.5 (09_string_current_control.md). -/
def R.CBK0_DMIN (n : Ch) : Nat := chBase n + 0x1834
/-- CBK0.DMAX: coefficient DMAX, range 0.5 to 1.0 (09_string_current_control.md). -/
def R.CBK0_DMAX (n : Ch) : Nat := chBase n + 0x1838
/-- CBK0.KVP: coefficient KVP, range 0 to 100 (09_string_current_control.md). -/
def R.CBK0_KVP (n : Ch) : Nat := chBase n + 0x183C
/-- CBK0.KVI: coefficient KVI, range 0 to 10^5 (09_string_current_control.md). -/
def R.CBK0_KVI (n : Ch) : Nat := chBase n + 0x1840
/-- CBK0.VSTR_MAX: coefficient VSTR_MAX, range 0 to 1,600 (09_string_current_control.md). -/
def R.CBK0_VSTR_MAX (n : Ch) : Nat := chBase n + 0x1844
/-- CBK0.VSTR_MIN: coefficient VSTR_MIN, range 0 to 1,600 (09_string_current_control.md). -/
def R.CBK0_VSTR_MIN (n : Ch) : Nat := chBase n + 0x1848
/-- CBK0.VBUS_MAX: coefficient VBUS_MAX, range 0 to 1,600 (09_string_current_control.md). -/
def R.CBK0_VBUS_MAX (n : Ch) : Nat := chBase n + 0x184C
/-- CBK0.VBUS_MIN: coefficient VBUS_MIN, range 0 to 1,600 (09_string_current_control.md). -/
def R.CBK0_VBUS_MIN (n : Ch) : Nat := chBase n + 0x1850
/-- CBK0.PKP: coefficient PKP, range 0 to 100 (09_string_current_control.md). -/
def R.CBK0_PKP (n : Ch) : Nat := chBase n + 0x1854
/-- CBK0.PKI: coefficient PKI, range 0 to 10^4 (09_string_current_control.md). -/
def R.CBK0_PKI (n : Ch) : Nat := chBase n + 0x1858
/-- CBK0.PRE_IMAX: coefficient PRE_IMAX, range 0 to 50, and at most IRATED (09_string_current_control.md). -/
def R.CBK0_PRE_IMAX (n : Ch) : Nat := chBase n + 0x185C
/-- CBK0.PRE_RATE: coefficient PRE_RATE, range 0.01 to 100 (09_string_current_control.md). -/
def R.CBK0_PRE_RATE (n : Ch) : Nat := chBase n + 0x1860
/-- CBK0.PRE_WIN: coefficient PRE_WIN, range 0.1 to 100 (09_string_current_control.md). -/
def R.CBK0_PRE_WIN (n : Ch) : Nat := chBase n + 0x1864
/-- CBK0.PRE_FE_LIM: coefficient PRE_FE_LIM, range 1 to 500 (09_string_current_control.md). -/
def R.CBK0_PRE_FE_LIM (n : Ch) : Nat := chBase n + 0x1868
/-- CBK0.PRE_FE_TIME: coefficient PRE_FE_TIME, range 1 to 10,000 (09_string_current_control.md). -/
def R.CBK0_PRE_FE_TIME (n : Ch) : Nat := chBase n + 0x186C
/-- CBK0.MP_TAU: coefficient MP_TAU, range 10^-4 to 1 (09_string_current_control.md). -/
def R.CBK0_MP_TAU (n : Ch) : Nat := chBase n + 0x1870
/-- CBK0.MP_THRESH: coefficient MP_THRESH, range 0.1 to 1,000 (09_string_current_control.md). -/
def R.CBK0_MP_THRESH (n : Ch) : Nat := chBase n + 0x1874
/-- CBK0.MP_RL: coefficient MP_RL, range 0 to 10 (09_string_current_control.md). -/
def R.CBK0_MP_RL (n : Ch) : Nat := chBase n + 0x1878
/-- CBK0.VP_THRESH: coefficient VP_THRESH, range 1 to 200 (09_string_current_control.md). -/
def R.CBK0_VP_THRESH (n : Ch) : Nat := chBase n + 0x187C
/-- CBK0.R_CONN: coefficient R_CONN, range 0 to 1 (09_string_current_control.md). -/
def R.CBK0_R_CONN (n : Ch) : Nat := chBase n + 0x1880
/-- CBK0.POS_KP: coefficient POS_KP, range 0 to 100 (09_string_current_control.md). -/
def R.CBK0_POS_KP (n : Ch) : Nat := chBase n + 0x1884
/-- CBK0.POS_FE_LIM: coefficient POS_FE_LIM, range 16 to 65,536 (09_string_current_control.md). -/
def R.CBK0_POS_FE_LIM (n : Ch) : Nat := chBase n + 0x1888
/-- CBK0.POS_FE_TIME: coefficient POS_FE_TIME, range 1 to 10,000 (09_string_current_control.md). -/
def R.CBK0_POS_FE_TIME (n : Ch) : Nat := chBase n + 0x188C
/-- CBK1.KP: coefficient KP, range 0 to 100 (09_string_current_control.md). -/
def R.CBK1_KP (n : Ch) : Nat := chBase n + 0x1C20
/-- CBK1.KI: coefficient KI, range 0 to 10^6 (09_string_current_control.md). -/
def R.CBK1_KI (n : Ch) : Nat := chBase n + 0x1C24
/-- CBK1.KAW: coefficient KAW, range 0 to 10^6 (09_string_current_control.md). -/
def R.CBK1_KAW (n : Ch) : Nat := chBase n + 0x1C28
/-- CBK1.XMIN: coefficient XMIN, range −500 to 0 (09_string_current_control.md). -/
def R.CBK1_XMIN (n : Ch) : Nat := chBase n + 0x1C2C
/-- CBK1.XMAX: coefficient XMAX, range 0 to 500 (09_string_current_control.md). -/
def R.CBK1_XMAX (n : Ch) : Nat := chBase n + 0x1C30
/-- CBK1.DMIN: coefficient DMIN, range 0 to 0.5 (09_string_current_control.md). -/
def R.CBK1_DMIN (n : Ch) : Nat := chBase n + 0x1C34
/-- CBK1.DMAX: coefficient DMAX, range 0.5 to 1.0 (09_string_current_control.md). -/
def R.CBK1_DMAX (n : Ch) : Nat := chBase n + 0x1C38
/-- CBK1.KVP: coefficient KVP, range 0 to 100 (09_string_current_control.md). -/
def R.CBK1_KVP (n : Ch) : Nat := chBase n + 0x1C3C
/-- CBK1.KVI: coefficient KVI, range 0 to 10^5 (09_string_current_control.md). -/
def R.CBK1_KVI (n : Ch) : Nat := chBase n + 0x1C40
/-- CBK1.VSTR_MAX: coefficient VSTR_MAX, range 0 to 1,600 (09_string_current_control.md). -/
def R.CBK1_VSTR_MAX (n : Ch) : Nat := chBase n + 0x1C44
/-- CBK1.VSTR_MIN: coefficient VSTR_MIN, range 0 to 1,600 (09_string_current_control.md). -/
def R.CBK1_VSTR_MIN (n : Ch) : Nat := chBase n + 0x1C48
/-- CBK1.VBUS_MAX: coefficient VBUS_MAX, range 0 to 1,600 (09_string_current_control.md). -/
def R.CBK1_VBUS_MAX (n : Ch) : Nat := chBase n + 0x1C4C
/-- CBK1.VBUS_MIN: coefficient VBUS_MIN, range 0 to 1,600 (09_string_current_control.md). -/
def R.CBK1_VBUS_MIN (n : Ch) : Nat := chBase n + 0x1C50
/-- CBK1.PKP: coefficient PKP, range 0 to 100 (09_string_current_control.md). -/
def R.CBK1_PKP (n : Ch) : Nat := chBase n + 0x1C54
/-- CBK1.PKI: coefficient PKI, range 0 to 10^4 (09_string_current_control.md). -/
def R.CBK1_PKI (n : Ch) : Nat := chBase n + 0x1C58
/-- CBK1.PRE_IMAX: coefficient PRE_IMAX, range 0 to 50, and at most IRATED (09_string_current_control.md). -/
def R.CBK1_PRE_IMAX (n : Ch) : Nat := chBase n + 0x1C5C
/-- CBK1.PRE_RATE: coefficient PRE_RATE, range 0.01 to 100 (09_string_current_control.md). -/
def R.CBK1_PRE_RATE (n : Ch) : Nat := chBase n + 0x1C60
/-- CBK1.PRE_WIN: coefficient PRE_WIN, range 0.1 to 100 (09_string_current_control.md). -/
def R.CBK1_PRE_WIN (n : Ch) : Nat := chBase n + 0x1C64
/-- CBK1.PRE_FE_LIM: coefficient PRE_FE_LIM, range 1 to 500 (09_string_current_control.md). -/
def R.CBK1_PRE_FE_LIM (n : Ch) : Nat := chBase n + 0x1C68
/-- CBK1.PRE_FE_TIME: coefficient PRE_FE_TIME, range 1 to 10,000 (09_string_current_control.md). -/
def R.CBK1_PRE_FE_TIME (n : Ch) : Nat := chBase n + 0x1C6C
/-- CBK1.MP_TAU: coefficient MP_TAU, range 10^-4 to 1 (09_string_current_control.md). -/
def R.CBK1_MP_TAU (n : Ch) : Nat := chBase n + 0x1C70
/-- CBK1.MP_THRESH: coefficient MP_THRESH, range 0.1 to 1,000 (09_string_current_control.md). -/
def R.CBK1_MP_THRESH (n : Ch) : Nat := chBase n + 0x1C74
/-- CBK1.MP_RL: coefficient MP_RL, range 0 to 10 (09_string_current_control.md). -/
def R.CBK1_MP_RL (n : Ch) : Nat := chBase n + 0x1C78
/-- CBK1.VP_THRESH: coefficient VP_THRESH, range 1 to 200 (09_string_current_control.md). -/
def R.CBK1_VP_THRESH (n : Ch) : Nat := chBase n + 0x1C7C
/-- CBK1.R_CONN: coefficient R_CONN, range 0 to 1 (09_string_current_control.md). -/
def R.CBK1_R_CONN (n : Ch) : Nat := chBase n + 0x1C80
/-- CBK1.POS_KP: coefficient POS_KP, range 0 to 100 (09_string_current_control.md). -/
def R.CBK1_POS_KP (n : Ch) : Nat := chBase n + 0x1C84
/-- CBK1.POS_FE_LIM: coefficient POS_FE_LIM, range 16 to 65,536 (09_string_current_control.md). -/
def R.CBK1_POS_FE_LIM (n : Ch) : Nat := chBase n + 0x1C88
/-- CBK1.POS_FE_TIME: coefficient POS_FE_TIME, range 1 to 10,000 (09_string_current_control.md). -/
def R.CBK1_POS_FE_TIME (n : Ch) : Nat := chBase n + 0x1C8C
/-- PROF.CUR_TARGET: current target (10_profiles_and_valve_axes.md). -/
def R.PROF_CUR_TARGET (n : Ch) : Nat := chBase n + 0x2020
def F.PROF_CUR_TARGET_TARGET (n : Ch) : RF := ⟨R.PROF_CUR_TARGET n, 31, 0⟩
/-- PROF.CUR_LIM: current limits for normal plans (10_profiles_and_valve_axes.md). -/
def R.PROF_CUR_LIM (n : Ch) : Nat := chBase n + 0x2024
def F.PROF_CUR_LIM_VMAX (n : Ch) : RF := ⟨R.PROF_CUR_LIM n, 31, 20⟩
def F.PROF_CUR_LIM_AMAX (n : Ch) : RF := ⟨R.PROF_CUR_LIM n, 19, 10⟩
def F.PROF_CUR_LIM_JMAX (n : Ch) : RF := ⟨R.PROF_CUR_LIM n, 9, 0⟩
/-- PROF.CUR_STOP: current limits for stops and derating (10_profiles_and_valve_axes.md). -/
def R.PROF_CUR_STOP (n : Ch) : Nat := chBase n + 0x2028
def F.PROF_CUR_STOP_VMAX (n : Ch) : RF := ⟨R.PROF_CUR_STOP n, 31, 20⟩
def F.PROF_CUR_STOP_AMAX (n : Ch) : RF := ⟨R.PROF_CUR_STOP n, 19, 10⟩
def F.PROF_CUR_STOP_JMAX (n : Ch) : RF := ⟨R.PROF_CUR_STOP n, 9, 0⟩
/-- PROF.VLV_TARGET: valve target (10_profiles_and_valve_axes.md). -/
def R.PROF_VLV_TARGET (n : Ch) : Nat := chBase n + 0x202C
def F.PROF_VLV_TARGET_TARGET (n : Ch) : RF := ⟨R.PROF_VLV_TARGET n, 31, 0⟩
/-- PROF.VLV_LIM: valve limits (10_profiles_and_valve_axes.md). -/
def R.PROF_VLV_LIM (n : Ch) : Nat := chBase n + 0x2030
def F.PROF_VLV_LIM_VMAX (n : Ch) : RF := ⟨R.PROF_VLV_LIM n, 31, 20⟩
def F.PROF_VLV_LIM_AMAX (n : Ch) : RF := ⟨R.PROF_VLV_LIM n, 19, 10⟩
def F.PROF_VLV_LIM_JMAX (n : Ch) : RF := ⟨R.PROF_VLV_LIM n, 9, 0⟩
/-- PROF.CTRL: valve stop (10_profiles_and_valve_axes.md). -/
def R.PROF_CTRL (n : Ch) : Nat := chBase n + 0x2034
def F.PROF_CTRL_STOP (n : Ch) : RF := ⟨R.PROF_CTRL n, 0, 0⟩
/-- PROF.STAT: generator status (10_profiles_and_valve_axes.md). -/
def R.PROF_STAT (n : Ch) : Nat := chBase n + 0x2038
def F.PROF_STAT_CUR_BUSY (n : Ch) : RF := ⟨R.PROF_STAT n, 31, 31⟩
def F.PROF_STAT_VLV_BUSY (n : Ch) : RF := ⟨R.PROF_STAT n, 30, 30⟩
def F.PROF_STAT_LIMIT_DEFERRED (n : Ch) : RF := ⟨R.PROF_STAT n, 29, 29⟩
def F.PROF_STAT_VLV_DEFERRED (n : Ch) : RF := ⟨R.PROF_STAT n, 28, 28⟩
def F.PROF_STAT_OVERSHOOT (n : Ch) : RF := ⟨R.PROF_STAT n, 27, 27⟩
def F.PROF_STAT_CLIPPED (n : Ch) : RF := ⟨R.PROF_STAT n, 26, 26⟩
def F.PROF_STAT_CUR_SRC (n : Ch) : RF := ⟨R.PROF_STAT n, 25, 24⟩
/-- PROF.CUR_OUT: generator output (10_profiles_and_valve_axes.md). -/
def R.PROF_CUR_OUT (n : Ch) : Nat := chBase n + 0x203C
def F.PROF_CUR_OUT_P (n : Ch) : RF := ⟨R.PROF_CUR_OUT n, 31, 0⟩
/-- VAX.CTRL: commands, homing and polarity (10_profiles_and_valve_axes.md). -/
def R.VAX_CTRL (n : Ch) : Nat := chBase n + 0x2420
def F.VAX_CTRL_HOME (n : Ch) : RF := ⟨R.VAX_CTRL n, 31, 31⟩
def F.VAX_CTRL_CLRFAULT (n : Ch) : RF := ⟨R.VAX_CTRL n, 29, 29⟩
def F.VAX_CTRL_HSEQ (n : Ch) : RF := ⟨R.VAX_CTRL n, 9, 8⟩
def F.VAX_CTRL_AUTOHOME (n : Ch) : RF := ⟨R.VAX_CTRL n, 2, 2⟩
def F.VAX_CTRL_POL_HI (n : Ch) : RF := ⟨R.VAX_CTRL n, 1, 1⟩
def F.VAX_CTRL_POL_LO (n : Ch) : RF := ⟨R.VAX_CTRL n, 0, 0⟩
/-- VAX.DRIVE: currents and chopper (10_profiles_and_valve_axes.md). -/
def R.VAX_DRIVE (n : Ch) : Nat := chBase n + 0x2424
def F.VAX_DRIVE_IRUN (n : Ch) : RF := ⟨R.VAX_DRIVE n, 31, 24⟩
def F.VAX_DRIVE_IHOLD (n : Ch) : RF := ⟨R.VAX_DRIVE n, 23, 16⟩
def F.VAX_DRIVE_TOFF (n : Ch) : RF := ⟨R.VAX_DRIVE n, 15, 8⟩
def F.VAX_DRIVE_FDEC (n : Ch) : RF := ⟨R.VAX_DRIVE n, 3, 0⟩
/-- VAX.ENC: encoder scale and stall window (10_profiles_and_valve_axes.md). -/
def R.VAX_ENC (n : Ch) : Nat := chBase n + 0x2428
def F.VAX_ENC_RATIO (n : Ch) : RF := ⟨R.VAX_ENC n, 31, 16⟩
def F.VAX_ENC_STALL_WIN (n : Ch) : RF := ⟨R.VAX_ENC n, 15, 0⟩
/-- VAX.HOME: homing speeds and timeout (10_profiles_and_valve_axes.md). -/
def R.VAX_HOME (n : Ch) : Nat := chBase n + 0x242C
def F.VAX_HOME_VFAST (n : Ch) : RF := ⟨R.VAX_HOME n, 31, 20⟩
def F.VAX_HOME_VSLOW (n : Ch) : RF := ⟨R.VAX_HOME n, 19, 8⟩
def F.VAX_HOME_TMO (n : Ch) : RF := ⟨R.VAX_HOME n, 7, 0⟩
/-- VAX.HOME_POS: position assigned at the reference (10_profiles_and_valve_axes.md). -/
def R.VAX_HOME_POS (n : Ch) : Nat := chBase n + 0x2430
def F.VAX_HOME_POS_POS (n : Ch) : RF := ⟨R.VAX_HOME_POS n, 31, 0⟩
/-- VAX.RANGE: valve travel range (10_profiles_and_valve_axes.md). -/
def R.VAX_RANGE (n : Ch) : Nat := chBase n + 0x2434
def F.VAX_RANGE_PMAX (n : Ch) : RF := ⟨R.VAX_RANGE n, 31, 16⟩
def F.VAX_RANGE_PMIN (n : Ch) : RF := ⟨R.VAX_RANGE n, 15, 0⟩
/-- VAX.STAT: axis status (10_profiles_and_valve_axes.md). -/
def R.VAX_STAT (n : Ch) : Nat := chBase n + 0x2438
def F.VAX_STAT_HOMED (n : Ch) : RF := ⟨R.VAX_STAT n, 31, 31⟩
def F.VAX_STAT_HOMING (n : Ch) : RF := ⟨R.VAX_STAT n, 30, 30⟩
def F.VAX_STAT_MOVING (n : Ch) : RF := ⟨R.VAX_STAT n, 29, 29⟩
def F.VAX_STAT_LIM_LO (n : Ch) : RF := ⟨R.VAX_STAT n, 28, 28⟩
def F.VAX_STAT_LIM_HI (n : Ch) : RF := ⟨R.VAX_STAT n, 27, 27⟩
def F.VAX_STAT_STANDSTILL (n : Ch) : RF := ⟨R.VAX_STAT n, 26, 26⟩
def F.VAX_STAT_ENERGISED (n : Ch) : RF := ⟨R.VAX_STAT n, 25, 25⟩
def F.VAX_STAT_FAULT (n : Ch) : RF := ⟨R.VAX_STAT n, 23, 20⟩
def F.VAX_STAT_DEV (n : Ch) : RF := ⟨R.VAX_STAT n, 15, 0⟩
/-- VAX.POS: encoder position (10_profiles_and_valve_axes.md). -/
def R.VAX_POS (n : Ch) : Nat := chBase n + 0x243C
def F.VAX_POS_POS (n : Ch) : RF := ⟨R.VAX_POS n, 31, 0⟩
/-- IMP.CTRL: mode, tones in use and result format, kept in parameter MRAM (11_impedance_spectroscopy.md). -/
def R.IMP_CTRL (n : Ch) : Nat := chBase n + 0x2820
def F.IMP_CTRL_RTONE (n : Ch) : RF := ⟨R.IMP_CTRL n, 31, 28⟩
def F.IMP_CTRL_TTONE (n : Ch) : RF := ⟨R.IMP_CTRL n, 27, 24⟩
def F.IMP_CTRL_NTONES (n : Ch) : RF := ⟨R.IMP_CTRL n, 20, 16⟩
def F.IMP_CTRL_HALF (n : Ch) : RF := ⟨R.IMP_CTRL n, 8, 8⟩
def F.IMP_CTRL_ZRES (n : Ch) : RF := ⟨R.IMP_CTRL n, 5, 4⟩
def F.IMP_CTRL_MODE (n : Ch) : RF := ⟨R.IMP_CTRL n, 1, 0⟩
/-- IMP.SCHED: period, tone quality and lead-in (11_impedance_spectroscopy.md). -/
def R.IMP_SCHED (n : Ch) : Nat := chBase n + 0x2824
def F.IMP_SCHED_PERIOD (n : Ch) : RF := ⟨R.IMP_SCHED n, 31, 16⟩
def F.IMP_SCHED_SNR_MIN (n : Ch) : RF := ⟨R.IMP_SCHED n, 15, 8⟩
def F.IMP_SCHED_LEADIN (n : Ch) : RF := ⟨R.IMP_SCHED n, 4, 0⟩
/-- IMP.AMP: injection cap (11_impedance_spectroscopy.md). -/
def R.IMP_AMP (n : Ch) : Nat := chBase n + 0x2828
def F.IMP_AMP_LIMIT (n : Ch) : RF := ⟨R.IMP_AMP n, 31, 16⟩
def F.IMP_AMP_ICAP (n : Ch) : RF := ⟨R.IMP_AMP n, 15, 0⟩
/-- IMP.TONE: tone k, kept in parameter MRAM (11_impedance_spectroscopy.md). -/
def R.IMP_TONE (n : Ch) (k : Nat) : Nat := chBase n + 0x2830 + 4 * k
def F.IMP_TONE_WEIGHT (n : Ch) (k : Nat) : RF := ⟨R.IMP_TONE n k, 19, 16⟩
def F.IMP_TONE_BIN (n : Ch) (k : Nat) : RF := ⟨R.IMP_TONE n k, 12, 0⟩
/-- IMP.CMD: start and abort (11_impedance_spectroscopy.md). -/
def R.IMP_CMD (n : Ch) : Nat := chBase n + 0x2870
def F.IMP_CMD_ABORT (n : Ch) : RF := ⟨R.IMP_CMD n, 1, 1⟩
def F.IMP_CMD_START (n : Ch) : RF := ⟨R.IMP_CMD n, 0, 0⟩
/-- IMP.STAT: block status (11_impedance_spectroscopy.md). -/
def R.IMP_STAT (n : Ch) : Nat := chBase n + 0x2874
def F.IMP_STAT_PHASE (n : Ch) : RF := ⟨R.IMP_STAT n, 31, 30⟩
def F.IMP_STAT_INJ (n : Ch) : RF := ⟨R.IMP_STAT n, 29, 29⟩
def F.IMP_STAT_CFG_ERR (n : Ch) : RF := ⟨R.IMP_STAT n, 28, 28⟩
def F.IMP_STAT_NO_TTONE (n : Ch) : RF := ⟨R.IMP_STAT n, 27, 27⟩
def F.IMP_STAT_THROTTLED (n : Ch) : RF := ⟨R.IMP_STAT n, 26, 26⟩
def F.IMP_STAT_SKIPPED (n : Ch) : RF := ⟨R.IMP_STAT n, 23, 16⟩
def F.IMP_STAT_BLOCKS (n : Ch) : RF := ⟨R.IMP_STAT n, 15, 0⟩
/-- EST.CTRL: learning and reinitialisation (12_state_estimation.md). -/
def R.EST_CTRL (n : Ch) : Nat := chBase n + 0x2C20
def F.EST_CTRL_REINIT (n : Ch) : RF := ⟨R.EST_CTRL n, 31, 31⟩
def F.EST_CTRL_LEARN_CLEAR (n : Ch) : RF := ⟨R.EST_CTRL n, 30, 30⟩
def F.EST_CTRL_LEARN_EN (n : Ch) : RF := ⟨R.EST_CTRL n, 0, 0⟩
/-- EST.STAT: estimator status (12_state_estimation.md). -/
def R.EST_STAT (n : Ch) : Nat := chBase n + 0x2C24
def F.EST_STAT_GRADE_MIN (n : Ch) : RF := ⟨R.EST_STAT n, 31, 30⟩
def F.EST_STAT_EXTRAP (n : Ch) : RF := ⟨R.EST_STAT n, 29, 29⟩
def F.EST_STAT_REST_NEEDED (n : Ch) : RF := ⟨R.EST_STAT n, 28, 28⟩
def F.EST_STAT_NVLOST (n : Ch) : RF := ⟨R.EST_STAT n, 27, 27⟩
def F.EST_STAT_CHEM_VALID (n : Ch) : RF := ⟨R.EST_STAT n, 26, 26⟩
def F.EST_STAT_THROTTLED (n : Ch) : RF := ⟨R.EST_STAT n, 25, 25⟩
def F.EST_STAT_REST_AGE (n : Ch) : RF := ⟨R.EST_STAT n, 15, 0⟩
/-- EST.CHEM_ADDR: staging word address (12_state_estimation.md). -/
def R.EST_CHEM_ADDR (n : Ch) : Nat := chBase n + 0x2C28
def F.EST_CHEM_ADDR_WORD (n : Ch) : RF := ⟨R.EST_CHEM_ADDR n, 9, 0⟩
/-- EST.CHEM_DATA: staging data port (12_state_estimation.md). -/
def R.EST_CHEM_DATA (n : Ch) : Nat := chBase n + 0x2C2C
def F.EST_CHEM_DATA_DATA (n : Ch) : RF := ⟨R.EST_CHEM_DATA n, 31, 0⟩
/-- EST.CHEM_CMD: commit, protected (12_state_estimation.md). -/
def R.EST_CHEM_CMD (n : Ch) : Nat := chBase n + 0x2C30
def F.EST_CHEM_CMD_ERR_WORD (n : Ch) : RF := ⟨R.EST_CHEM_CMD n, 31, 16⟩
def F.EST_CHEM_CMD_COMMIT (n : Ch) : RF := ⟨R.EST_CHEM_CMD n, 0, 0⟩
/-- EST.CHEM_ID: committed set identifier (12_state_estimation.md). -/
def R.EST_CHEM_ID (n : Ch) : Nat := chBase n + 0x2C34
def F.EST_CHEM_ID_ID (n : Ch) : RF := ⟨R.EST_CHEM_ID n, 31, 0⟩
/-- EST.NOISE: filter noise, kept in parameter MRAM (12_state_estimation.md). -/
def R.EST_NOISE (n : Ch) : Nat := chBase n + 0x2C38
def F.EST_NOISE_SIGV (n : Ch) : RF := ⟨R.EST_NOISE n, 31, 24⟩
def F.EST_NOISE_QSOC (n : Ch) : RF := ⟨R.EST_NOISE n, 23, 12⟩
def F.EST_NOISE_QV (n : Ch) : RF := ⟨R.EST_NOISE n, 11, 0⟩
/-- EST.ENV: envelope margins, kept in parameter MRAM (12_state_estimation.md). -/
def R.EST_ENV (n : Ch) : Nat := chBase n + 0x2C3C
def F.EST_ENV_QINFL (n : Ch) : RF := ⟨R.EST_ENV n, 31, 24⟩
def F.EST_ENV_IMARG (n : Ch) : RF := ⟨R.EST_ENV n, 23, 16⟩
def F.EST_ENV_TMARG (n : Ch) : RF := ⟨R.EST_ENV n, 15, 8⟩
/-- EST.LEARN: capacity learning (12_state_estimation.md). -/
def R.EST_LEARN (n : Ch) : Nat := chBase n + 0x2C40
def F.EST_LEARN_OPEN (n : Ch) : RF := ⟨R.EST_LEARN n, 31, 28⟩
def F.EST_LEARN_LAST_DQ (n : Ch) : RF := ⟨R.EST_LEARN n, 27, 24⟩
def F.EST_LEARN_GAIN (n : Ch) : RF := ⟨R.EST_LEARN n, 23, 16⟩
def F.EST_LEARN_ACCEPTED (n : Ch) : RF := ⟨R.EST_LEARN n, 15, 8⟩
def F.EST_LEARN_DISQ (n : Ch) : RF := ⟨R.EST_LEARN n, 7, 0⟩
/-- EST.ICAL: current-sensor calibration (12_state_estimation.md). -/
def R.EST_ICAL (n : Ch) : Nat := chBase n + 0x2C44
def F.EST_ICAL_OFFSET (n : Ch) : RF := ⟨R.EST_ICAL n, 31, 31⟩
def F.EST_ICAL_GAIN (n : Ch) : RF := ⟨R.EST_ICAL n, 30, 30⟩
def F.EST_ICAL_RES (n : Ch) : RF := ⟨R.EST_ICAL n, 29, 28⟩
def F.EST_ICAL_SEL (n : Ch) : RF := ⟨R.EST_ICAL n, 25, 24⟩
/-- EST.ICAL_REF: reference current (12_state_estimation.md). -/
def R.EST_ICAL_REF (n : Ch) : Nat := chBase n + 0x2C48
def F.EST_ICAL_REF_REF (n : Ch) : RF := ⟨R.EST_ICAL_REF n, 31, 0⟩
/-- EST.CNT: estimator counts since BOOT (12_state_estimation.md). -/
def R.EST_CNT (n : Ch) : Nat := chBase n + 0x2C4C
def F.EST_CNT_LATE (n : Ch) : RF := ⟨R.EST_CNT n, 31, 16⟩
def F.EST_CNT_REJECT (n : Ch) : RF := ⟨R.EST_CNT n, 15, 0⟩
/-- SAFE.CELL: cell thresholds, protected, kept in parameter MRAM (14_protection_and_safety.md). -/
def R.SAFE_CELL (n : Ch) : Nat := chBase n + 0x3020
def F.SAFE_CELL_OV (n : Ch) : RF := ⟨R.SAFE_CELL n, 31, 16⟩
def F.SAFE_CELL_UV (n : Ch) : RF := ⟨R.SAFE_CELL n, 15, 0⟩
/-- SAFE.LIMIT: current and temperature limits, protected, kept in parameter MRAM (14_protection_and_safety.md). -/
def R.SAFE_LIMIT (n : Ch) : Nat := chBase n + 0x3024
def F.SAFE_LIMIT_IOC (n : Ch) : RF := ⟨R.SAFE_LIMIT n, 31, 16⟩
def F.SAFE_LIMIT_OT (n : Ch) : RF := ⟨R.SAFE_LIMIT n, 15, 8⟩
/-- SAFE.SICFG: safety input configuration, protected, kept in parameter MRAM (14_protection_and_safety.md). -/
def R.SAFE_SICFG (n : Ch) : Nat := chBase n + 0x3028
def F.SAFE_SICFG_TPEN (n : Ch) : RF := ⟨R.SAFE_SICFG n, 7, 4⟩
def F.SAFE_SICFG_EN (n : Ch) : RF := ⟨R.SAFE_SICFG n, 3, 0⟩
/-- SAFE.SISTAT: safety input status (14_protection_and_safety.md). -/
def R.SAFE_SISTAT (n : Ch) : Nat := chBase n + 0x302C
def F.SAFE_SISTAT_FAULT_B (n : Ch) : RF := ⟨R.SAFE_SISTAT n, 19, 16⟩
def F.SAFE_SISTAT_FAULT_A (n : Ch) : RF := ⟨R.SAFE_SISTAT n, 15, 12⟩
def F.SAFE_SISTAT_DEMAND (n : Ch) : RF := ⟨R.SAFE_SISTAT n, 11, 8⟩
def F.SAFE_SISTAT_B (n : Ch) : RF := ⟨R.SAFE_SISTAT n, 7, 4⟩
def F.SAFE_SISTAT_A (n : Ch) : RF := ⟨R.SAFE_SISTAT n, 3, 0⟩
/-- SAFE.DEG: degradation time limit (14_protection_and_safety.md). -/
def R.SAFE_DEG (n : Ch) : Nat := chBase n + 0x3030
def F.SAFE_DEG_TMAX (n : Ch) : RF := ⟨R.SAFE_DEG n, 31, 16⟩
def F.SAFE_DEG_ELAPSED (n : Ch) : RF := ⟨R.SAFE_DEG n, 15, 0⟩
/-- SAFE.DEG_STAT: degradation status (14_protection_and_safety.md). -/
def R.SAFE_DEG_STAT (n : Ch) : Nat := chBase n + 0x3034
def F.SAFE_DEG_STAT_EXPIRED (n : Ch) : RF := ⟨R.SAFE_DEG_STAT n, 31, 31⟩
def F.SAFE_DEG_STAT_CAUSES (n : Ch) : RF := ⟨R.SAFE_DEG_STAT n, 3, 0⟩
/-- SAFE.TRIPREC: last trip (14_protection_and_safety.md). -/
def R.SAFE_TRIPREC (n : Ch) : Nat := chBase n + 0x3038
def F.SAFE_TRIPREC_CAUSE (n : Ch) : RF := ⟨R.SAFE_TRIPREC n, 31, 24⟩
def F.SAFE_TRIPREC_PATH (n : Ch) : RF := ⟨R.SAFE_TRIPREC n, 23, 16⟩
def F.SAFE_TRIPREC_PARAM (n : Ch) : RF := ⟨R.SAFE_TRIPREC n, 15, 0⟩
/-- SAFE.TRIPEPOCH: epoch of the last trip (14_protection_and_safety.md). -/
def R.SAFE_TRIPEPOCH (n : Ch) : Nat := chBase n + 0x303C
def F.SAFE_TRIPEPOCH_EPOCH_LO (n : Ch) : RF := ⟨R.SAFE_TRIPEPOCH n, 31, 0⟩
/-- SAFE.CMD: reset and acknowledge (14_protection_and_safety.md). -/
def R.SAFE_CMD (n : Ch) : Nat := chBase n + 0x3040
def F.SAFE_CMD_DEG_ACK (n : Ch) : RF := ⟨R.SAFE_CMD n, 1, 1⟩
def F.SAFE_CMD_RESET (n : Ch) : RF := ⟨R.SAFE_CMD n, 0, 0⟩
/-- CONT.CMD: connect and disconnect (14_protection_and_safety.md). -/
def R.CONT_CMD (n : Ch) : Nat := chBase n + 0x3420
def F.CONT_CMD_DISCONNECT (n : Ch) : RF := ⟨R.CONT_CMD n, 1, 1⟩
def F.CONT_CMD_CONNECT (n : Ch) : RF := ⟨R.CONT_CMD n, 0, 0⟩
/-- CONT.CFG: sequence timeouts, kept in parameter MRAM (14_protection_and_safety.md). -/
def R.CONT_CFG (n : Ch) : Nat := chBase n + 0x3424
def F.CONT_CFG_PRE_TMO (n : Ch) : RF := ⟨R.CONT_CFG n, 31, 24⟩
def F.CONT_CFG_CLOSE_TMO (n : Ch) : RF := ⟨R.CONT_CFG n, 15, 0⟩
/-- CONT.STAT: contactor circuit status (14_protection_and_safety.md). -/
def R.CONT_STAT (n : Ch) : Nat := chBase n + 0x3428
def F.CONT_STAT_STEP (n : Ch) : RF := ⟨R.CONT_STAT n, 31, 28⟩
def F.CONT_STAT_TRIP_ON (n : Ch) : RF := ⟨R.CONT_STAT n, 27, 27⟩
def F.CONT_STAT_BRIDGE_ON (n : Ch) : RF := ⟨R.CONT_STAT n, 26, 26⟩
def F.CONT_STAT_INHIBIT (n : Ch) : RF := ⟨R.CONT_STAT n, 25, 25⟩
def F.CONT_STAT_FB_POS (n : Ch) : RF := ⟨R.CONT_STAT n, 5, 5⟩
def F.CONT_STAT_FB_NEG (n : Ch) : RF := ⟨R.CONT_STAT n, 4, 4⟩
def F.CONT_STAT_FB_PRE (n : Ch) : RF := ⟨R.CONT_STAT n, 3, 3⟩
def F.CONT_STAT_HOLD_POS (n : Ch) : RF := ⟨R.CONT_STAT n, 2, 2⟩
def F.CONT_STAT_HOLD_NEG (n : Ch) : RF := ⟨R.CONT_STAT n, 1, 1⟩
def F.CONT_STAT_HOLD_PRE (n : Ch) : RF := ⟨R.CONT_STAT n, 0, 0⟩
/-- PERC.CTRL: mode request and start-up, AUTOSTART kept in parameter MRAM (16_percolator.md). -/
def R.PERC_CTRL (n : Ch) : Nat := chBase n + 0x3820
def F.PERC_CTRL_AUTOSTART (n : Ch) : RF := ⟨R.PERC_CTRL n, 8, 8⟩
def F.PERC_CTRL_MODE (n : Ch) : RF := ⟨R.PERC_CTRL n, 1, 0⟩
/-- PERC.STAT: engine status (16_percolator.md). -/
def R.PERC_STAT (n : Ch) : Nat := chBase n + 0x3824
def F.PERC_STAT_MODE (n : Ch) : RF := ⟨R.PERC_STAT n, 31, 30⟩
def F.PERC_STAT_CAUSE (n : Ch) : RF := ⟨R.PERC_STAT n, 29, 27⟩
def F.PERC_STAT_TASK (n : Ch) : RF := ⟨R.PERC_STAT n, 26, 24⟩
def F.PERC_STAT_XCHG (n : Ch) : RF := ⟨R.PERC_STAT n, 23, 21⟩
def F.PERC_STAT_XERR (n : Ch) : RF := ⟨R.PERC_STAT n, 20, 16⟩
def F.PERC_STAT_RETLOST (n : Ch) : RF := ⟨R.PERC_STAT n, 15, 15⟩
def F.PERC_STAT_PROG_VALID (n : Ch) : RF := ⟨R.PERC_STAT n, 14, 14⟩
/-- PERC.PROG_ID: running program (16_percolator.md). -/
def R.PERC_PROG_ID (n : Ch) : Nat := chBase n + 0x3828
def F.PERC_PROG_ID_ID (n : Ch) : RF := ⟨R.PERC_PROG_ID n, 31, 0⟩
/-- PERC.PROG_ADDR: staging word address (16_percolator.md). -/
def R.PERC_PROG_ADDR (n : Ch) : Nat := chBase n + 0x382C
def F.PERC_PROG_ADDR_WORD (n : Ch) : RF := ⟨R.PERC_PROG_ADDR n, 15, 0⟩
/-- PERC.PROG_DATA: staging data port (16_percolator.md). -/
def R.PERC_PROG_DATA (n : Ch) : Nat := chBase n + 0x3830
def F.PERC_PROG_DATA_DATA (n : Ch) : RF := ⟨R.PERC_PROG_DATA n, 31, 0⟩
/-- PERC.CMD: program commands, service privilege (16_percolator.md). -/
def R.PERC_CMD (n : Ch) : Nat := chBase n + 0x3834
def F.PERC_CMD_RET_INIT (n : Ch) : RF := ⟨R.PERC_CMD n, 2, 2⟩
def F.PERC_CMD_EXCHANGE (n : Ch) : RF := ⟨R.PERC_CMD n, 1, 1⟩
def F.PERC_CMD_LOAD (n : Ch) : RF := ⟨R.PERC_CMD n, 0, 0⟩
/-- PERC.TASK: task k (16_percolator.md). -/
def R.PERC_TASK (n : Ch) (k : Nat) : Nat := chBase n + 0x3840 + 4 * k
def F.PERC_TASK_CLASS (n : Ch) (k : Nat) : RF := ⟨R.PERC_TASK n k, 31, 30⟩
def F.PERC_TASK_PERIOD (n : Ch) (k : Nat) : RF := ⟨R.PERC_TASK n k, 29, 20⟩
def F.PERC_TASK_PHASE (n : Ch) (k : Nat) : RF := ⟨R.PERC_TASK n k, 19, 10⟩
def F.PERC_TASK_PRIO (n : Ch) (k : Nat) : RF := ⟨R.PERC_TASK n k, 9, 7⟩
/-- PERC.TSTAT: execution times of task k (16_percolator.md). -/
def R.PERC_TSTAT (n : Ch) (k : Nat) : Nat := chBase n + 0x3860 + 4 * k
def F.PERC_TSTAT_MAX_US (n : Ch) (k : Nat) : RF := ⟨R.PERC_TSTAT n k, 31, 16⟩
def F.PERC_TSTAT_LAST_US (n : Ch) (k : Nat) : RF := ⟨R.PERC_TSTAT n k, 15, 0⟩
/-- PERC.OUTFAIL: tiles with failed output writes (16_percolator.md). -/
def R.PERC_OUTFAIL (n : Ch) : Nat := chBase n + 0x3880
def F.PERC_OUTFAIL_TILES (n : Ch) : RF := ⟨R.PERC_OUTFAIL n, 25, 0⟩
/-- PERC.SAFE: safe output values (16_percolator.md). -/
def R.PERC_SAFE (n : Ch) (k : Nat) : Nat := chBase n + 0x3890 + 4 * k
def F.PERC_SAFE_VAL (n : Ch) (k : Nat) : RF := ⟨R.PERC_SAFE n k, 31, 0⟩
/-- PERC.CNT: counts since BOOT (16_percolator.md). -/
def R.PERC_CNT (n : Ch) : Nat := chBase n + 0x38B0
def F.PERC_CNT_OVERRUNS (n : Ch) : RF := ⟨R.PERC_CNT n, 31, 16⟩
def F.PERC_CNT_EXCHANGES (n : Ch) : RF := ⟨R.PERC_CNT n, 15, 0⟩
/-- FIFO.CTRL: overflow policy, mark mode and content (07_epoch_fifos.md). -/
def R.FIFO_CTRL (n : Ch) : Nat := chBase n + 0x3C20
def F.FIFO_CTRL_TEMP (n : Ch) : RF := ⟨R.FIFO_CTRL n, 2, 2⟩
def F.FIFO_CTRL_SOFT_MARK (n : Ch) : RF := ⟨R.FIFO_CTRL n, 1, 1⟩
def F.FIFO_CTRL_OVF (n : Ch) : RF := ⟨R.FIFO_CTRL n, 0, 0⟩
/-- FIFO.CMD: mark, rewind and flush (07_epoch_fifos.md). -/
def R.FIFO_CMD (n : Ch) : Nat := chBase n + 0x3C24
def F.FIFO_CMD_CLRMARK (n : Ch) : RF := ⟨R.FIFO_CMD n, 3, 3⟩
def F.FIFO_CMD_FLUSH (n : Ch) : RF := ⟨R.FIFO_CMD n, 2, 2⟩
def F.FIFO_CMD_REWIND (n : Ch) : RF := ⟨R.FIFO_CMD n, 1, 1⟩
def F.FIFO_CMD_MARK (n : Ch) : RF := ⟨R.FIFO_CMD n, 0, 0⟩
/-- FIFO.STAT: FIFO status (07_epoch_fifos.md). -/
def R.FIFO_STAT (n : Ch) : Nat := chBase n + 0x3C28
def F.FIFO_STAT_UNDERRUN (n : Ch) : RF := ⟨R.FIFO_STAT n, 31, 31⟩
def F.FIFO_STAT_MARK_LOST (n : Ch) : RF := ⟨R.FIFO_STAT n, 30, 30⟩
def F.FIFO_STAT_MARK_VALID (n : Ch) : RF := ⟨R.FIFO_STAT n, 29, 29⟩
def F.FIFO_STAT_FLUSH_PEND (n : Ch) : RF := ⟨R.FIFO_STAT n, 28, 28⟩
def F.FIFO_STAT_HEAD_OPEN (n : Ch) : RF := ⟨R.FIFO_STAT n, 27, 27⟩
def F.FIFO_STAT_NEXT_LEN (n : Ch) : RF := ⟨R.FIFO_STAT n, 15, 0⟩
/-- FIFO.PTR: pointers (07_epoch_fifos.md). -/
def R.FIFO_PTR (n : Ch) : Nat := chBase n + 0x3C2C
def F.FIFO_PTR_WPTR (n : Ch) : RF := ⟨R.FIFO_PTR n, 31, 16⟩
def F.FIFO_PTR_RPTR (n : Ch) : RF := ⟨R.FIFO_PTR n, 15, 0⟩
/-- FIFO.LEVEL: mark and unread frames (07_epoch_fifos.md). -/
def R.FIFO_LEVEL (n : Ch) : Nat := chBase n + 0x3C30
def F.FIFO_LEVEL_MARK (n : Ch) : RF := ⟨R.FIFO_LEVEL n, 31, 16⟩
def F.FIFO_LEVEL_FRAMES (n : Ch) : RF := ⟨R.FIFO_LEVEL n, 15, 0⟩
/-- FIFO.DATA: read port (07_epoch_fifos.md). -/
def R.FIFO_DATA (n : Ch) : Nat := chBase n + 0x3C34
def F.FIFO_DATA_DATA (n : Ch) : RF := ⟨R.FIFO_DATA n, 31, 0⟩
/-- FIFO.ECC: memory error counts (07_epoch_fifos.md). -/
def R.FIFO_ECC (n : Ch) : Nat := chBase n + 0x3C38
def F.FIFO_ECC_CORR (n : Ch) : RF := ⟨R.FIFO_ECC n, 31, 16⟩
def F.FIFO_ECC_UNCORR (n : Ch) : RF := ⟨R.FIFO_ECC n, 15, 0⟩
/-- FIFO.CNT: discarded frames (07_epoch_fifos.md). -/
def R.FIFO_CNT (n : Ch) : Nat := chBase n + 0x3C3C
def F.FIFO_CNT_DROPPED (n : Ch) : RF := ⟨R.FIFO_CNT n, 31, 16⟩
/-- PMC.CTRL: run and user access (20_performance_counters.md). -/
def R.PMC_CTRL (n : Ch) : Nat := chBase n + 0x4020
def F.PMC_CTRL_USER_EN (n : Ch) : RF := ⟨R.PMC_CTRL n, 9, 9⟩
def F.PMC_CTRL_RUN1 (n : Ch) : RF := ⟨R.PMC_CTRL n, 1, 1⟩
def F.PMC_CTRL_RUN0 (n : Ch) : RF := ⟨R.PMC_CTRL n, 0, 0⟩
/-- PMC.OVF: sticky overflow (20_performance_counters.md). -/
def R.PMC_OVF (n : Ch) : Nat := chBase n + 0x4024
def F.PMC_OVF_CORE1 (n : Ch) : RF := ⟨R.PMC_OVF n, 13, 8⟩
def F.PMC_OVF_CORE0 (n : Ch) : RF := ⟨R.PMC_OVF n, 5, 0⟩
/-- PMC.PS_CTRL: precise sampling (20_performance_counters.md). -/
def R.PMC_PS_CTRL (n : Ch) : Nat := chBase n + 0x4028
def F.PMC_PS_CTRL_CLEAR (n : Ch) : RF := ⟨R.PMC_PS_CTRL n, 31, 31⟩
def F.PMC_PS_CTRL_ARM (n : Ch) : RF := ⟨R.PMC_PS_CTRL n, 30, 30⟩
def F.PMC_PS_CTRL_CORE (n : Ch) : RF := ⟨R.PMC_PS_CTRL n, 29, 29⟩
def F.PMC_PS_CTRL_PERIOD (n : Ch) : RF := ⟨R.PMC_PS_CTRL n, 15, 0⟩
/-- PMC.PS_STAT: sampling buffer status (20_performance_counters.md). -/
def R.PMC_PS_STAT (n : Ch) : Nat := chBase n + 0x402C
def F.PMC_PS_STAT_FULL (n : Ch) : RF := ⟨R.PMC_PS_STAT n, 31, 31⟩
def F.PMC_PS_STAT_COUNT (n : Ch) : RF := ⟨R.PMC_PS_STAT n, 6, 0⟩
/-- PMC.PS_DATA: sampling read port (20_performance_counters.md). -/
def R.PMC_PS_DATA (n : Ch) : Nat := chBase n + 0x4030
def F.PMC_PS_DATA_DATA (n : Ch) : RF := ⟨R.PMC_PS_DATA n, 31, 0⟩
/-- PMC.EVSEL0: event select (20_performance_counters.md). -/
def R.PMC_EVSEL0 (n : Ch) (k : Nat) : Nat := chBase n + 0x4040 + 4 * k
def F.PMC_EVSEL0_EVENT (n : Ch) (k : Nat) : RF := ⟨R.PMC_EVSEL0 n k, 7, 0⟩
/-- PMC.CNTL0: counter, bits 31:0 (20_performance_counters.md). -/
def R.PMC_CNTL0 (n : Ch) (k : Nat) : Nat := chBase n + 0x4058 + 8 * k
def F.PMC_CNTL0_LO (n : Ch) (k : Nat) : RF := ⟨R.PMC_CNTL0 n k, 31, 0⟩
/-- PMC.CNTH0: counter, bits 47:32 (20_performance_counters.md). -/
def R.PMC_CNTH0 (n : Ch) (k : Nat) : Nat := chBase n + 0x405C + 8 * k
def F.PMC_CNTH0_HI (n : Ch) (k : Nat) : RF := ⟨R.PMC_CNTH0 n k, 15, 0⟩
/-- PMC.EVSEL1: event select (20_performance_counters.md). -/
def R.PMC_EVSEL1 (n : Ch) (k : Nat) : Nat := chBase n + 0x40A0 + 4 * k
def F.PMC_EVSEL1_EVENT (n : Ch) (k : Nat) : RF := ⟨R.PMC_EVSEL1 n k, 7, 0⟩
/-- PMC.CNTL1: counter, bits 31:0 (20_performance_counters.md). -/
def R.PMC_CNTL1 (n : Ch) (k : Nat) : Nat := chBase n + 0x40B8 + 8 * k
def F.PMC_CNTL1_LO (n : Ch) (k : Nat) : RF := ⟨R.PMC_CNTL1 n k, 31, 0⟩
/-- PMC.CNTH1: counter, bits 47:32 (20_performance_counters.md). -/
def R.PMC_CNTH1 (n : Ch) (k : Nat) : Nat := chBase n + 0x40BC + 8 * k
def F.PMC_CNTH1_HI (n : Ch) (k : Nat) : RF := ⟨R.PMC_CNTH1 n k, 15, 0⟩

end Sys2Proof.Machine
end

