-- ==== Sys2Proof/Config.lean ====
section
/-! DEFINITION. What the spec leaves to mathematics, to an external standard or to nobody: uninterpreted constants
without a body, so that no proof can lean on a value of theirs (notes/assumptions 5, 6, 7). -/

namespace Sys2Proof.Config

/-- The mathematical functions that the rules of the filters, the injector and impedance name (R184, R210, R212,
R224); the spec states no number format for them (DESIGN CHOICE, log entry 5). The argument of `sin` and `cos` is in turns. -/
opaque exp : Rat → Rat
opaque sin : Rat → Rat
opaque cos : Rat → Rat
opaque log10 : Rat → Rat
/-- The phase in degrees of re + j·im (R217). -/
opaque carg : Rat → Rat → Rat
/-- The SoC at which R0 is taken when a filter is initialised (R227 names none; DESIGN CHOICE, log entry 5), from the cell's value. -/
opaque initSoc : Rat → Rat
/-- The temperature, °C, of a cell whose channel has never had a MEASURED thermistor (R225 gives it none; DESIGN CHOICE, log entry
5). -/
opaque noTemp : Rat

/-- The chips of the injector's 11-bit maximal-length sequence (R184): which sequence, and where it starts, the spec
does not say (DESIGN CHOICE, log entry 5). -/
opaque prbs : Nat → Bool

/-- SHA-256 (FIPS 180-4) of a byte string (R364, R365; DESIGN CHOICE, log entry 6). -/
opaque sha256 : List Byte → BitVec 256
/-- ECDSA P-256 verification with the public key of slot `key` (FIPS 186-5; R364, R365). -/
opaque ecdsaVerify (key : Nat) (digest : BitVec 256) (sig : List Byte) : Bool
/-- The certificate `der` carries the public key of the identity key (R375). -/
opaque certHasKey (key : BitVec 256) (der : List Byte) : Bool
/-- The certificate `der` chains to the anchor (R375). -/
opaque certChains (der anchor : List Byte) : Bool
/-- The PKCS#10 request for an identity key (R375). -/
opaque csr (key : BitVec 256) : List Byte
/-- What the factory coefficients make of a die temperature, °C: the oscillator's correction, ppm, and that of the references
of a channel (R279; the spec gives no coefficient: DESIGN CHOICE, log entry 88). -/
opaque oscComp : Rat → Rat
opaque refComp (n : Nat) : Rat → Rat
/-- The module's hardware revision (R365). -/
opaque hwRev : Nat
/-- The tile microcode image that a channel image of a version holds, and its CRC-32 (R95, R97, Table 5.6). -/
opaque mcImage (version : Nat) : List Byte
opaque mcImageCrc (version : Nat) : Word
/-- A generated identity key, by generation number (R374, R376; free value, DESIGN CHOICE, log entry 7). -/
opaque genKey : Nat → BitVec 256
/-- A word the spec leaves open, by draw number (free value, DESIGN CHOICE, log entry 7). -/
opaque freeWord : Nat → Word

end Sys2Proof.Config
end

