-- ==== Sys2Proof/Machine/State.lean ====
section
/-! DEFINITION. The state of the module: every register (one sparse list against the reset words of RegMap), every
buffer and memory, and what the blocks hold beside their registers. Plain data throughout. -/

namespace Sys2Proof.Machine
open Sys2Proof

/-- A sparse word memory: rising addresses, no entry equal to what an unlisted address reads as. -/
abbrev Mem := List (Nat × Word)

/-- Status codes of Table 4.3. -/
inductive Status where
  | ok | access | noaddr | align | range | state | locked | owner | oldseq | toobig | badop | aborted | priv
  | aliasRead | bcastPartial
  deriving DecidableEq, Repr

/-- The result of one operation (R70): status, words returned or written, OVERWRITTEN, BCMAP and data. -/
structure OpResult where
  status : Status
  n      : Nat
  ovw    : Bool
  bcmap  : BitVec 8
  data   : List Word
  deriving DecidableEq, Repr

/-- A WRAP session (R64, R65) with its page unlocks and begun unlock sequences (R84). -/
structure Session where
  sid     : Nat
  ident   : Ident
  port    : Port
  lastReq : Nat
  unlocks : List (PageRef × Nat)
  begun   : List PageRef
  deriving DecidableEq, Repr

/-- A kept identity (R28 to R30, R65): its sequence state, stored responses (newest first), event cursor (R351),
last broadcast outcome (R80), failed unlock sequences and unlock lockouts with their times (R84). -/
structure IdState where
  ident    : Ident
  dseq     : Word
  lastHseq : Word
  stored   : List (Word × List Byte)
  lastUsed : Nat
  cursor   : Word
  bcast    : Word
  fails    : List (PageRef × Nat)
  lockouts : List (PageRef × Nat)
  deriving DecidableEq, Repr

/-- An event record (Table 19.1) without its CRC-8, which is computed when it is read. -/
structure EventRec where
  seq   : Word
  code  : Nat
  chan  : Nat
  sev   : Nat
  optime : Nat
  pcc   : Nat
  p0    : Word
  p1    : Word
  p2    : Word
  epoch : Word
  deriving DecidableEq, Repr

/-- A NOTIFY record due (R75). -/
structure NotifyRec where
  page  : Nat
  bits  : Word
  epoch : Word
  seq   : Word
  deriving DecidableEq, Repr

/-- What leaves the module. -/
inductive OutMsg where
  | response (sid : Nat) (bytes : List Byte)
  | notify (sid : Nat) (bytes : List Byte)
  | ringFrame (n : Ch) (side : Side) (bytes : List Byte)
  | wakePattern (n : Ch)
  | can (f : CanFrame)
  /-- a TWIN message: its type, the low 32 bits of the epoch, its payload (R330) -/
  | twin (type epoch : Nat) (payload : List Nat)
  | ptpForward (toB : Bool) (event : Int)
  | ptpSync (portB : Bool) (followUp : Bool)
  deriving DecidableEq, Repr

/-- The display (R39, R40). -/
inductive Screen where
  | overview | channel (n : Ch) | final (mode cause : Nat)
  /-- the channel, and its absent connectors in the order of CH.CONN (R47) -/
  | lockoutRefused (n : Ch) (absent : BitVec 4)
  | zeroised
  deriving DecidableEq, Repr

/-- One accepted tile block (Table 5.4). -/
structure TileBlock where
  addr    : Nat
  missed  : Bool
  laneRev : Bool
  wrapped : Bool
  owtap   : Nat
  seq     : Nat
  cells   : List Nat
  temps   : List Nat
  die     : Int
  aux     : Nat
  tstat   : Nat
  cmpf    : Word
  deriving DecidableEq, Repr

/-- One epoch buffer (R124; Tables 6.4 and 6.5). An empty list reads ABSENT. -/
structure EpochBuf where
  valid    : Bool
  epoch    : Nat
  part     : Bool
  holdover : Bool
  grade    : Nat
  split    : Bool
  late     : Bool
  isrc     : Bool
  ivalid   : Bool
  dieRange : Bool
  tiles    : Nat
  tileRx   : Word
  cellV    : List Nat
  cellQ    : List Nat
  temp     : List Nat
  tempQ    : List Nat
  tileW    : List (Word × Word)
  /-- valve position at the sample instant -/
  vpos     : Int
  istr     : Word
  istrRaw  : Word
  iaux     : Word
  vstr     : Word
  vbus     : Word
  closeUs  : Nat
  delivUs  : Nat
  /-- the pairs of cells that are WIRE_SUSPECT in the epoch (R149, R151) -/
  pairs    : List (Nat × Nat)
  /-- time-base time of the sample instant, ns (R286) -/
  smpTb    : Nat
  deriving DecidableEq, Repr

/-- A buffer that holds no epoch. -/
def EpochBuf.empty : EpochBuf :=
  ⟨false, 0, false, false, 3, false, false, false, false, false, 0, 0, [], [], [], [], [], 0, 0x80000000, 0x80000000,
    0x80000000, 0xFFFFFFFF, 0xFFFFFFFF, 0, 0, [], 0⟩

/-- A frame waiting for a command window (R104): class, whether it is a WR_REG, and what it carries. -/
structure CmdFrame where
  cls  : Nat
  op   : Nat
  addr : Nat
  payload : List Byte
  deriving DecidableEq, Repr

/-- A WR_REG frame sent and not yet judged (R105): the ports whose copy has still to return, and the tiles that have
confirmed. -/
structure SentFrame where
  frame : CmdFrame
  left  : Nat
  oks   : List Nat
  deriving DecidableEq, Repr

/-- Ring master state beside the RING registers. -/
structure RingS where
  /-- the topology in use: RING.CTRL.TOPO as the last ring start took it (Table 5.12) -/
  topo : Bool
  upA : Bool
  upB : Bool
  /-- a port that wraps its side since its receiver went down (R107) -/
  wrapA : Bool
  wrapB : Bool
  pops : List Nat
  serials : List (BitVec 64)
  enumCount : Nat
  enumSame : Nat
  /-- time-base time at which the present start state was entered -/
  enumT0 : Nat
  mcTries : Nat
  fails : Nat
  faultT : Nat
  hold : List (Nat × Nat)
  rejects : Nat
  bgActive : Bool
  bgSince : Nat
  /-- measured a and b of each tile, ns (R99) -/
  aTab : List Rat
  bTab : List Rat
  /-- probe pairs of a running set still to be sent -/
  probes : Nat
  /-- a break located but not yet entered into SPLIT: when, POS_A, POS_B (R108, R109) -/
  breakAt : Option (Nat × Nat × Nat)
  goodEpochs : Nat
  rejoinSet : Bool
  /-- activation epoch of the UNWRAP writes (R112) -/
  unwrapAt : Option Nat
  /-- tiles that have confirmed the UNWRAP write -/
  unwrapOk : List Nat
  queue : List CmdFrame
  /-- failed writes that the next window repeats (R101, R105) -/
  retry : List CmdFrame
  sent : List SentFrame
  collected : Bool
  recollectDue : Bool
  reads : Nat
  readTiles : List Nat
  /-- tiles whose block of the epoch has arrived, TRIG_MISSED or not -/
  arrived : List Nat
  deriving DecidableEq, Repr

/-- Pour state beside its registers (R113 to R128), and the safety counters of its epochs. -/
structure PourS where
  on : Bool
  sampled : Bool
  epoch : Nat
  smp : SampleIn
  grade : Nat
  holdover : Bool
  /-- the ring was in SPLIT at the sample instant -/
  split : Bool
  /-- RING.STAT.TILES, POUR.CTRL.TMASK and POUR.CTRL.ISEL at the sample instant, and its time-base time (R121, R131,
  Table 6.7) -/
  tiles : Nat
  tmask : Nat
  isel : Nat
  smpTb : Nat
  blocks : List TileBlock
  /-- the epoch delivered before `deliv`, and the RO-S registers of the channel that belonged to it (R21) -/
  prev : EpochBuf
  prevRegs : List (Nat × Word)
  /-- raw current inputs of the epoch closed last, mA (R231) -/
  rawMain : Option Int
  rawAux : Option Int
  closed : Bool
  pending : Bool
  fill : EpochBuf
  deliv : EpochBuf
  frozen : EpochBuf
  staleCnt : List Nat
  tStale : List Nat
  otCnt : List Nat
  lastGrade : Nat
  zeroRun : Nat
  preRun : Nat
  vlimRun : Nat
  holdMis : Nat
  stopPending : Bool
  committed : Bool
  /-- epochs delivered in a row since Pour started (R371) -/
  run : Nat
  deriving DecidableEq, Repr

/-- Epoch FIFO storage beside its registers (R130 to R142). -/
structure FifoS where
  /-- the words as written -/
  mem : Mem
  /-- stored words that differ from what was written: word address, and the bits of its 39 that have turned over -/
  flips : List (Nat × BitVec 39)
  headLeft : Nat
  headLen : Nat
  droppedBefore : Nat
  lastWord : Word
  deriving DecidableEq, Repr

/-- A suspicion (R149). -/
structure Susp where
  tile : Nat
  tap  : Nat
  latched : Bool
  negs : Nat
  deriving DecidableEq, Repr

/-- One epoch of the drift monitor's history (R148): epoch, values and codes. -/
structure CellHist where
  epoch : Nat
  v : List Nat
  q : List Nat
  deriving DecidableEq, Repr

/-- An open-wire test set up: epoch, tile, tap, and whether it takes its slot in place of the rotation (R146). -/
structure OwTest where
  epoch  : Nat
  tile   : Nat
  tap    : Nat
  forced : Bool
  deriving DecidableEq, Repr

/-- Cell integrity state beside CDIAG's registers. -/
structure CdiagS where
  susp : List Susp
  /-- tests that take the tile's next slot ahead of the rotation: tile, tap, slots left (R146) -/
  due : List (Nat × Nat × Nat)
  hist : List CellHist
  cmpRun : List Nat
  sentOw : List OwTest
  /-- the last epoch whose slots have been set up -/
  schedTo : Nat
  deriving DecidableEq, Repr

/-- Balancing state beside BAL's registers. -/
structure BalS where
  /-- duties commanded by the mode, steps of 0.5% -/
  duty : List Nat
  /-- HCMD duties: cell and time-base time of their lapse (R159) -/
  hset : List (Nat × Nat)
  /-- duties after the limit of R157, and as the tiles confirmed them -/
  want : List Nat
  applied : List Nat
  /-- epoch of the last AUTO run (R158) -/
  autoAt : Option Nat
  failRun : List Nat
  lastSent : List Nat
  modeNow : Nat
  noBlock : List Nat
  deriving DecidableEq, Repr

/-- The capture of R185. -/
structure CapS where
  started : Bool
  epoch : Nat
  first : Nat
  skip : Nat
  data : List Word
  deriving DecidableEq, Repr

/-- Control engine state beside CTLE's registers (R170 to R185). Quantities in A, V, s as exact rationals. -/
structure CtleS where
  x : Rat
  z : Rat
  yc : Rat
  yd : Rat
  vT : Rat
  duty : Rat
  ePrev : Rat
  vbPrev : Rat
  vsPrev : Rat
  iMainPrev : Rat
  iAuxPrev : Rat
  rfMain : Rat
  rfAux : Rat
  since : Nat
  enabled : Bool
  lateRun : Nat
  irefPre : Rat
  swapAt : Option Nat
  swapEpoch : Bool
  injFrom : Option Nat
  injOn : Bool
  injK : Nat
  feSince : Option Nat
  preDoneAt : Option Nat
  cap : CapS
  stageFault : Bool
  vBusNow : Option Int
  /-- thermal limits in force since sample 0 of the epoch, A (R280) -/
  thChg : Nat
  thDis : Nat
  /-- writes of CUR_TARGET, CUR_LIM and CUR_STOP that no evaluation has taken yet (R190): grant time, and the word
  before the write -/
  wrTarget : List (Nat × Word)
  wrLim : List (Nat × Word)
  wrStop : List (Nat × Word)
  /-- time-base time of the injection's start sample (R184), and a STOP that the next sample takes (Table 9.15) -/
  injT0 : Nat
  injStop : Bool
  /-- stage 3 or 4 of R170 changed the last reference -/
  refLimited : Bool
  deriving DecidableEq, Repr

/-- Position, velocity and acceleration (R188). -/
structure Kin where
  p : Rat
  v : Rat
  a : Rat
  deriving DecidableEq, Repr

/-- A phase of constant jerk: duration in s, jerk. -/
structure Seg where
  dur : Rat
  j   : Rat
  deriving DecidableEq, Repr

/-- A plan: where it started (time-base ns and state), its phases, its target. -/
structure Plan where
  t0 : Nat
  k0 : Kin
  segs : List Seg
  target : Rat
  deriving DecidableEq, Repr

/-- Profile generator state beside PROF's registers. -/
structure ProfS where
  cur : Plan
  vlv : Plan
  curOn : Bool
  curSince : Nat
  limChg : Rat
  limDis : Rat
  stopAt : Option Nat
  /-- the present plan is under the PROF.CUR_STOP limits (R191, R192, R194) -/
  stopLim : Bool
  /-- the target at which a plan that would cross it is clipped (R192) -/
  clip : Option Rat
  /-- valve target and limit writes waiting for their evaluation (R190): grant time, and the word before the write -/
  vWrT : List (Nat × Word)
  vWrL : List (Nat × Word)
  /-- a PROF.CTRL.STOP waiting for its evaluation -/
  vStop : Option Nat
  deriving DecidableEq, Repr

/-- A limit input of the valve axis (R200). -/
structure LimS where
  raw : Bool
  active : Bool
  since : Nat
  pos : Int
  edges : List Nat
  chatter : Bool
  deriving DecidableEq, Repr

/-- The phases of a homing sequence (Table 10.3, R204). -/
inductive HomePh where
  | none | fast | backoff | slow | away | done
  deriving DecidableEq, Repr

/-- Valve axis state beside VAX's registers. Positions in microsteps. -/
structure VaxS where
  enc : Int
  encOff : Int
  issued : Rat
  rate : Rat
  lastStep : Nat
  lo : LimS
  hi : LimS
  phase : HomePh
  homeAt : Nat
  /-- position at the last sample instant, shown with its epoch (R390) -/
  posAt : Int
  feSince : Option Nat
  supplyBad : Option Bool
  /-- the fault that turned the coils off: 8, 9 or 10, 0 without one (Table 10.2) -/
  coilCause : Nat
  /-- profile velocity of the last evaluation (R198) -/
  vLast : Rat
  /-- the homing reference (R204) -/
  refPos : Int
  /-- VAX.DRIVE as the chopper applies it: a write takes effect at the next off-time (R196) -/
  drive : Word
  deriving DecidableEq, Repr

/-- One captured epoch of an impedance block (R211): ISTR in mA, cell values and codes. -/
structure ImpEpoch where
  istr : Int
  v : List Nat
  q : List Nat
  deriving DecidableEq, Repr

/-- A tone's result (Table 11.2): bin, SNR, validity, I. -/
structure ToneRes where
  bin : Nat
  snr : Rat
  ok  : Bool
  re  : Rat
  im  : Rat
  deriving DecidableEq, Repr

/-- The published impedance region (Table 11.2). -/
structure ImpRes where
  status : Nat
  cause : Nat
  endEpoch : Nat
  startEpoch : Nat
  grade : Nat
  zres : Nat
  ntones : Nat
  imean : Int
  imin : Int
  imax : Int
  tmean : Nat
  nok : Nat
  limit : Int
  tones : List ToneRes
  tint : List Nat
  zq : List Nat
  z : List (List Word)
  deriving DecidableEq, Repr

/-- No block published (R216). -/
def ImpRes.none : ImpRes := ⟨0, 0, 0, 0, 0, 0, 0, 0, 0, 0, 0x8000, 0, 0, [], [], [], []⟩

/-- Impedance state beside IMP's registers. -/
structure ImpS where
  due : Option Nat
  /-- epoch of the lead-in of the last started block since the last write of MODE = PERIODIC, and the first E0 that a
  skip or an abort leaves to become due (R207, R208) -/
  lastLead : Option Nat
  minE0 : Nat
  /-- the lead-in start of the block under way, and its SNR_MIN (R209) -/
  leadAt : Nat
  snrMin : Nat
  e0 : Nat
  limit : Rat
  ntones : Nat
  bins : List Nat
  weights : List Nat
  ttone : Nat
  rtone : Nat
  zres : Nat
  cap : List ImpEpoch
  gradeMin : Nat
  /-- sum and count of the MEASURED thermistor values of the block, 0.01 °C -/
  temps : List Int
  /-- per cell: sum and count of its SoC over the block -/
  socs : List (List Rat)
  res : ImpRes
  /-- results before it, newest first, as far back as a snapshot may have to show one: a void result's stamp may lie
  ahead of the epochs delivered (R129) -/
  prev : List ImpRes
  /-- the result a held snapshot shows (R129) -/
  frozen : ImpRes
  deriving DecidableEq, Repr

/-- One cell's filter and learned values (R224 to R238). -/
structure EstCell where
  init : Bool
  soc : Rat
  v1 : Rat
  v2 : Rat
  p00 : Rat
  p01 : Rat
  p02 : Rat
  p11 : Rat
  p12 : Rat
  p22 : Rat
  /-- the published SoC (R232) -/
  socPub : Rat
  q : Rat
  /-- a learned capacity that applies from the next update, with its envelope (R238) -/
  qNew : Option (Rat × Envel)
  kR : Rat
  envQ : Option Envel
  envR : Option Envel
  cycle : Option Cycle
  temp : Option Rat
  extrap : Bool
  noUpd : Bool
  sopC : List Nat
  sopD : List Nat
  measRun : Nat
  deriving DecidableEq, Repr

/-- The estimator's stored record (R239), one copy. -/
structure EstCopy where
  valid : Bool
  gen : Word
  epoch : Nat
  cells : List EstCell
  restAge : Nat
  cal : List (Int × Rat)
  calEnv : List (Option (Rat × Rat))
  deriving DecidableEq, Repr

/-- No copy. -/
def EstCopy.none : EstCopy := ⟨false, 0, 0, [], 0, [], []⟩

/-- The published aggregates and state of power (Table 12.7). -/
structure EstPub where
  aggEpoch : Nat
  kfEpoch : Nat
  sopEpoch : Nat
  socMin : Nat
  socMax : Nat
  socMean : Nat
  idxMin : Nat
  idxMax : Nat
  gradeMin : Nat
  extrapAny : Bool
  ncells : Nat
  socStr : Nat
  ahDis : Nat
  ahChg : Nat
  curLim : List Nat
  powLim : List Nat
  deriving DecidableEq, Repr

/-- A delivered epoch that the aggregates, rest-point and learning checks have still to take (R220, R232, R236): its
buffer, the applied duties, and whether a filter update has taken it already. -/
structure AggIn where
  buf  : EpochBuf
  duty : List Nat
  inKf : Bool
  deriving DecidableEq, Repr

/-- Estimator state beside EST's registers. -/
structure EstS where
  chem : Mem
  chemOk : Bool
  /-- the set as parameter MRAM holds it, and a committed set that has still to be written there (R61) -/
  chemNv : Option Mem
  chemDue : Bool
  stage : Mem
  cells : List EstCell
  pub : EstPub
  /-- the region before the newest aggregates, and the frozen one (R129) -/
  prevWin : Mem
  frozenWin : Mem
  /-- EST.STAT as it stood beside `prevWin` -/
  prevStat : Word
  /-- epochs delivered since the last aggregates -/
  aggPend : List AggIn
  /-- the last valid current of a delivered epoch, A (R224) -/
  iValid : Rat
  /-- the same as of the last aggregates -/
  iAgg : Rat
  /-- epoch of the record restored at BOOT, until the first epoch after BOOT (R227) -/
  storedAt : Option Nat
  /-- the epochs since the last update: current in A when valid, applied duties in steps of 0.5% (R224) -/
  group : List (Option Rat × List Nat)
  iLast : Rat
  restT0 : Option Nat
  restTmin : List Int
  restTmax : List Int
  restHourAt : Nat
  /-- time-base time of the last delivered epoch with IVALID = 1 (R237) -/
  validAt : Nat
  copyA : EstCopy
  copyB : EstCopy
  /-- calibration: offset in mA and gain, for IMAIN and IAUX (R231) -/
  cal : List (Int × Rat)
  /-- the calibration in force before epoch `calAt` -/
  calOld : List (Int × Rat)
  calAt : Nat
  calWin : List Int
  /-- epochs already sampled at the grant, which the window does not take -/
  calSkip : Nat
  /-- 0 none, 1 offset, 2 gain; the input of the request -/
  calKind : Nat
  calSel : Nat
  /-- current ranges of the gains, A -/
  calEnv : List (Option (Rat × Rat))
  writeDue : Bool
  wroteAt : Nat
  /-- no record has been loaded since the start: DECAF or HALT entered from power-on (R60) -/
  unloaded : Bool
  deriving DecidableEq, Repr

/-- Safety logic state beside SAFE's and CONT's registers. -/
structure SafeS where
  tripAt : Option Nat
  tripTb : Nat
  tripEpoch : Nat
  ocAt : Option Nat
  ocPath : Nat
  /-- epochs delivered since the trip decision (R270) -/
  delivs : Nat
  /-- consecutive failed periods of each line, A0 to A3 then B0 to B3 (R259) -/
  lineFail : List Nat
  linePass : List Nat
  /-- a line filtered low (R258) -/
  low : BitVec 8
  pulseA : Bool
  pulseB : Bool
  degMs : Nat
  degSince : Option Nat
  limp : Bool
  holdOffAt : Option Nat
  stepAt : Nat
  isolating : Bool
  isoAt : Nat
  /-- step 3 of R45 reached -/
  isoWait : Bool
  acked : Bool
  /-- the channel's drives of R45 step 5 that no register shows: SDCLK, ENC_5V, and the test sources TPA and TPB -/
  sdclk : Bool
  enc5v : Bool
  tpOn : Bool
  /-- time-base time of the entry into LOCKOUT (R36) -/
  lockAt : Option Nat
  /-- causes found on the newest judged epoch: a cause that stays is no new cause (R269) -/
  present : List Nat
  reloading : Bool
  deriving DecidableEq, Repr

/-- Percolator state beside PERC's registers. -/
structure PercS where
  info : ProgInfo
  img : Mem
  imgLen : Nat
  stage : Mem
  staged : Option ProgInfo
  stagedImg : Mem
  cmdLoad : Bool
  xsince : Nat
  /-- time-base time of the last change between FREE tasks (R285) -/
  freeAt : Nat
  /-- time-base time of the last copy of the retained data (R302) -/
  retAt : Nat
  image : List Word
  inputs : List (List Word)
  /-- the time that the timers of each SYNC task read: the sample instant of its cycle's epoch (R286) -/
  times : List Nat
  /-- the epoch whose delivery last started each SYNC task (R284) -/
  starts : List (Option Nat)
  latched : List (Nat × Nat × Bool)
  running : List Nat
  freeNow : Nat
  freeOut : List (Word × Nat × Nat × Bool)
  outcome : List (Word × Bool)
  retain : List (Word × Word)
  retA : Option (Word × List (Word × Word))
  retB : Option (Word × List (Word × Word))
  flash : Option (ProgInfo × Mem × Word)
  flashDue : Bool
  cursor : Word
  lastStatus : Status
  lastData : Word
  deriving DecidableEq, Repr

/-- One performance counter (R355 to R360). -/
structure Pmc where
  val : Nat
  latch : Nat
  stagedHi : Nat
  deriving DecidableEq, Repr

/-- The counters and the sampling buffer of a PMC page. -/
structure PmcS where
  ctr : List Pmc
  ps : List (List Word)
  psWord : Nat
  deriving DecidableEq, Repr

/-- Twin state of a channel (R326 to R342). -/
structure TwinCh where
  claimIn : Bool
  claimInAt : Nat
  claimOut : Bool
  claimAt : Nat
  held : Bool
  standby : Bool
  pOwned : Bool
  pPref : Bool
  pState : Nat
  pHold : BitVec 3
  pTarget : Int
  pTripAt : Option Nat
  releaseAt : Option Nat
  mirror : List (Nat × Word)
  mirrorRet : List (Word × Word)
  mirrorMode : Nat
  mirrorProg : Word
  mirrorSeq : Word
  mirrorIntent : BitVec 3
  mirrorAge : Nat
  mirrorCal : List (Int × Rat)
  mirrorCalEnv : List (Option (Rat × Rat))
  mirrorCells : List MirrorCell
  segs : List MirrorSeg
  full : Bool
  taking : Bool
  takeN : Nat
  /-- epochs in a row in which sniffed and mastered data disagreed, and agreed (R271, R341) -/
  sniffRun : Nat
  sniffGood : Nat
  /-- this module is to claim the channel once OWNER_IN has shown no claim for 100 µs (R326) -/
  toClaim : Bool
  /-- when the first segment of the record under way arrived (R332) -/
  segAt : Nat
  deriving DecidableEq, Repr

/-- What one channel holds beside its registers. -/
structure Chan where
  ring : RingS
  pour : PourS
  fifo : FifoS
  cdiag : CdiagS
  bal : BalS
  ctle : CtleS
  prof : ProfS
  vax : VaxS
  imp : ImpS
  est : EstS
  safe : SafeS
  perc : PercS
  pmc : PmcS
  twin : TwinCh
  /-- detect loops qualified since BOOT began (R35), in the order RA, RB, PS, IO -/
  qual : BitVec 4
  deriving DecidableEq, Repr

/-- The plant clock and PTP (R304 to R310). -/
structure ClockS where
  tb : Nat
  plant : Nat
  good : Nat
  bad : Nat
  lossAt : Option Nat
  lastSync : Nat
  syncLog : Int
  firstOff : Option (Nat × Int)
  /-- a step (R310), and a slew with its time-base start, waiting for their ends; `acted`: the offset after a loss or
  BOOT has been acted on -/
  stepBy : Option Int
  slewBy : Option Int
  slewAt : Nat
  acted : Bool
  pathA : Option Int
  pathB : Option Int
  bestA : Option AnnounceMsg
  bestB : Option AnnounceMsg
  /-- the oscillator's correction, ppm (R279) -/
  comp : Rat
  /-- the correction of each channel's references (R279) -/
  refComp : List Rat
  /-- time-base time of the last compensation step (R279) -/
  compAt : Nat
  storedTime : Nat
  deriving DecidableEq, Repr

/-- Supervisor and supplies. -/
structure SupS where
  /-- SYS.BOOT_CFG as this BOOT took it (R62) -/
  bootCfg : Word
  haltLatch : Bool
  haltCause : Nat
  /-- time-base time of the last HALT cause (R51) -/
  haltAt : Option Nat
  decafLatch : Bool
  holdupAt : Option Nat
  /-- items that the last hold-up left unwritten: bit 0 events, 1 to 8 the estimators of CH0 to CH7, 9 parameters -/
  pfItems : Nat
  /-- START's PARAM0 and PARAM2 (Table 19.2) -/
  startCause : Nat
  skipped : Nat
  wakeRun : List Nat
  wakeVolt : Bool
  auxLow : Bool
  fuseAt : Option Nat
  vholdOk : Bool
  restarting : Bool
  rebootFault : Bool
  deriving DecidableEq, Repr

/-- Thermal management (R275 to R282). -/
structure ThermS where
  failRun : List Nat
  up : List Nat
  down : List Nat
  level : List Bool
  stuck : Bool
  axes : List Word
  inhibit : List Bool
  deriving DecidableEq, Repr

/-- The allocator (R242 to R247). -/
structure AllocS where
  modeNow : Nat
  /-- PCMD has been written since the last run (R244) -/
  pcmdNew : Bool
  /-- the time-out of the present command has been reported (R246) -/
  tmoDone : Bool
  cmdAt : Nat
  restAt : Option Nat
  limChg : List Rat
  limDis : List Rat
  deriving DecidableEq, Repr

/-- The CAN controller (R312 to R321). -/
structure CanS where
  rx : List (CanFrame × Nat × Bool)
  lost : Bool
  lock : Option (Src × Nat)
  active : Option Nat
  /-- content and time of the last status frame queued (R321) -/
  last : List Nat
  lastAt : Nat
  ctr : Nat
  nextStatus : Bool
  onBus : Bool
  deriving DecidableEq, Repr

/-- The pair (R323 to R341). -/
structure TwinS where
  side : Nat
  pside : Option Nat
  lastHb : Nat
  missed : Nat
  /-- when the last heartbeat counted as missed -/
  missAt : Nat
  offs : List Int
  restartAt : Option Nat
  everHb : Bool
  /-- this module has become READY (R341) -/
  ready : Bool
  deriving DecidableEq, Repr

/-- The event recorder (R344 to R353). -/
structure EvtS where
  stored : List EventRec
  staged : List EventRec
  first : Word
  nextSeq : Word
  /-- NEXT_SEQ as last persisted (R345; DESIGN CHOICE, log entry 89: with each flush, at a clear and at BOOT) -/
  nextSaved : Word
  dropped : Nat
  clean : Bool
  optime : Nat
  opBase : Nat
  optimeSaved : Nat
  pcc : Nat
  defer : List EventRec
  deriving DecidableEq, Repr

/-- An image slot (R364 to R372): bundle words, validity, confirmation and the header values of its bundle. -/
structure Slot where
  mem : Mem
  valid : Bool
  version : Nat
  floor : Nat
  revoke : Nat
  deriving DecidableEq, Repr

/-- Updates, secrets and test access. -/
structure UpdS where
  slotA : Slot
  slotB : Slot
  /-- activation time in plant seconds, while ARMED (R367) -/
  actAt : Option Nat
  /-- the trial: its start in time-base time, its length in s, the host's consent, and what held at the activation:
  PTP lock, and the channels that reloaded with their rings running (R371) -/
  trialAt : Nat
  trialLen : Nat
  accepted : Bool
  wasLocked : Bool
  reloaded : BitVec 8
  /-- identity keys generated, and the present one (R374, R376) -/
  keyGen : Nat
  key : Option (BitVec 256)
  /-- staged objects 1 to 5, word w of object o at 512·o + w, and their lengths (R375) -/
  objMem : Mem
  objLen : List Nat
  cert : List Byte
  anchors : List (List Byte)
  /-- instruction registers of the host device and the two channel devices (R377) -/
  ir : List Byte
  deriving DecidableEq, Repr

/-- The front panel (R39 to R41). -/
structure PanelS where
  screen : Screen
  touchAt : Nat
  deriving DecidableEq, Repr

/-- The snapshot held (R20 to R26). -/
structure SnapS where
  owner : Nat
  at_ : Nat
  limit : Nat
  regs : List (Nat × Word)
  deriving DecidableEq, Repr

/-- The module. -/
structure State where
  pending : List Instr
  regs : Mem
  mram : Mem
  dirty : List Nat
  chans : Vector Chan 8
  clock : ClockS
  sup : SupS
  snap : Option SnapS
  sessions : List Session
  idents : List IdState
  nextSid : Nat
  joined : List (Nat × Nat)
  last : OpResult
  notifies : List NotifyRec
  outbox : List OutMsg
  panel : PanelS
  therm : ThermS
  alloc : AllocS
  can : CanS
  twin : TwinS
  evt : EvtS
  upd : UpdS
  pmcs : PmcS
  free : Nat
  deriving DecidableEq, Repr

/-- A stop of a step with a fault. The WSC-8 has none: every command of the table has an effect, a refusal status or
no effect, each a next state. -/
inductive Fault where
  /-- Raised by no command; safe: it removes no behaviour. -/
  | unreachable
  deriving DecidableEq, Repr

/-- A command without a meaning. -/
inductive Refusal where
  /-- Raised by an arm of `exec` whose command has no meaning yet; safe: nothing is claimed of it. -/
  | notModelled (mnemonic : String)
  deriving DecidableEq, Repr

/-! ## Reset (each register at its reset word: `regs` lists nothing) -/

/-- A buffer rotation with no epoch delivered. -/
def SampleIn.none_ : SampleIn :=
  ⟨none, none, none, none, none, none, none, none, false, false, [], [], [], false, false, false, true⟩

def Kin.rest : Kin := ⟨0, 0, 0⟩
def Plan.rest : Plan := ⟨0, Kin.rest, [], 0⟩
def LimS.reset : LimS := ⟨false, false, 0, 0, [], false⟩

def RingS.reset : RingS :=
  { topo := false, upA := true, upB := true, wrapA := false, wrapB := false, pops := [], serials := [], enumCount := 0,
    enumSame := 0, enumT0 := 0, mcTries := 0, fails := 0, faultT := 0, hold := [], rejects := 0, bgActive := false,
    bgSince := 0, aTab := [], bTab := [], probes := 0, breakAt := none, goodEpochs := 0, rejoinSet := false,
    unwrapAt := none, unwrapOk := [], queue := [], retry := [], sent := [], collected := false,
    recollectDue := false, reads := 0, readTiles := [], arrived := [] }

def PourS.reset : PourS :=
  { on := false, sampled := false, epoch := 0, smp := SampleIn.none_, grade := 3, holdover := false, split := false,
    tiles := 0, tmask := 0, isel := 0, smpTb := 0, blocks := [], prev := EpochBuf.empty, prevRegs := [], rawMain := none,
    rawAux := none, closed := false, pending := false, fill := EpochBuf.empty, deliv := EpochBuf.empty,
    frozen := EpochBuf.empty,
    staleCnt := [], tStale := [], otCnt := [], lastGrade := 3, zeroRun := 0, preRun := 0, vlimRun := 0, holdMis := 0,
    stopPending := false, committed := false, run := 0 }

def FifoS.reset : FifoS := ⟨[], [], 0, 0, 0, 0⟩
def CdiagS.reset : CdiagS := ⟨[], [], [], [], [], 0⟩
def BalS.reset : BalS := ⟨[], [], [], [], none, [], [], 0, []⟩
def CapS.reset : CapS := ⟨false, 0, 0, 0, []⟩

def CtleS.reset : CtleS :=
  { x := 0, z := 0, yc := 0, yd := 0, vT := 0, duty := 0, ePrev := 0, vbPrev := 0, vsPrev := 0, iMainPrev := 0,
    iAuxPrev := 0, rfMain := 0, rfAux := 0, since := 0, enabled := false, lateRun := 0, irefPre := 0, swapAt := none,
    swapEpoch := false, injFrom := none, injOn := false, injK := 0, feSince := none, preDoneAt := none,
    cap := CapS.reset, stageFault := false, vBusNow := none, thChg := 0, thDis := 0, wrTarget := [], wrLim := [], wrStop := [], injT0 := 0,
    injStop := false, refLimited := false }

def ProfS.reset : ProfS :=
  { cur := Plan.rest, vlv := Plan.rest, curOn := false, curSince := 0, limChg := 0, limDis := 0, stopAt := none,
    stopLim := false, clip := none, vWrT := [], vWrL := [], vStop := none }

def VaxS.reset : VaxS :=
  { enc := 0, encOff := 0, issued := 0, rate := 0, lastStep := 0, lo := LimS.reset, hi := LimS.reset, phase := .none,
    homeAt := 0, posAt := 0, feSince := none, supplyBad := none, coilCause := 0,
    vLast := 0, refPos := 0, drive := 0x64321403 }

def ImpS.reset : ImpS :=
  { due := none, lastLead := none, minE0 := 0, leadAt := 0, snrMin := 0, e0 := 0, limit := 0, ntones := 0, bins := [], weights := [], ttone := 0,
    rtone := 0, zres := 0, cap := [], gradeMin := 0, temps := [], socs := [], res := ImpRes.none,
    prev := [], frozen := ImpRes.none }

def EstPub.reset : EstPub :=
  { aggEpoch := 0, kfEpoch := 0, sopEpoch := 0, socMin := 0xFFFF, socMax := 0xFFFF, socMean := 0xFFFF, idxMin := 0,
    idxMax := 0, gradeMin := 3, extrapAny := false, ncells := 0, socStr := 0xFFFF, ahDis := 0, ahChg := 0,
    curLim := [], powLim := [] }

def EstS.reset : EstS :=
  { chem := [], chemOk := false, chemNv := none, chemDue := false, stage := [], cells := [], pub := EstPub.reset,
    prevWin := [], frozenWin := [], prevStat := 0xC0000000, aggPend := [],
    iValid := 0, iAgg := 0, storedAt := none, group := [], iLast := 0, restT0 := none, restTmin := [], restTmax := [], restHourAt := 0,
    validAt := 0, copyA := EstCopy.none, copyB := EstCopy.none, cal := [(0, 1), (0, 1)], calOld := [(0, 1), (0, 1)],
    calAt := 0, calWin := [], calSkip := 0, calKind := 0, calSel := 0, calEnv := [none, none], writeDue := false, wroteAt := 0, unloaded := false }

def SafeS.reset : SafeS :=
  { tripAt := none, tripTb := 0, tripEpoch := 0, ocAt := none, ocPath := 0, delivs := 0, lineFail := [], linePass := [], low := 0,
    pulseA := false, pulseB := false, degMs := 0, degSince := none, limp := false, holdOffAt := none, stepAt := 0,
    isolating := false, isoAt := 0, isoWait := false, acked := false, sdclk := false,
    enc5v := false, tpOn := false, lockAt := none, present := [],
    reloading := false }

def ProgInfo.none : ProgInfo := ⟨[], [], [], []⟩

def PercS.reset : PercS :=
  { info := ProgInfo.none, img := [], imgLen := 0, stage := [], staged := none, stagedImg := [], cmdLoad := false,
    xsince := 0, image := [], inputs := [], times := [], starts := [], latched := [], running := [], freeNow := 0, freeAt := 0, retAt := 0,
    freeOut := [], outcome := [], retain := [], retA := none, retB := none, flash := none, flashDue := false,
    cursor := 1, lastStatus := .ok, lastData := 0 }

def PmcS.reset : PmcS := ⟨List.replicate 12 ⟨0, 0, 0⟩, [], 0⟩

def TwinCh.reset : TwinCh :=
  { claimIn := false, claimInAt := 0, claimOut := false, claimAt := 0, held := false, standby := false,
    pOwned := false, pPref := false, pState := 0, pHold := 0, pTarget := 0, pTripAt := none, releaseAt := none, mirror := [],
    mirrorRet := [], mirrorMode := 0, mirrorProg := 0, mirrorSeq := 0, mirrorIntent := 0, mirrorAge := 0,
    mirrorCal := [], mirrorCalEnv := [], mirrorCells := [],
    segs := [], full := false, taking := false, takeN := 0, sniffRun := 0, sniffGood := 0,
    toClaim := false, segAt := 0 }

def Chan.reset : Chan :=
  { ring := RingS.reset, pour := PourS.reset, fifo := FifoS.reset, cdiag := CdiagS.reset, bal := BalS.reset,
    ctle := CtleS.reset, prof := ProfS.reset, vax := VaxS.reset, imp := ImpS.reset, est := EstS.reset,
    safe := SafeS.reset, perc := PercS.reset, pmc := PmcS.reset, twin := TwinCh.reset, qual := 0 }

def ClockS.reset : ClockS :=
  { tb := 0, plant := 0, good := 0, bad := 0, lossAt := none, lastSync := 0, syncLog := 0, firstOff := none,
    stepBy := none, slewBy := none, slewAt := 0, acted := false, pathA := none, pathB := none, bestA := none, bestB := none,
    comp := 0, refComp := List.replicate 8 0, compAt := 0, storedTime := 0 }

def SupS.reset : SupS :=
  { bootCfg := 0x500, haltLatch := false, haltCause := 0, haltAt := none, decafLatch := false, holdupAt := none, pfItems := 0,
    startCause := 0, skipped := 0, wakeRun := [], wakeVolt := false, auxLow := false, fuseAt := none, vholdOk := false,
    restarting := false, rebootFault := false }

def ThermS.reset : ThermS :=
  { failRun := [], up := [0, 0, 0], down := [0, 0, 0], level := [false, false, false], stuck := false,
    axes := [0x0A00F6EC, 0x3C322819, 0x320A0500, 0x645F5A50], inhibit := [] }

def AllocS.reset : AllocS :=
  { modeNow := 0, pcmdNew := false, tmoDone := false, cmdAt := 0, restAt := none, limChg := [], limDis := [] }

def CanS.reset : CanS :=
  { rx := [], lost := false, lock := none, active := none, last := [], lastAt := 0, ctr := 0,
    nextStatus := false, onBus := true }

def TwinS.reset : TwinS :=
  { side := 0, pside := none, lastHb := 0, missed := 0, missAt := 0, offs := [], restartAt := none, everHb := false,
    ready := false }

def EvtS.reset : EvtS :=
  { stored := [], staged := [], first := 1, nextSeq := 1, nextSaved := 1, dropped := 0, clean := true, optime := 0, opBase := 0,
    optimeSaved := 0, pcc := 0, defer := [] }

/-- Slot A as delivered: a valid image of version 0x0100 (DESIGN CHOICE, log entry 14). -/
def Slot.factory : Slot := ⟨[], true, 0x0100, 0, 0⟩
def Slot.empty : Slot := ⟨[], false, 0, 0, 0⟩

def UpdS.reset : UpdS :=
  { slotA := Slot.factory, slotB := Slot.empty, actAt := none, trialAt := 0, trialLen := 0, accepted := false,
    wasLocked := false, reloaded := 0, keyGen := 0, key := some (Config.genKey 0), objMem := [], objLen := [], cert := [],
    anchors := [], ir := [0x01, 0x01, 0x01] }

/-- The module right after reset (log entries 8 to 14 name the values the spec does not give). -/
def State.reset : State :=
  { pending := [], regs := [], mram := [], dirty := [], chans := Vector.replicate 8 Chan.reset,
    clock := ClockS.reset, sup := SupS.reset, snap := none, sessions := [], idents := [], nextSid := 0,
    joined := [], last := ⟨.ok, 0, false, 0, []⟩, notifies := [], outbox := [],
    panel := ⟨.overview, 0⟩, therm := ThermS.reset, alloc := AllocS.reset, can := CanS.reset,
    twin := TwinS.reset, evt := EvtS.reset, upd := UpdS.reset, pmcs := PmcS.reset, free := 0 }

end Sys2Proof.Machine
end

