-- ==== Sys2Proof/Machine/RegOps.lean ====
section
/-! DEFINITION. The address map (R76, Table 4.4), reset words, and the one home of register words: reading and writing
a register word or a field of the sparse list `State.regs`. -/

namespace Sys2Proof.Machine
open Sys2Proof

/-- What an address names (Table 4.4). -/
inductive Loc where
  | page (pg : PageRef) (off : Nat)
  | window (n : Ch) (off : Nat)
  | bcast (off : Nat)
  | unmapped
  deriving DecidableEq, Repr

/-- The channel of an address at or above 0x10_0000. -/
def chOf (a : Nat) : Ch := Fin.ofNat 8 ((a - 0x100000) / 0x20000)

/-- R76: what an address names. -/
def locate (a : Nat) : Loc :=
  if a < 0x3C00 then .page ⟨sharedPages.getD (a / 0x400) .sys, 0⟩ (a % 0x400)
  else if a < 0x100000 then .unmapped
  else if a < 0x200000 then
    let o := (a - 0x100000) % 0x20000
    if o < 0x4400 then .page ⟨chanPages.getD (o / 0x400) .ch, chOf a⟩ (o % 0x400)
    else if o < 0x10000 then .unmapped
    else .window (chOf a) o
  else if a < 0x204400 then .bcast (a - 0x200000)
  else .unmapped

/-- Base address of a page instance. -/
def pageBase (pg : PageRef) : Nat := (if pg.page.isChan then chBase pg.ch else 0) + pageOff pg.page

/-- The channel of a page, or 0x00 for a shared page: PAGE_ID.INSTANCE (R77). -/
def instOf (pg : PageRef) : Nat := if pg.page.isChan then pg.ch.val else 0

/-- The register row and element that a page offset names. -/
def findIn (off : Nat) : List RegD → Option (RegD × Nat)
  | [] => none
  | d :: t =>
    if d.off ≤ off ∧ (off - d.off) % d.stride = 0 ∧ (off - d.off) / d.stride < d.count then
      some (d, (off - d.off) / d.stride)
    else findIn off t

/-- The register at an offset of a page: header (R78) or block register. -/
def findReg (p : Page) (off : Nat) : Option (RegD × Nat) :=
  if off < 0x20 then findIn off headerRegs else findIn off (pageRegs p)

/-- The bits of a register row with one of the given access types. -/
def maskOf (d : RegD) (ok : Acc → Bool) : Word :=
  d.fields.foldl (fun m f => if ok f.acc then m ||| fieldMask f.hi f.lo else m) 0

/-- The bits of a row kept in parameter MRAM. -/
def nvMaskOf (d : RegD) : Word := d.fields.foldl (fun m f => if f.nv then m ||| fieldMask f.hi f.lo else m) 0

/-- The reset word that a row's fields give. -/
def rowReset (d : RegD) : Word := d.fields.foldl (fun m f => m ||| BitVec.ofNat 32 (f.rst * 2 ^ f.lo)) 0

/-- Reset word of the register at an offset of a page (Tables of the chapters; R77, R63, perIndexReset). -/
def pageReset (pg : PageRef) (off : Nat) : Word :=
  if off = 0x000 then BitVec.ofNat 32 (pageType pg.page * 0x10000 + instOf pg * 0x100 + 0x01)
  else if off = 0x010 ∧ (pg.page = .sys ∨ pg.page = .ch) then 0x3E
  else match findReg pg.page off with
    | none => 0
    | some (d, k) =>
      match perIndexReset pg.page d.off k with
      | some v => BitVec.ofNat 32 v
      | none => rowReset d

/-- Reset word of the register at an address; an address without a register reads 0. -/
def resetWord (a : Nat) : Word :=
  match locate a with
  | .page pg off => pageReset pg off
  | _ => 0

/-- The bits of the register at an address that are kept in parameter MRAM. -/
def nvMask (a : Nat) : Word :=
  match locate a with
  | .page pg off => match findReg pg.page off with | some (d, _) => nvMaskOf d | none => 0
  | _ => 0

/-! ## Sparse canonical memories -/

/-- Read a sparse memory whose unlisted address a reads d a. -/
def sget (d : Nat → Word) : Mem → Nat → Word
  | [], a => d a
  | (k, v) :: t, a => if k = a then v else sget d t a

/-- Put an entry where the addresses keep rising. -/
def insertMem (a : Nat) (v : Word) : Mem → Mem
  | [] => [(a, v)]
  | (k, w) :: t => if a < k then (a, v) :: (k, w) :: t else (k, w) :: insertMem a v t

/-- Write a sparse memory: the address's entry goes, and the new word is listed unless it is the unlisted one; the form
stays canonical. -/
def sset (d : Nat → Word) (m : Mem) (a : Nat) (v : Word) : Mem :=
  let t := m.filter (fun p => p.1 != a)
  if v = d a then t else insertMem a v t

/-- The canonical form of a sparse memory: every address above `lo`, rising, no entry at its unlisted word. -/
def Mem.wfFrom (d : Nat → Word) : Option Nat → Mem → Bool
  | _, [] => true
  | none, (k, v) :: t => decide (v ≠ d k) && Mem.wfFrom d (some k) t
  | some b, (k, v) :: t => decide (b < k) && decide (v ≠ d k) && Mem.wfFrom d (some k) t

/-- The canonical form. -/
def Mem.wf (d : Nat → Word) (m : Mem) : Bool := Mem.wfFrom d none m

/-- The unlisted word of a plain memory (DESIGN CHOICE, log entry 3). -/
def zeroWord (_ : Nat) : Word := 0

/-- Read and write a plain word memory. -/
def mget (m : Mem) (a : Nat) : Word := sget zeroWord m a
def mset (m : Mem) (a : Nat) (v : Word) : Mem := sset zeroWord m a v

/-- Words lo, lo + 1, ... of a plain memory. -/
def mrange (m : Mem) (lo n : Nat) : List Word := (List.range n).map (fun i => mget m (lo + i))

/-! ## Registers -/

/-- The word of a register. -/
def State.reg (s : State) (a : Nat) : Word := sget resetWord s.regs a

/-- Write the word of a register; a register with bits kept in parameter MRAM becomes due for its copy (R60). -/
def State.setReg (s : State) (a : Nat) (v : Word) : State :=
  { s with
    regs := sset resetWord s.regs a v
    dirty := if nvMask a = 0 ∨ a ∈ s.dirty then s.dirty else a :: s.dirty }

/-- A field. -/
def State.get (s : State) (f : RF) : Nat := bitsOf (s.reg f.addr) f.hi f.lo

/-- Write a field (modulo its width); the register's other bits stay. -/
def State.put (s : State) (f : RF) (v : Nat) : State := s.setReg f.addr (putBits (s.reg f.addr) f.hi f.lo v)

/-- A one-bit field as a Bool, and writing one. -/
def State.flag (s : State) (f : RF) : Bool := s.get f == 1
def State.putB (s : State) (f : RF) (b : Bool) : State := s.put f (b2n b)

/-- A field read as signed. -/
def State.getS (s : State) (f : RF) : Int := signed (f.hi + 1 - f.lo) (s.get f)

/-- Write a field with a signed value. -/
def State.putI (s : State) (f : RF) (i : Int) : State := s.setReg f.addr (putBits (s.reg f.addr) f.hi f.lo (BitVec.ofInt 32 i).toNat)

/-- A count field raised by 1, saturating at its all-ones value. -/
def State.incSat (s : State) (f : RF) : State := s.put f (satInc (2 ^ (f.hi + 1 - f.lo) - 1) (s.get f))

/-- A channel's part of the state. -/
def State.ch (s : State) (n : Ch) : Chan := s.chans[n]

/-- Replace or change a channel's part. -/
def State.setCh (s : State) (n : Ch) (c : Chan) : State := { s with chans := s.chans.set n c }
def State.modCh (s : State) (n : Ch) (f : Chan → Chan) : State := s.setCh n (f (s.ch n))

/-- Offset of a header register in a page (R78). -/
def hdr (pg : PageRef) (off : Nat) : Nat := pageBase pg + off
def F.ENABLE (pg : PageRef) : RF := ⟨hdr pg 0x004, 0, 0⟩
def F.HOLDOVER (pg : PageRef) : RF := ⟨hdr pg 0x008, 4, 4⟩
def F.FAULT (pg : PageRef) : RF := ⟨hdr pg 0x008, 1, 1⟩
def F.COLLIDE (pg : PageRef) : RF := ⟨hdr pg 0x00C, 0, 0⟩
def R.IRQ_RAW (pg : PageRef) : Nat := hdr pg 0x00C
def R.IRQ_EN (pg : PageRef) : Nat := hdr pg 0x010
def R.IRQ_PEND (pg : PageRef) : Nat := hdr pg 0x014
def R.PAGE_SEQ (pg : PageRef) : Nat := hdr pg 0x018

/-- PAGE_CTRL.ENABLE of a page. -/
def State.enabled (s : State) (pg : PageRef) : Bool := s.flag (F.ENABLE pg)

/-- All channels. -/
def allCh : List Ch := [0, 1, 2, 3, 4, 5, 6, 7]

/-- Fold an operation over the channels in order. -/
def State.eachCh (s : State) (f : State → Ch → State) : State := allCh.foldl f s

end Sys2Proof.Machine
end

