-- ==== Sys2Proof/Machine/Traj.lean ====
section
/-! DEFINITION. Jerk-limited trajectories (R188 to R192): phases of constant jerk, their evaluation, the
time-optimal plan and the stop (log entries 5 and 24). -/

namespace Sys2Proof.Machine

/-- The limits VMAX, AMAX, JMAX of a plan. -/
structure Lim where
  v : Rat
  a : Rat
  j : Rat
  deriving DecidableEq, Repr

/-- The state after `t` seconds of jerk `j`. -/
def Kin.after (k : Kin) (j t : Rat) : Kin :=
  ⟨k.p + k.v * t + k.a * t * t / 2 + j * t * t * t / 6, k.v + k.a * t + j * t * t / 2, k.a + j * t⟩

/-- The state after all phases. -/
def Kin.run (k : Kin) : List Seg → Kin
  | [] => k
  | g :: t => (k.after g.j g.dur).run t

/-- The state `t` seconds into the phases; none once they have ended. -/
def Kin.atTime (k : Kin) : List Seg → Rat → Option Kin
  | [], _ => none
  | g :: l, t => if t < g.dur then some (k.after g.j t) else (k.after g.j g.dur).atTime l (t - g.dur)

/-- Total duration. -/
def segsDur (l : List Seg) : Rat := sumR (l.map (·.dur))

/-- The state of a plan at time-base time `tb`: after its last phase it rests at its target (R188). -/
def Plan.eval (pl : Plan) (tb : Nat) : Kin :=
  match pl.k0.atTime pl.segs (((tb - pl.t0 : Nat) : Rat) / 1000000000) with
  | some k => k
  | none => ⟨pl.target, 0, 0⟩

/-- A plan has reached its target. -/
def Plan.doneAt (pl : Plan) (tb : Nat) : Bool := segsDur pl.segs ≤ ((tb - pl.t0 : Nat) : Rat) / 1000000000

/-- Bring |a| inside AMAX at JMAX. -/
def aInside (k : Kin) (L : Lim) : List Seg :=
  if L.a < k.a then [⟨(k.a - L.a) / L.j, -L.j⟩]
  else if k.a < -L.a then [⟨(-L.a - k.a) / L.j, L.j⟩] else []

/-- The shortest phases from (v, a), |a| ≤ AMAX, to velocity v1 with a = 0. -/
def velSegs (v a v1 : Rat) (L : Lim) : List Seg :=
  let vz := v + a * absR a / (2 * L.j)
  let s : Rat := if vz ≤ v1 then 1 else -1
  let dv := s * (v1 - v)
  let a0 := s * a
  let ap := sqrtR (L.j * dv + a0 * a0 / 2)
  if ap ≤ L.a then [⟨(ap - a0) / L.j, s * L.j⟩, ⟨ap / L.j, -(s * L.j)⟩]
  else [⟨(L.a - a0) / L.j, s * L.j⟩, ⟨(dv - (2 * L.a * L.a - a0 * a0) / (2 * L.j)) / L.a, 0⟩, ⟨L.a / L.j, -(s * L.j)⟩]

/-- The phases that take a state to velocity v1 with a = 0, AMAX first. -/
def toVel (k : Kin) (v1 : Rat) (L : Lim) : List Seg :=
  let pre := aInside k L
  let k' := k.run pre
  pre ++ velSegs k'.v k'.a v1 L

/-- The phases of a stop: v and a to 0. -/
def stopSegs (k : Kin) (L : Lim) : List Seg := toVel k 0 L

/-- Where a stop ends (R191, stop_point), and its distance (stop_dist). -/
def stopPoint (k : Kin) (L : Lim) : Rat := (k.run (stopSegs k L)).p
def stopDist (k : Kin) (L : Lim) : Rat := absR (stopPoint k L - k.p)

/-- The phases through cruise velocity vc to rest. -/
def viaSegs (k : Kin) (vc : Rat) (L : Lim) : List Seg :=
  let up := toVel k vc L
  up ++ velSegs vc 0 0 L

/-- Where the phases through vc end. -/
def viaEnd (k : Kin) (vc : Rat) (L : Lim) : Rat := (k.run (viaSegs k vc L)).p

/-- Bisection for the largest x in [lo, hi] at which a rising end position has not passed the target. -/
def bisectEnd (f : Rat → Rat) (target : Rat) : Nat → Rat → Rat → Rat
  | 0, lo, _ => lo
  | n + 1, lo, hi =>
    let m := (lo + hi) / 2
    if f m ≤ target then bisectEnd f target n m hi else bisectEnd f target n lo m

/-- Raise the acceleration for t seconds, then stop. -/
def lateStop (k : Kin) (L : Lim) (t : Rat) : List Seg := ⟨t, L.j⟩ :: stopSegs (k.after L.j t) L

/-- The velocity at which the acceleration, brought to 0 at JMAX, leaves the state. -/
def Kin.vz (k : Kin) (L : Lim) : Rat := k.v + k.a * absR k.a / (2 * L.j)

/-- The time-optimal phases to a target at or beyond the stop point, |a| ≤ AMAX: cruise at VMAX where there is room;
else through the peak velocity, or, out of a deceleration under way, after the delay, whose stop ends at the target. -/
def fwdSegs (k : Kin) (target : Rat) (L : Lim) : List Seg :=
  let vz := k.vz L
  if viaEnd k L.v L < target then
    toVel k L.v L ++ [⟨(target - viaEnd k L.v L) / L.v, 0⟩] ++ velSegs L.v 0 0 L
  else if k.a < 0 ∧ 0 < vz ∧ target < viaEnd k vz L then
    lateStop k L (bisectEnd (fun t => (k.run (lateStop k L t)).p) target 40 0 (-k.a / L.j))
  else
    let lo := if 0 < vz ∧ vz ≤ L.v then vz else 0
    viaSegs k (bisectEnd (fun v => viaEnd k v L) target 40 lo L.v) L

/-- A state and a phase seen in the other direction. -/
def Kin.neg (k : Kin) : Kin := ⟨-k.p, -k.v, -k.a⟩
def Seg.neg (g : Seg) : Seg := ⟨g.dur, -g.j⟩

/-- The time-optimal phases to a target (R188): AMAX first; then forward to a target at or beyond the stop point, and
the same in the other direction to one before it. -/
def optSegs (k : Kin) (target : Rat) (L : Lim) : List Seg :=
  if k.p = target ∧ k.v = 0 ∧ k.a = 0 then []
  else
    let pre := aInside k L
    let k' := k.run pre
    pre ++ (if stopPoint k' L ≤ target then fwdSegs k' target L
      else (fwdSegs k'.neg (-target) L).map Seg.neg)

/-- The time-optimal plan from a state. -/
def optPlan (tb : Nat) (k : Kin) (target : Rat) (L : Lim) : Plan := ⟨tb, k, optSegs k target L, target⟩

/-- A stop, then the way back to the target (R191). -/
def stopThenReturn (tb : Nat) (k : Kin) (target : Rat) (L : Lim) : Plan :=
  let st := stopSegs k L
  ⟨tb, k, st ++ optSegs ⟨(k.run st).p, 0, 0⟩ target L, target⟩

/-- A stop as a plan; its target is the stop point. -/
def stopPlan (tb : Nat) (k : Kin) (L : Lim) : Plan := ⟨tb, k, stopSegs k L, stopPoint k L⟩

/-- A plan that holds a position. -/
def holdPlan (tb : Nat) (p : Rat) : Plan := ⟨tb, ⟨p, 0, 0⟩, [], p⟩

/-- A stop from this state would end beyond the target, on the far side from p (R192). -/
def crosses (k : Kin) (target : Rat) (L : Lim) : Bool :=
  (k.p ≤ target && target < stopPoint k L && 0 < k.v) || (target ≤ k.p && stopPoint k L < target && k.v < 0)

end Sys2Proof.Machine
end

