-- ==== Sys2Proof/Machine/Ops.lean ====
section
/-! DEFINITION. The named operations that every block uses: time, the event recorder (R344 to R350) and interrupt
sources (R74, R347). -/

namespace Sys2Proof.Machine
open Sys2Proof

/-- A status and the state it leaves. -/
abbrev Res := Status × State

/-- The answer of a command: the result of its one operation is kept in `last`; every command goes on. -/
def answer (r : Res) : Host.Outcome State Fault Refusal :=
  .next { r.2 with last := ⟨r.1, if r.1 = .ok then 1 else 0, false, 0, []⟩ }

/-- An event of the module itself: it leaves no operation result. -/
def happen (s : State) : Host.Outcome State Fault Refusal := .next s

/-- A refusal of an access: nothing changes (R10). -/
def refuse (st : Status) (s : State) : Res := (st, s)

/-! ## Time (R11, R304) -/

/-- The plant-time epoch number (R11); plant time is held in ns. -/
def State.ep (s : State) : Nat := s.clock.plant / 1000000 % 2 ^ 48

/-- Its low 32 bits. -/
def State.ep32 (s : State) : Word := BitVec.ofNat 32 s.ep

/-- Plant time since the epoch's start, in ns. -/
def State.inEpoch (s : State) : Nat := s.clock.plant % 1000000

/-- Time-base time in ns. -/
def State.tb (s : State) : Nat := s.clock.tb

/-- `ms` time-base milliseconds have passed since time-base time `t`. -/
def State.passedMs (s : State) (t ms : Nat) : Bool := ms * 1000000 ≤ s.tb - t

/-- Plant time is locked (R309). -/
def State.locked (s : State) : Bool := s.flag F.PTP_STAT_LOCKED

/-- One tick of the clocks: 1 µs of time-base time and of plant time (DESIGN CHOICE, log entry 1). -/
def State.tick (s : State) : State :=
  { s with clock := { s.clock with tb := s.clock.tb + 1000, plant := s.clock.plant + 1000 } }

/-! ## Modes and channel states -/

/-- The module mode (Table 3.1) and a channel's state (Table 3.4). -/
def State.mode (s : State) : Nat := s.get F.SYS_STAT_MODE
def State.chState (s : State) (n : Ch) : Nat := s.get (F.CH_STATE_STATE n)

/-- CH.STATE codes (Table 3.5a). -/
abbrev stISOLATED : Nat := 0
abbrev stPRECHARGE : Nat := 1
abbrev stCONNECTED : Nat := 2
abbrev stDERATED : Nat := 3
abbrev stSTOPPING : Nat := 4
abbrev stTRIPPED : Nat := 5
abbrev stLOCKOUT : Nat := 6

/-- Mode codes (Table 3.1). -/
abbrev mDECAF : Nat := 0
abbrev mBOOT : Nat := 1
abbrev mSTANDBY : Nat := 2
abbrev mRUN : Nat := 3
abbrev mLIMP : Nat := 4
abbrev mHALT : Nat := 5

/-- CONNECTED or DERATED. -/
def State.energised (s : State) (n : Ch) : Bool := s.chState n == stCONNECTED || s.chState n == stDERATED

/-! ## Event recorder -/

/-- Capacity of the recorder and of its staging buffer (R349, R350). -/
def evtCap : Nat := 131072
def evtStageCap : Nat := 1024

/-- Records stored and staged. -/
def EvtS.count (e : EvtS) : Nat := e.stored.length + e.staged.length

/-- The number after a sequence number; 0 is skipped (R345). -/
def nextSeqOf (q : Word) : Word := if q + 1 = 0 then 1 else q + 1

/-- Operating time in ms at time-base time `tb` (R346). -/
def EvtS.opNow (e : EvtS) (tb : Nat) : Nat := min (2 ^ 40 - 1) (e.optime + (tb - e.opBase) / 1000000)

/-- Every staged record goes to MRAM (R349). -/
def EvtS.flush (e : EvtS) : EvtS := { e with stored := e.stored ++ e.staged, staged := [], nextSaved := e.nextSeq }

/-- Set an interrupt source: IRQ_RAW, and IRQ_PEND on a rising edge of an enabled source (R74; DEDUCED, log entry 15).
The answer says whether the bit became pending. -/
def State.irqEdge (s : State) (pg : PageRef) (b : Nat) : State × Bool :=
  let s1 := s.setReg (R.IRQ_RAW pg) (s.reg (R.IRQ_RAW pg) ||| BitVec.ofNat 32 (2 ^ b))
  if bit (s.reg (R.IRQ_EN pg)) b && !bit (s.reg (R.IRQ_PEND pg)) b then
    (s1.setReg (R.IRQ_PEND pg) (s1.reg (R.IRQ_PEND pg) ||| BitVec.ofNat 32 (2 ^ b)), true)
  else (s1, false)

/-- A NOTIFY record falls due (R75). -/
def State.notify (s : State) (pg : PageRef) (b : Nat) (seq : Word) : State :=
  { s with notifies := s.notifies ++ [⟨pageBase pg, BitVec.ofNat 32 (2 ^ b), s.ep32, seq⟩] }

/-- A source of the EVT page: it records nothing (R347, R354). -/
def State.raiseEvt (s : State) (b : Nat) : State :=
  let r := s.irqEdge ⟨.evt, 0⟩ b
  if r.2 then r.1.notify ⟨.evt, 0⟩ b 0 else r.1

/-- The recorder with one more record, which takes the next sequence number; a FAULT or a higher severity, and a full
staging buffer, flush while VHOLD allows it (R345, R349). -/
def EvtS.push (e : EvtS) (vhold : Bool) (r : EventRec) : EvtS :=
  let base := if evtStageCap ≤ e.staged.length then e.flush else e
  let e1 := { base with staged := base.staged ++ [{ r with seq := e.nextSeq }], nextSeq := nextSeqOf e.nextSeq, clean := false }
  if 3 ≤ r.sev ∧ vhold then e1.flush else e1

/-- No room for a record: the log is full, or the staging buffer is and VHOLD lets no flush start (R350, R61). -/
def State.evtFull (s : State) : Bool :=
  decide (evtCap ≤ s.evt.count) || (decide (evtStageCap ≤ s.evt.staged.length) && !s.sup.vholdOk)

/-- A record is stored, or dropped when there is no room (R345, R349, R350). The answer carries its number, 0 when
dropped. -/
def State.stage (s : State) (r : EventRec) : State × Word :=
  if s.evtFull then
    let s1 := { s with evt := { s.evt with dropped := satInc (2 ^ 32 - 1) s.evt.dropped } }
    (if s.evt.dropped = 0 then s1.raiseEvt 3 else s1, 0)
  else
    let s1 := { s with evt := s.evt.push s.sup.vholdOk r }
    let s2 := if evtCap ≤ s1.evt.count then s1.raiseEvt 2 else s1
    (if r.sev = 4 then s2.raiseEvt 4 else s2, s.evt.nextSeq)

/-- Record an event (R344 to R350). While the supervisor restarts, records wait with their time and epoch (R368). -/
def State.record (s : State) (code chan sev : Nat) (p0 p1 p2 : Word) : State × Word :=
  let e := s.evt
  let r : EventRec := ⟨0, code, chan, sev, e.opNow s.tb, e.pcc, p0, p1, p2, s.ep32⟩
  if s.sup.restarting then ({ s with evt := { e with defer := e.defer ++ [r] } }, 0) else s.stage r

/-- Record an event and drop its number. -/
def State.log (s : State) (code chan sev : Nat) (p0 p1 p2 : Word) : State := (s.record code chan sev p0 p1 p2).1

/-- The block byte of a page in event codes (Event codes; PAGE_ID.TYPE's low byte, bit 7 set for a channel page). -/
def blockByte (pg : PageRef) : Nat := pageType pg.page % 256 + (if pg.page.isChan then 128 else 0)

/-- CHANNEL of an event of a page (Table 19.1). -/
def evtChan (pg : PageRef) : Nat := if pg.page.isChan then pg.ch.val else 0xF

/-- An event without a fixed code, about the register at an offset of a page (R348). -/
def State.logReg (s : State) (pg : PageRef) (off : Nat) : State :=
  s.log (blockByte pg * 256 + 0x7F) (evtChan pg) 1 (BitVec.ofNat 32 off) (s.reg (hdr pg off)) 0

/-- An event without a fixed code that concerns no register (R348). -/
def State.logNone (s : State) (pg : PageRef) : State :=
  s.log (blockByte pg * 256 + 0x7F) (evtChan pg) 1 0 0 0

/-- An interrupt source occurs: the source, its event and the NOTIFY record with the event's number (R74, R347). -/
def State.raise (s : State) (pg : PageRef) (b : Nat) : State :=
  let r := s.irqEdge pg b
  if r.2 then
    if pg.page = .evt then r.1.notify pg b 0
    else
      let q := r.1.record (blockByte pg * 256 + b) (evtChan pg) (if b = 1 then 3 else 1) (BitVec.ofNat 32 (2 ^ b))
        (BitVec.ofNat 32 (pageBase pg)) 0
      q.1.notify pg b q.2
  else r.1

/-- A draw of a free word (DESIGN CHOICE, log entry 7). -/
def State.draw (s : State) : Word × State := (Config.freeWord s.free, { s with free := s.free + 1 })

/-! ## Lists of words in registers -/

/-- Registers k = 0, 1, ... of an array take the words given. -/
def State.setRegs (s : State) (f : Nat → Nat) (l : List Word) : State :=
  (List.zip (List.range l.length) l).foldl (fun t p => t.setReg (f p.1) p.2) s

/-- Send something out of the module. -/
def State.emit (s : State) (m : OutMsg) : State := { s with outbox := s.outbox ++ [m] }

/-- Send a TWIN message (R330, Table 18.3). -/
def State.twinSend (s : State) (type : Nat) (payload : List Nat) : State := s.emit (.twin type (s.ep % 2 ^ 32) payload)

end Sys2Proof.Machine
end

