-- ==== Sys2Proof/Machine/Flags.lean ====
section
/-! DEFINITION. Flag computations: the PAGE_STAT.FAULT level with its interrupt (R78), level bits of a mask register,
and the fields whose set marks an interrupt. -/

namespace Sys2Proof.Machine
open Sys2Proof

/-- Set PAGE_STAT.FAULT of a page to a level; IRQ_RAW bit 1 is its copy (Tables 4.7, 4.8), and its rising edge is an
interrupt source. Which faults drive it: DEDUCED, log entry 76. -/
def State.pageFault (s : State) (pg : PageRef) (on : Bool) : State :=
  let was := s.flag (F.FAULT pg)
  let s1 := s.putB (F.FAULT pg) on
  if on then (if was then s1 else s1.raise pg 1)
  else s1.setReg (R.IRQ_RAW pg) (s1.reg (R.IRQ_RAW pg) &&& ~~~(2 : Word))

/-- Write bit i of a field taken as a mask. -/
def State.putBit (s : State) (f : RF) (i : Nat) (b : Bool) : State :=
  s.setReg f.addr (putBits (s.reg f.addr) (f.lo + i) (f.lo + i) (b2n b))

/-- Bit i of a field taken as a mask. -/
def State.getBit (s : State) (f : RF) (i : Nat) : Bool := bit (s.reg f.addr) (f.lo + i)

/-- Set a flag field; its 0 to 1 change raises a source. -/
def State.setRaise (s : State) (f : RF) (pg : PageRef) (b : Nat) : State :=
  if s.flag f then s else (s.putB f true).raise pg b

/-- A collision under R82 (Table 4.8): COLLIDE stays until IRQ_PEND bit 0 is written, so a second collision before
then is no edge. -/
def State.collide (s : State) (pg : PageRef) : State :=
  if s.flag (F.COLLIDE pg) then s else s.raise pg 0

/-- IRQ_PEND written (R74, Tables 4.8, 4.10): ones clear pending bits and let event sources rise again (DEDUCED, log entry
15); FAULT, a level, keeps its IRQ_RAW bit. -/
def State.pendClear (s : State) (pg : PageRef) (v : Word) : State :=
  let s1 := s.setReg (R.IRQ_PEND pg) (s.reg (R.IRQ_PEND pg) &&& ~~~v)
  s1.setReg (R.IRQ_RAW pg) (s1.reg (R.IRQ_RAW pg) &&& ~~~(v &&& ~~~(2 : Word)))

end Sys2Proof.Machine
end

