-- ==== Sys2Proof/Machine/Chan.lean ====
section
/-! DEFINITION. Channel states, degradation causes, trips (R251, R266 to R269), module modes, HALT and LIMP (R48 to
R58), and the stage-3 current limits (R170). -/

namespace Sys2Proof.Machine
open Sys2Proof

def pgCH (n : Ch) : PageRef := ⟨.ch, n⟩
def pgRING (n : Ch) : PageRef := ⟨.ring, n⟩
def pgPOUR (n : Ch) : PageRef := ⟨.pour, n⟩
def pgCDIAG (n : Ch) : PageRef := ⟨.cdiag, n⟩
def pgBAL (n : Ch) : PageRef := ⟨.bal, n⟩
def pgCTLE (n : Ch) : PageRef := ⟨.ctle, n⟩
def pgPROF (n : Ch) : PageRef := ⟨.prof, n⟩
def pgVAX (n : Ch) : PageRef := ⟨.vax, n⟩
def pgIMP (n : Ch) : PageRef := ⟨.imp, n⟩
def pgEST (n : Ch) : PageRef := ⟨.est, n⟩
def pgSAFE (n : Ch) : PageRef := ⟨.safe, n⟩
def pgCONT (n : Ch) : PageRef := ⟨.cont, n⟩
def pgPERC (n : Ch) : PageRef := ⟨.perc, n⟩
def pgFIFO (n : Ch) : PageRef := ⟨.fifo, n⟩
def pgPMC (n : Ch) : PageRef := ⟨.pmc, n⟩
def pgSYS : PageRef := ⟨.sys, 0⟩
def pgHOST : PageRef := ⟨.host, 0⟩
def pgSNAP : PageRef := ⟨.snap, 0⟩
def pgPANEL : PageRef := ⟨.panel, 0⟩
def pgPTP : PageRef := ⟨.ptp, 0⟩
def pgCAN : PageRef := ⟨.can, 0⟩
def pgALLOC : PageRef := ⟨.alloc, 0⟩
def pgTHERM : PageRef := ⟨.therm, 0⟩
def pgEVT : PageRef := ⟨.evt, 0⟩
def pgUPD : PageRef := ⟨.upd, 0⟩
def pgSEC : PageRef := ⟨.sec, 0⟩
def pgTWIN : PageRef := ⟨.twin, 0⟩
def pgHLTH : PageRef := ⟨.hlth, 0⟩
def pgPMCS : PageRef := ⟨.pmcs, 0⟩
def pgTEST : PageRef := ⟨.test, 0⟩

/-! ## Parts of a channel -/

def State.modRing (s : State) (n : Ch) (f : RingS → RingS) : State := s.modCh n (fun c => { c with ring := f c.ring })
def State.modPour (s : State) (n : Ch) (f : PourS → PourS) : State := s.modCh n (fun c => { c with pour := f c.pour })
def State.modFifo (s : State) (n : Ch) (f : FifoS → FifoS) : State := s.modCh n (fun c => { c with fifo := f c.fifo })
def State.modCdiag (s : State) (n : Ch) (f : CdiagS → CdiagS) : State :=
  s.modCh n (fun c => { c with cdiag := f c.cdiag })
def State.modBal (s : State) (n : Ch) (f : BalS → BalS) : State := s.modCh n (fun c => { c with bal := f c.bal })
def State.modCtle (s : State) (n : Ch) (f : CtleS → CtleS) : State := s.modCh n (fun c => { c with ctle := f c.ctle })
def State.modProf (s : State) (n : Ch) (f : ProfS → ProfS) : State := s.modCh n (fun c => { c with prof := f c.prof })
def State.modVax (s : State) (n : Ch) (f : VaxS → VaxS) : State := s.modCh n (fun c => { c with vax := f c.vax })
def State.modImp (s : State) (n : Ch) (f : ImpS → ImpS) : State := s.modCh n (fun c => { c with imp := f c.imp })
def State.modEst (s : State) (n : Ch) (f : EstS → EstS) : State := s.modCh n (fun c => { c with est := f c.est })
def State.modSafe (s : State) (n : Ch) (f : SafeS → SafeS) : State := s.modCh n (fun c => { c with safe := f c.safe })
def State.modPerc (s : State) (n : Ch) (f : PercS → PercS) : State := s.modCh n (fun c => { c with perc := f c.perc })
def State.modTwin (s : State) (n : Ch) (f : TwinCh → TwinCh) : State := s.modCh n (fun c => { c with twin := f c.twin })

/-- A channel wired as a twin channel (R323, as far as this module knows it). -/
def State.twinCh (s : State) (n : Ch) : Bool := s.flag (F.RING_CTRL_TOPO n)

/-- The module is in twin configuration: some channel is. -/
def State.twinConf (s : State) : Bool := allCh.any (fun n => s.twinCh n)

/-- The PWM is inhibited (R162, R167): no law runs, no following error is timed (R183), no run of late samples stands
(R166), and the generator's output is zero until the next enable restarts it (R193). -/
def State.pwmOff (s : State) (n : Ch) : State :=
  let s := (s.modCtle n (fun c => { c with enabled := false, feSince := none, lateRun := 0 })).modProf n (fun p =>
    { p with curOn := false })
  let s := ((s.putB (F.CTLE_STAT_INHIBIT n) true).put (F.CTLE_STAT_LAW n) 0).putB (F.CTLE_STAT_FE_PRE n) false
  (s.put (F.PROF_STAT_CUR_SRC n) 0).setReg (R.PROF_CUR_OUT n) 0

/-- The profile's valve state now. -/
def State.vkin (s : State) (n : Ch) : Kin := (s.ch n).prof.vlv.eval s.tb

/-- The axis holds the position p with v = a = 0. -/
def State.vlvHold (s : State) (n : Ch) (p : Rat) : State :=
  ((s.modProf n (fun q => { q with vlv := holdPlan s.tb p, vWrT := [], vWrL := [], vStop := none })).putB
    (F.PROF_STAT_VLV_BUSY n) false).putB (F.PROF_STAT_VLV_DEFERRED n) false

/-- Coils off; HOMED is cleared (R197). -/
def State.coilsOff (s : State) (n : Ch) : State :=
  let s := ((s.putB (F.VAX_STAT_ENERGISED n) false).putB (F.VAX_STAT_HOMED n) false).putB (F.VAX_STAT_HOMING n) false
  let s := (s.putB (F.VAX_STAT_MOVING n) false).putB (F.VAX_STAT_STANDSTILL n) false
  (s.vlvHold n (s.vkin n).p).modVax n (fun x => { x with phase := .none })

/-- A WR_REG of BAL_DUTY to all tiles, every duty 0. -/
def zeroDutyFrame : CmdFrame := ⟨3, 4, 0xFF, [0x00, 0x30] ++ List.replicate 32 0⟩

/-- Zero duties to every tile, and no new settings (R155). -/
def State.balZero (s : State) (n : Ch) : State :=
  (s.modBal n (fun b => { b with duty := [], hset := [], want := [] })).modRing n (fun r =>
    { r with queue := r.queue.filter (fun f => f.payload.take 2 != [0x00, 0x30]) ++ [zeroDutyFrame] })

/-- The Percolator leaves RUN or HOLD for STOP with a cause of Table 16.7 (R292). -/
def State.percStop (s : State) (n : Ch) (cause : Nat) : State :=
  if s.get (F.PERC_STAT_MODE n) = 0 then s else
  let s1 := (s.put (F.PERC_STAT_MODE n) 0).put (F.PERC_STAT_CAUSE n) cause
  let s2 := (s1.modPerc n (fun p => { p with latched := [], running := [], freeOut := [] })).modRing n
    (fun r => { r with queue := r.queue.filter (fun f => f.cls != 2) })
  if cause = 1 ∨ cause = 2 then
    ((s2.incSat (F.PERC_CNT_OVERRUNS n)).logReg (pgPERC n) 0x024).raise (pgPERC n) 2
  else if cause = 3 then (s2.logReg (pgPERC n) 0x024).raise (pgPERC n) 2
  else s2

/-- A page presents data of an epoch: PAGE_SEQ and PAGE_STAT.HOLDOVER (R13, R390, Table 4.7). -/
def State.seqPage (s : State) (pg : PageRef) (epoch : Nat) (holdover : Bool) : State :=
  (s.setReg (R.PAGE_SEQ pg) (BitVec.ofNat 32 epoch)).putB (F.HOLDOVER pg) holdover

/-! ## Module modes (R48 to R51, R57) -/

/-- A mode change with its source and event. -/
def State.setMode (s : State) (m : Nat) : State :=
  let old := s.mode
  if old = m then s else
  ((s.put F.SYS_STAT_MODE m).raise pgSYS 2).log 0x0141 0xF (if m = mHALT ∨ m = mLIMP then 4 else 0)
    (BitVec.ofNat 32 old) (BitVec.ofNat 32 m) (if m = mHALT then BitVec.ofNat 32 (s.get F.SYS_STAT_HALT_CAUSE) else 0)

/-- SYS.STAT.BOOT_STEP goes on to a step of Table 3.3 that something has shown to be in progress (R54, log entry 22). -/
def State.bootShow (s : State) (k : Nat) : State :=
  if s.mode = mBOOT ∧ s.get F.SYS_STAT_BOOT_STEP < k then s.put F.SYS_STAT_BOOT_STEP k else s

/-- SYS.STAT.OPLVL changes (R50). -/
def State.setOplvl (s : State) (l : Nat) : State :=
  if s.get F.SYS_STAT_OPLVL = l then s else (s.put F.SYS_STAT_OPLVL l).raise pgSYS 2

/-- R50: in RUN with OPLVL STANDBY, the mode changes when no channel is left energised or stopping. -/
def State.standbyCheck (s : State) : State :=
  if s.mode = mRUN ∧ s.get F.SYS_STAT_OPLVL = 2 ∧
      allCh.all (fun n => s.chState n == stISOLATED || s.chState n == stTRIPPED || s.chState n == stLOCKOUT) then
    s.setMode mSTANDBY
  else s

/-! ## Channel states (R52) -/

/-- The degradation timer in ms (R267). -/
def State.degNow (s : State) (n : Ch) : Nat :=
  let f := (s.ch n).safe
  match f.degSince with
  | some t => f.degMs + (s.tb - t) / 1000000
  | none => f.degMs

/-- An epoch of the channel is being sampled, swept or delivered. -/
def PourS.busy (p : PourS) : Bool := p.on && ((p.sampled && !p.closed) || p.pending)

/-- Pour stops on a channel (R58, R128): no rest point runs over epochs that are not sampled (R234); every STATION_OK
bit of the Percolator's input image reads 0 (R294, R303); a disabled ring enters OFF with it (Table 4.19). -/
def State.pourStop (s : State) (n : Ch) : State :=
  let ok := (s.ch n).perc.image.getD 2 0
  let s := s.modPour n (fun p => { p with on := false, stopPending := false, run := 0 })
  let s := s.modEst n (fun e => { e with restT0 := none })
  let s := s.modPerc n (fun p => { p with running := [] })
  let s := if s.enabled (pgRING n) then s else s.put (F.RING_STAT_STATE n) 0
  if ok = 0 then s
  else (s.modPerc n (fun p => { p with image := setAt 0 p.image 2 0 })).raise (pgPERC n) 3

/-- A channel on the old image begins its reload on entry into ISOLATED (R369): its ring stops. -/
def State.reloadCheck (s : State) (n : Ch) : State :=
  if s.getBit F.UPD_STAT_CH_OLD n.val then
    ((s.modSafe n (fun f => { f with reloading := true })).put (F.RING_STAT_STATE n) 0).pourStop n
  else s

/-- The BRIDGE of a channel (R336). -/
def State.setBridge (s : State) (n : Ch) (on : Bool) : State :=
  (s.putBit F.TWIN_STAT_BRIDGE n.val on).putB (F.CONT_STAT_BRIDGE_ON n) on

/-- The partner reports HALT or DECAF (R335, R336). -/
def State.partnerDown (s : State) : Bool :=
  s.twin.everHb && (s.get F.TWIN_STAT_PMODE == mHALT || s.get F.TWIN_STAT_PMODE == mDECAF)

/-- A channel enters a state: CH.STATE, its sources and event, and what the entry itself does (R52, R63, R193, R155,
R264, R267, R292, R369, Table 2.8). -/
def State.enterState (s : State) (n : Ch) (new cause : Nat) : State :=
  let old := s.chState n
  if old = new then s else
  let s := (s.put (F.CH_STATE_PREV n) old).put (F.CH_STATE_STATE n) new
  let s := if new = stTRIPPED ∨ new = stDERATED ∨ new = stSTOPPING then s.put (F.CH_STATE_CAUSE n) cause else s
  let s := s.raise (pgCH n) 2
  let s := if old = stLOCKOUT ∨ new = stLOCKOUT then s.raise (pgCH n) 5 else s
  let s := s.log 0x8140 n.val (if new = stTRIPPED ∨ new = stDERATED then 3 else 0)
    (BitVec.ofNat 32 (old * 16 + new)) (BitVec.ofNat 32 (s.get (F.CH_STATE_CAUSE n))) 0
  let s := s.putBit F.PANEL_STAT_LOCKOUT n.val (new == stLOCKOUT)
  let s := if new = stPRECHARGE then s else s.put (F.CONT_STAT_STEP n) 0
  let s := if new = stSTOPPING ∨ new = stTRIPPED ∨ new = stISOLATED ∨ new = stLOCKOUT then
    (s.setReg (R.PROF_CUR_TARGET n) 0).modCtle n (fun c => { c with wrTarget := [] }) else s
  let s := if new = stTRIPPED ∨ new = stLOCKOUT then s.balZero n else s
  let s := if new = stTRIPPED ∨ new = stLOCKOUT ∨ new = stISOLATED then s.pwmOff n else s
  let s := s.modSafe n (fun f =>
    { f with
      degMs := if new = stISOLATED then 0 else (match f.degSince with
        | some t => f.degMs + (s.tb - t) / 1000000
        | none => f.degMs)
      degSince := if new = stDERATED then some s.tb else none })
  let s := if new = stSTOPPING then s.modProf n (fun p => { p with stopAt := some s.tb, curSince := s.tb }) else s
  let s := if old = stISOLATED ∧ s.get (F.PERC_STAT_MODE n) = 2 then s.percStop n 3 else s
  let s := if new = stISOLATED then s.reloadCheck n else s
  let s := if new = stISOLATED ∧ !s.partnerDown ∧ s.flag (F.CONT_STAT_BRIDGE_ON n) then s.setBridge n false else s
  s.standbyCheck

/-! ## Degradation causes (R266 to R268, Table 14.4): bit 0 SI_LINE, 1 I_PATH, 2 WIRE_SUSPECT, 3 LIMP -/

def State.setCause (s : State) (n : Ch) (i : Nat) (on : Bool) : State :=
  if s.getBit (F.SAFE_DEG_STAT_CAUSES n) i = on then s else
  let s := s.putBit (F.SAFE_DEG_STAT_CAUSES n) i on
  if on then
    let s := s.raise (pgSAFE n) 3
    if s.chState n = stCONNECTED then s.enterState n stDERATED (0x40 + i) else s
  else if s.get (F.SAFE_DEG_STAT_CAUSES n) = 0 then
    let s := s.putB (F.SAFE_DEG_STAT_EXPIRED n) false
    if s.chState n = stDERATED then s.enterState n stCONNECTED 0 else s
  else s

/-! ## Trips (R251, R269) -/

/-- TRIPREC as the trip writes it. -/
def tripWord (cause path param : Nat) : Word := BitVec.ofNat 32 (cause * 2 ^ 24 + path * 2 ^ 16 + param)

/-- The end, or the going on, of an isolate sequence at a trip (R36, R45, R46). -/
def State.isolateAtTrip (s : State) (n : Ch) (cause : Nat) : State :=
  s.modSafe n (fun f =>
    if f.isolating then
      if cause = 0x08 ∨ cause = 0x09 ∨ cause = 0x18 then { f with isolating := false, isoWait := false }
      else if f.isoWait then f else { f with isoWait := true, stepAt := s.tb }
    else f)

/-- A trip decision: inhibit, TRIPPED, record (R251 steps 1 and 2, R269). LOCKOUT knows no trip; in TRIPPED the cause
is recorded as an event only. TRIP_OPEN does step 3. -/
def State.trip (s : State) (n : Ch) (cause path param : Nat) : State :=
  if s.chState n = stLOCKOUT then s
  else if s.chState n = stTRIPPED then
    (s.log 0x8D41 n.val 1 (BitVec.ofNat 32 cause) 0 0).isolateAtTrip n cause
  else
    let s := (s.putB (F.CONT_STAT_INHIBIT n) true).pwmOff n
    let s := (s.setReg (R.SAFE_TRIPREC n) (tripWord cause path param)).setReg (R.SAFE_TRIPEPOCH n) s.ep32
    let s := s.modSafe n (fun f =>
      { f with tripAt := some s.tb, tripTb := s.tb, tripEpoch := s.ep, acked := false, delivs := 0 })
    let s := s.raise (pgSAFE n) 2
    let s := s.log 0x8D40 n.val 3 (tripWord cause path param) s.ep32 0
    let s := s.enterState n stTRIPPED cause
    let s := s.isolateAtTrip n cause
    if s.twinCh n then s.twinSend 2 [1, n.val, cause, path] else s

/-- A trip without path or parameter. -/
def State.tripC (s : State) (n : Ch) (cause : Nat) : State := s.trip n cause 0 0

/-! ## HALT and LIMP (R57, R58) -/

/-- The actions of entering HALT with a cause of Table 3.5 (R58, R197, R292); a mode that is already HALT keeps its cause. -/
def State.enterHalt (s : State) (cause : Nat) : State :=
  if s.mode = mHALT ∨ s.mode = mDECAF then s else
  let s := s.put F.SYS_STAT_HALT_CAUSE cause
  let s := { s with
    sup := { s.sup with haltLatch := true, haltCause := cause, haltAt := some s.tb }
    panel := { s.panel with screen := .final mHALT cause } }
  let s := s.eachCh (fun t n => (((t.tripC n 0x17).pourStop n).percStop n 4).coilsOff n)
  s.setMode mHALT

/-- A masked internal fault (R57): LIMP from STANDBY and RUN, at the end of BOOT from BOOT; HALT and DECAF drop it with
an event (R51). -/
def State.limp (s : State) : State :=
  if s.mode = mHALT ∨ s.mode = mDECAF then s.logNone pgSYS
  else
    let s := s.setRaise F.SYS_STAT_REPLACE_REQUEST pgSYS 4
    if s.mode = mSTANDBY ∨ s.mode = mRUN then s.setMode mLIMP
    else if s.mode = mBOOT then { s with sup := { s.sup with rebootFault := true } }
    else s

/-! ## Stage-3 limits (R170, R242, R243, R266, R280), in A -/

/-- The rated current, A (CTLE.STAGE.IRATED). -/
def State.irated (s : State) (n : Ch) : Rat := (s.get (F.CTLE_STAGE_IRATED n) : Rat)

/-- The rated capacity C of the channel, Ah: Q_NOM of the committed chemistry set (R222). -/
def State.cRated (s : State) (n : Ch) : Rat := f32D (mget (s.ch n).est.chem 1)

/-- The limit of the degradation causes; IRATED without one (Table 14.4). -/
def State.degLimit (s : State) (n : Ch) : Rat :=
  let half := if s.getBit (F.SAFE_DEG_STAT_CAUSES n) 0 || s.getBit (F.SAFE_DEG_STAT_CAUSES n) 1 ||
    s.getBit (F.SAFE_DEG_STAT_CAUSES n) 3 then s.irated n / 2 else s.irated n
  if s.getBit (F.SAFE_DEG_STAT_CAUSES n) 2 then minR half (s.cRated n / 5) else half

/-- The allocator's limits: IRATED in OFF, else those of its last run (R242, R243). -/
def State.allocChg (s : State) (n : Ch) : Rat :=
  if s.alloc.modeNow = 0 then s.irated n else s.alloc.limChg.getD n.val (s.irated n)
def State.allocDis (s : State) (n : Ch) : Rat :=
  if s.alloc.modeNow = 0 then s.irated n else s.alloc.limDis.getD n.val (s.irated n)

/-- ilim_chg and ilim_dis of stage 3. -/
def State.ilimChg (s : State) (n : Ch) : Rat :=
  minR (minR (s.irated n) (s.allocChg n)) (minR ((s.ch n).ctle.thChg : Rat) (s.degLimit n))
def State.ilimDis (s : State) (n : Ch) : Rat :=
  minR (minR (s.irated n) (s.allocDis n)) (minR ((s.ch n).ctle.thDis : Rat) (s.degLimit n))

end Sys2Proof.Machine
end

