-- ==== Sys2Proof/Machine/Gate.lean ====
section
/-! DEFINITION. The checks that every register write passes before its own: session, mode, provisioning, Percolator
rules, standby rules, access types, locks and RW-I (R9, R48, R84, R296, R329, R375, R392), and the write of plain
fields. -/

namespace Sys2Proof.Machine
open Sys2Proof

/-- An open session by its handle. -/
def State.session (s : State) (sid : Nat) : Option Session := s.sessions.find? (fun x => x.sid == sid)

/-- The source holds service privilege (R66); units of the module itself are not host sessions. -/
def State.service (s : State) : Src → Bool
  | .session i => match s.session i with | some x => x.port == .service | none => false
  | .perc _ _ => false
  | .unit => true

/-- The identity of a source. -/
def State.identOf (s : State) : Src → Option Ident
  | .session i => (s.session i).map (·.ident)
  | _ => none

/-- Arbitration rank of a source (Table 4.13). -/
def State.rankOf (s : State) : Src → Nat
  | .unit => 2
  | .perc _ true => 3
  | .perc _ false => 4
  | .session i => match s.session i with
    | some x => match x.port with | .plantA => 5 | .plantB => 6 | .service => 8
    | none => 9

/-- The session behind the source holds an unlock of the page, not older than 1,000 ms (R84). -/
def State.unlocked (s : State) (src : Src) (pg : PageRef) : Bool :=
  match src with
  | .session i => match s.session i with
    | some x => x.unlocks.any (fun u => u.1 == pg && decide (s.tb - u.2 < 1000000000))
    | none => false
  | .perc _ _ => false
  | .unit => true

/-- Who may reach a page at all, to read or to write: an open session while the host ports are up (R73); in DECAF only SYS and HOST; unprovisioned only
SYS, HOST, SEC and UPD; a program only its own channel and shared pages (R48, R375, R296). -/
def State.reachable (s : State) (src : Src) (pg : PageRef) : Status :=
  match src with
  | .unit => .ok
  | .perc n _ => if pg.page.isChan ∧ pg.ch ≠ n then .access else if s.mode = mDECAF then .state else .ok
  | .session i =>
    if (s.session i).isNone ∨ s.sup.restarting then .state
    else if s.mode = mDECAF ∧ ¬ (pg.page = .sys ∨ pg.page = .host) then .state
    else if s.get F.SEC_STAT_PROV ≠ 1 ∧ ¬ (pg.page = .sys ∨ pg.page = .host ∨ pg.page = .sec ∨ pg.page = .upd) then
      .state
    else .ok

/-- SYS.CMD, the one register that HALT leaves writable (Table 3.1). -/
def isSysCmd (pg : PageRef) (off : Nat) : Bool := pg.page == .sys && off == 0x034

/-- User code: an access by a program (R296, R362). -/
def userCode (src : Src) : Bool := match src with | .perc _ _ => true | _ => false

/-- Mode and source rules of a write (R48, R296, R362). -/
def State.modeGate (s : State) (src : Src) (pg : PageRef) (off : Nat) : Status :=
  match s.reachable src pg with
  | .ok =>
    if src = .unit then .ok
    else if userCode src && (!pg.page.isChan || pg.page == .pmc || off == 0x01C) then .access
    else if s.mode = mHALT ∧ !isSysCmd pg off then .state
    else .ok
  | st => st

/-- A standby refuses writes of parameter registers, PROF.CUR_TARGET, CONT.CMD and SAFE.CMD of its channel (R329). -/
def State.standbyRefuses (s : State) (src : Src) (pg : PageRef) (off : Nat) : Bool :=
  src != .unit && pg.page.isChan && (s.ch pg.ch).twin.standby
    && (nvMask (hdr pg off) != 0 || hdr pg off == R.PROF_CUR_TARGET pg.ch || hdr pg off == R.CONT_CMD pg.ch
      || hdr pg off == R.SAFE_CMD pg.ch)

/-- The word that a write's RW-I fields are compared with: ILOOP_KP and ILOOP_KI are KP and KI of the active bank
(R186). -/
def State.presentWord (s : State) (pg : PageRef) (off : Nat) : Word :=
  if pg.page = .ctle ∧ (off = 0x040 ∨ off = 0x044) then
    s.reg (chBase pg.ch + (if s.get (F.CTLE_BANKSEL_ACTIVE pg.ch) = 0 then 0x1800 else 0x1C00) + (off - 0x20))
  else s.reg (hdr pg off)

/-- Some RW-I field would take a new value outside ISOLATED (R9, R392). -/
def State.rwiRefuses (s : State) (pg : PageRef) (off : Nat) (d : RegD) (v : Word) : Bool :=
  let m := maskOf d (fun a => a == .rwi)
  pg.page.isChan && s.chState pg.ch != stISOLATED && (s.presentWord pg off &&& m) != (v &&& m)

/-- Writes that need service privilege whatever else holds: SEC.CMD and TEST.UNLOCK, EVT.CMD.CLEAR, HLTH.CTRL.EN = 0
(R273, R353; ch. 21). They report PRIV before any other refusal of theirs (DEDUCED, log entry 26). -/
def privNeeded (pg : PageRef) (off : Nat) (v : Word) : Bool :=
  (pg.page == .sec && off == 0x024) || (pg.page == .test && off == 0x020)
    || (pg.page == .evt && off == 0x034 && bit v 0) || (pg.page == .hlth && off == 0x020 && !bit v 0)

/-- The access types that a write may change. -/
def writable (a : Acc) : Bool :=
  match a with | .rw | .wo | .w1c | .w1s | .rwi => true | .ro | .ros => false

/-- Every check of a write that does not depend on the register's own meaning. -/
def State.gate (s : State) (src : Src) (pg : PageRef) (off : Nat) (v : Word) : Status :=
  match s.modeGate src pg off with
  | .ok =>
    match findReg pg.page off with
    | none => .noaddr
    | some (d, _) =>
      if maskOf d writable = 0 then .access
      else if privNeeded pg off v ∧ !s.service src then .priv
      else if d.prot ∧ off ≠ 0x01C ∧ !s.unlocked src pg then .locked
      else if s.standbyRefuses src pg off then .state
      else if s.rwiRefuses pg off d v then .state
      else .ok
  | st => st

/-- A write by a session to another register of a page restarts a begun unlock sequence (R84). -/
def State.restartUnlock (s : State) (src : Src) (pg : PageRef) (off : Nat) : State :=
  match src with
  | .session i =>
    if off = 0x01C then s
    else { s with sessions := s.sessions.map (fun x => if x.sid = i then { x with begun := x.begun.filter (· != pg) } else x) }
  | _ => s

/-- A write behind the gate: the register's own meaning runs when the gate lets it. -/
def State.gated (s : State) (src : Src) (pg : PageRef) (off : Nat) (v : Word) (f : State → Res) : Res :=
  let s := s.restartUnlock src pg off
  match s.gate src pg off v with
  | .ok => f s
  | st => (st, s)

/-- What a write leaves in a register, field by field (R9, R392). -/
def writeWord (d : RegD) (old v : Word) : Word :=
  let rw := maskOf d (fun a => a == .rw || a == .rwi)
  let w1c := maskOf d (fun a => a == .w1c)
  let w1s := maskOf d (fun a => a == .w1s)
  (old &&& ~~~rw &&& ~~~(w1c &&& v)) ||| (v &&& rw) ||| (v &&& w1s)

end Sys2Proof.Machine
end

