-- ==== Sys2Proof/Machine/Est.lean ====
section
/-! DEFINITION. The estimator (R220 to R241): chemistry set, cell filters, aggregates, state of power, rest points,
capacity learning, calibration of the current inputs, the stored record and the estimator region. -/

namespace Sys2Proof.Machine
open Sys2Proof

/-! ## Chemistry set (R221 to R223) -/

/-- A binary32 word of the committed set. -/
def State.chemV (s : State) (n : Ch) (k : Nat) : Rat := f32D (mget (s.ch n).est.chem k)

/-- The interval and the fraction of x on a rising grid g 0, ..., g top; outside it, at the edge. -/
def knot (g : Nat → Rat) (top : Nat) (x : Rat) : Nat × Rat :=
  let i := (((List.range top).filter (fun k => decide (g k ≤ x))).getLast?).getD 0
  (i, clampR ((x - g i) / (g (i + 1) - g i)) 0 1)

/-- A grid of the set at a SoC and a temperature: bilinear, temperatures at the grid's edge (R221). -/
def State.chemGrid (s : State) (n : Ch) (base : Nat) (soc t : Rat) : Rat :=
  let a := knot (fun k => s.chemV n (16 + k)) 15 soc
  let b := knot (fun k => s.chemV n (8 + k)) 7 t
  let g (i j : Nat) : Rat := s.chemV n (base + 8 * i + j)
  let lo := g a.1 b.1 + b.2 * (g a.1 (b.1 + 1) - g a.1 b.1)
  let hi := g (a.1 + 1) b.1 + b.2 * (g (a.1 + 1) (b.1 + 1) - g (a.1 + 1) b.1)
  lo + a.2 * (hi - lo)

/-- Open-circuit voltage at a SoC, its slope, and its inverse at the edges of the table for a voltage outside it. -/
def State.ocv (s : State) (n : Ch) (soc : Rat) : Rat :=
  let a := knot (fun k => (k : Rat) / 63) 63 soc
  s.chemV n (32 + a.1) + a.2 * (s.chemV n (33 + a.1) - s.chemV n (32 + a.1))
def State.docv (s : State) (n : Ch) (soc : Rat) : Rat :=
  let a := knot (fun k => (k : Rat) / 63) 63 soc
  (s.chemV n (33 + a.1) - s.chemV n (32 + a.1)) * 63
def State.ocvInv (s : State) (n : Ch) (v : Rat) : Rat :=
  let a := knot (fun k => s.chemV n (32 + k)) 63 v
  ((a.1 : Rat) + a.2) / 63

/-- Strictly rising over words lo, ..., lo + count - 1: the first word that does not rise. -/
def firstFall (v : Nat → Rat) (lo count : Nat) : Option Nat :=
  (List.range count).find? (fun k => decide (0 < k) && decide (v (lo + k) ≤ v (lo + k - 1))) |>.map (lo + ·)

/-- A word of a staged set inside its range of Table 12.2. -/
def chemWordOk (m : Mem) (k : Nat) : Bool :=
  let v : Nat → Rat := fun j => f32D (mget m j)
  let fin := (f32 (mget m k)).isSome
  let inR (a b : Rat) : Bool := fin && decide (a ≤ v k) && decide (v k ≤ b)
  if k = 0 then true
  else if k = 1 then inR 10 2000
  else if k = 2 then inR (9 / 10) 1
  else if k = 3 then inR (1 / 10) 5
  else if k = 4 then inR (1 / 2) (9 / 2)
  else if k = 5 then inR (1 / 2) (9 / 2) && decide (v 4 < v 5)
  else if k = 6 then inR (1 / 5) 250
  else if k = 7 then mget m 7 == 0
  else if k ≤ 15 then inR (-40) 80 && (k == 8 || decide (v (k - 1) < v k))
  else if k ≤ 31 then fin && (if k = 16 then v k == 0 else decide (v (k - 1) < v k)) && (k != 31 || v k == 1)
  else if k ≤ 95 then fin && (k == 32 || decide (v (k - 1) < v k))
  else if k ≤ 735 then fin && decide (0 < v k)
  else if k ≤ 863 then fin
  else mget m 864 == crcWords (mrange m 0 864)

/-- The first failing word of a staged set (R223). -/
def chemFail (m : Mem) : Option Nat := (List.range 865).find? (fun k => !chemWordOk m k)

/-! ## Cells -/

/-- A cell at its defaults: capacity Q_NOM, kR 1, no filter. -/
def EstCell.fresh (qnom : Rat) : EstCell :=
  { init := false, soc := 0, v1 := 0, v2 := 0, p00 := 0, p01 := 0, p02 := 0, p11 := 0, p12 := 0, p22 := 0, socPub := 0,
    q := qnom, qNew := none, kR := 1, envQ := none, envR := none, cycle := none, temp := none, extrap := false,
    noUpd := true, sopC := [], sopD := [], measRun := 0 }

/-- Cell i of a channel's estimator. -/
def State.estCell (s : State) (n : Ch) (i : Nat) : EstCell :=
  (s.ch n).est.cells.getD i (EstCell.fresh (s.cRated n))

/-- Every cell of the enumerated tiles replaced. -/
def State.mapCells (s : State) (n : Ch) (f : Nat → EstCell → EstCell) : State :=
  s.modEst n (fun e => { e with cells :=
    (List.range (max e.cells.length (16 * s.get (F.RING_STAT_TILES n)))).map (fun i => f i (s.estCell n i)) })

/-- LEARN.OPEN follows the open cycles (Table 12.16). -/
def State.openShow (s : State) (n : Ch) : State :=
  s.put (F.EST_LEARN_OPEN n) (b2n ((s.ch n).est.cells.any (fun c => c.cycle.isSome)))

/-- The open cycles of the cells chosen are disqualified with a code of Table 12.6 (R237). -/
def State.disqualify (s : State) (n : Ch) (code : Nat) (p : Nat → EstCell → Bool) : State :=
  let l := (List.range (s.ch n).est.cells.length).filter (fun i => (s.estCell n i).cycle.isSome && p i (s.estCell n i))
  if l = [] then s
  else
    let cells := (List.range (s.ch n).est.cells.length).map (fun i =>
      if l.contains i then { (s.estCell n i) with cycle := none } else s.estCell n i)
    let s := s.modEst n (fun e => { e with cells := cells })
    let s := (s.put (F.EST_LEARN_LAST_DQ n) code).put (F.EST_LEARN_DISQ n)
      (min 255 (s.get (F.EST_LEARN_DISQ n) + l.length))
    (s.raise (pgEST n) 4).openShow n

/-- Learned values of a cell at their defaults. -/
def EstCell.unlearn (c : EstCell) (qnom : Rat) : EstCell :=
  { c with q := qnom, qNew := none, kR := 1, envQ := none, envR := none, cycle := none }

/-- Every filter waits for its initialisation (R227). -/
def State.reinit (s : State) (n : Ch) : State :=
  (s.mapCells n (fun _ c => { c with init := false, noUpd := true })).modEst n (fun e => { e with group := [] })

/-- A new cell set at a tile address (R97, R227, Table 12.6 code 8). -/
def State.newCells (s : State) (n : Ch) (tile : Nat) : State :=
  let here (i : Nat) : Bool := i / 16 + 1 == tile
  let s := s.disqualify n 8 (fun i _ => here i)
  (s.mapCells n (fun i c => if here i then { (c.unlearn (s.cRated n)) with init := false, noUpd := true } else c)).modEst n
    (fun e => { e with writeDue := true })

/-! ## Calibration of the current inputs (R231) -/

/-- Offset and gain of an input in force now. -/
def State.calOf (s : State) (n : Ch) (aux : Bool) : Int × Rat :=
  let e := (s.ch n).est
  (if sdiff 48 s.ep e.calAt < 0 then e.calOld else e.cal).getD (if aux then 1 else 0) (0, 1)

/-- A value of an input after calibration. -/
def State.calIn (s : State) (n : Ch) (aux : Bool) (v : Option Int) : Option Int :=
  v.map (fun x => roundHalf (((x - (s.calOf n aux).1 : Int) : Rat) * (s.calOf n aux).2))

/-- The condition under which a calibration request is accepted, and goes on. -/
def State.calCond (s : State) (n : Ch) (kind : Nat) : Bool :=
  if kind = 1 then s.chState n == stISOLATED && !s.flag (F.CONT_STAT_FB_POS n) && !s.flag (F.CONT_STAT_FB_NEG n)
    && !s.flag (F.CONT_STAT_FB_PRE n)
  else s.chState n == stCONNECTED

/-- A calibration ends with a result code. -/
def State.calEnd (s : State) (n : Ch) (res : Nat) : State :=
  (s.put (F.EST_ICAL_RES n) res).modEst n (fun e => { e with calKind := 0, calWin := [] })

/-- A write of EST.ICAL (Table 12.17). -/
def State.doIcal (s : State) (n : Ch) (v : Word) : Res :=
  if bit v 31 && bit v 30 || 1 < bitsOf v 25 24 then refuse .range s
  else
    let kind := if bit v 31 then 1 else if bit v 30 then 2 else 0
    if kind ≠ 0 ∧ !s.calCond n kind then refuse .state s
    else
      let s := s.put (F.EST_ICAL_SEL n) (bitsOf v 25 24)
      if kind = 0 then (.ok, s)
      else (.ok, (s.put (F.EST_ICAL_RES n) 3).modEst n (fun e =>
        { e with calKind := kind, calSel := bitsOf v 25 24, calWin := [], calSkip := b2n (s.ch n).pour.busy }))

/-- The window of a running calibration takes an epoch's raw input, mA; an epoch without it fails the request. An epoch
sampled before the grant is none of the 1,000 that follow it. -/
def State.calFeed (s : State) (n : Ch) (main aux : Option Int) : State :=
  let e := (s.ch n).est
  if e.calKind = 0 ∨ 1000 ≤ e.calWin.length then s
  else if 0 < e.calSkip then s.modEst n (fun e => { e with calSkip := e.calSkip - 1 })
  else if !s.calCond n e.calKind then s.calEnd n 2
  else match (if e.calSel = 1 then aux else main) with
    | none => s.calEnd n 2
    | some x => s.modEst n (fun e => { e with calWin := e.calWin ++ [x] })

/-- ICAL_DONE (R231): the window has ended. -/
def State.icalDone (s : State) (n : Ch) : State :=
  let e := (s.ch n).est
  if e.calKind = 0 ∨ e.calWin.length < 1000 then s
  else
    let mean : Rat := (sumI e.calWin : Rat) / 1000
    let old := e.cal.getD e.calSel (0, 1)
    let accept (c : Int × Rat) (env : Option (Rat × Rat)) : State :=
      (s.modEst n (fun e => { e with
        calOld := e.cal, calAt := (s.ep + 1) % 2 ^ 48, cal := setAt (0, 1) e.cal e.calSel c
        calEnv := setAt none e.calEnv e.calSel env, writeDue := true })).calEnd n 1
    if !s.calCond n e.calKind then s.calEnd n 2
    else if e.calKind = 1 then
      if absR mean ≤ 2000 then accept (roundHalf mean, old.2) (e.calEnv.getD e.calSel none) else s.calEnd n 2
    else
      let m := mean - (old.1 : Rat)
      let lo := e.calWin.foldl min (e.calWin.headD 0)
      let hi := e.calWin.foldl max (e.calWin.headD 0)
      let g := ((s.reg (R.EST_ICAL_REF n)).toInt : Rat) / m
      if absR m < s.irated n * 200 ∨ s.irated n * 10 < ((hi - lo : Int) : Rat) then s.calEnd n 2
      else if 95 / 100 ≤ g ∧ g ≤ 105 / 100 then
        accept (old.1, g) (some (((lo - old.1 : Int) : Rat) * g / 1000, ((hi - old.1 : Int) : Rat) * g / 1000))
      else s.calEnd n 2

def execIcalDone (n : Ch) (s : State) : Host.Outcome State Fault Refusal := happen (s.icalDone n)

/-! ## What a delivered epoch gives the estimator -/

/-- The outage of a restored record ends with the first epoch after BOOT (R227): (0.5% per day)² of variance a day; a
negative difference counts as 0 days and records an event. -/
def State.outageEnd (s : State) (n : Ch) (epoch : Nat) : State :=
  match (s.ch n).est.storedAt with
  | none => s
  | some e0 =>
    let d := sdiff 48 epoch e0
    let days : Nat := d.toNat / 86400000
    let grow : Rat := 25 / 1000000 * (days : Rat)
    let s := s.modEst n (fun e => { e with
      storedAt := none, cells := e.cells.map (fun x => if x.init then { x with p00 := x.p00 + grow } else x) })
    if d < 0 then s.logReg (pgEST n) 0x024 else s

/-- POUR_GAP of the channel (Table 12.6 code 4): more than 5,000 epochs in a row without a delivered epoch with
IVALID = 1, judged at every delivery; the epoch delivered now belongs to the gap when it has none itself. -/
def State.gapCheck (s : State) (n : Ch) (b : EpochBuf) : State :=
  let k := (s.tb - (s.ch n).est.validAt + 500000) / 1000000
  let s := if 5000 + b2n b.ivalid < k then s.disqualify n 4 (fun _ _ => true) else s
  if b.ivalid then s.modEst n (fun e => { e with validAt := s.tb }) else s

/-- At publication: the group of R224, which grows on while the page is disabled (Table 4.19), what the aggregates and
checks have to take, the runs of R234, the calibration window. -/
def State.estFeed (s : State) (n : Ch) (b : EpochBuf) (main aux : Option Int) : State :=
  let s := ((s.calFeed n main aux).outageEnd n b.epoch).gapCheck n b
  let cur : Option Rat := if b.ivalid then some (milli' b.istr) else none
  let s := s.modEst n (fun e => { e with
    group := e.group ++ [(cur, (s.ch n).bal.applied)]
    aggPend := if s.enabled (pgEST n) then e.aggPend ++ [⟨b, (s.ch n).bal.applied, false⟩] else []
    iValid := cur.getD e.iValid })
  s.mapCells n (fun i c => { c with measRun := if b.cellQ.getD i 4 = 0 then c.measRun + 1 else 0 })
where
  /-- A word in mA as amperes. -/
  milli' (w : Word) : Rat := (w.toInt : Rat) / 1000

/-! ## Cell filter (R224 to R229) -/

/-- A cell's temperature, °C, from an epoch (R225); none when the channel has no MEASURED thermistor. -/
def EpochBuf.cellTemp (b : EpochBuf) (i : Nat) : Option Rat :=
  let val (m : Nat) : Rat := (signed 16 (b.temp.getD m 0x8000) : Rat) / 100
  let ok (m : Nat) : Bool := b.tempQ.getD m 4 == 0
  let own := 4 * (i / 16) + i % 16 / 4
  let mean (l : List Nat) : Option Rat := if l = [] then none else some (sumR (l.map val) / (l.length : Rat))
  if ok own then some (val own)
  else match mean (([0, 1, 2, 3].map (4 * (i / 16) + ·)).filter ok) with
    | some t => some t
    | none => mean ((List.range b.temp.length).filter ok)

/-- The chemistry set's envelope (R229). -/
def State.chemEnv (s : State) (n : Ch) : Envel :=
  let i := s.chemV n 3 * s.cRated n
  ⟨-i, i, s.chemV n 8, s.chemV n 15⟩

/-- A current and a temperature inside an envelope widened by the margins. -/
def Envel.holds (e : Envel) (i t im tm : Rat) : Bool :=
  decide (e.imin - im ≤ i) && decide (i ≤ e.imax + im) && decide (e.tmin - tm ≤ t) && decide (t ≤ e.tmax + tm)

/-- The cell is EXTRAPOLATED (R229). -/
def State.extrapolated (s : State) (n : Ch) (b : EpochBuf) (c : EstCell) (i : Rat) (t : Option Rat) : Bool :=
  let im := (s.get (F.EST_ENV_IMARG n) : Rat) / 100 * s.cRated n
  let tm := (s.get (F.EST_ENV_TMARG n) : Rat)
  match t with
  | none => true
  | some t =>
    let che := s.chemEnv n
    !(che.holds i t im tm) || !((c.envR.getD che).holds i t im tm) || !((c.envQ.getD che).holds i t im tm)
      || (match (s.ch n).est.calEnv.getD (b2n b.isrc) none with
        | some r => decide (i < r.1 - im) || decide (r.2 + im < i)
        | none => false)

/-- What an update of one cell works with: temperature, process noise factor. -/
structure KfCtx where
  t : Rat
  qf : Rat

/-- Coulombic efficiency by the current's sign. -/
def State.etaOf (s : State) (n : Ch) (i : Rat) : Rat := if 0 < i then s.chemV n 2 else 1

/-- Bleed current of a cell at a duty, A (R224). -/
def State.bleed (s : State) (n : Ch) (duty : Nat) : Rat := (duty : Rat) / 200 * (s.get (F.BAL_CTRL_IBLEED n) : Rat) / 1000

/-- One epoch of the prediction. -/
def State.kfPredict (s : State) (n : Ch) (k : KfCtx) (valid : Bool) (i : Rat) (c : EstCell) : EstCell :=
  let soc := c.soc + s.etaOf n i * i / 1000 / (3600 * c.q)
  let a1 := Config.exp (-(1 / 1000) / s.chemGrid n 352 soc k.t)
  let a2 := Config.exp (-(1 / 1000) / s.chemGrid n 608 soc k.t)
  let qs : Rat := (s.get (F.EST_NOISE_QSOC n) : Rat) / 10000000
  let qv : Rat := (s.get (F.EST_NOISE_QV n) : Rat) / 1000000
  let d := s.irated n / 20 / 1000 / (3600 * c.q)
  { c with
    soc := soc
    v1 := a1 * c.v1 + s.chemGrid n 224 soc k.t * (1 - a1) * i
    v2 := a2 * c.v2 + s.chemGrid n 480 soc k.t * (1 - a2) * i
    p00 := c.p00 + k.qf * qs * qs + (if valid then 0 else d * d)
    p01 := a1 * c.p01
    p02 := a2 * c.p02
    p11 := a1 * a1 * c.p11 + k.qf * qv * qv
    p12 := a1 * a2 * c.p12
    p22 := a2 * a2 * c.p22 + k.qf * qv * qv }

/-- The prediction over the group (R224); an epoch without a valid current takes the last valid one. -/
def State.kfGroup (s : State) (n : Ch) (k : KfCtx) (idx : Nat) (c : EstCell) : EstCell :=
  ((s.ch n).est.group.foldl (fun (a : EstCell × Rat) g =>
    let i0 := g.1.getD a.2
    (s.kfPredict n k g.1.isSome (i0 - s.bleed n (nth g.2 idx)) a.1, i0)) (c, (s.ch n).est.iLast)).1

/-- The predicted voltage. -/
def State.yhat (s : State) (n : Ch) (k : KfCtx) (i : Rat) (c : EstCell) : Rat :=
  s.ocv n c.soc + c.v1 + c.v2 + c.kR * s.chemGrid n 96 c.soc k.t * i

/-- H P H' of a cell. -/
def State.hph (s : State) (n : Ch) (c : EstCell) : Rat :=
  let h := s.docv n c.soc
  h * h * c.p00 + 2 * h * (c.p01 + c.p02) + c.p11 + 2 * c.p12 + c.p22

/-- The measurement update. -/
def State.kfUpdate1 (s : State) (n : Ch) (y yh rv : Rat) (c : EstCell) : EstCell :=
  let h := s.docv n c.soc
  let g0 := h * c.p00 + c.p01 + c.p02
  let g1 := h * c.p01 + c.p11 + c.p12
  let g2 := h * c.p02 + c.p12 + c.p22
  let sg := s.hph n c + rv
  let k0 := g0 / sg
  let k1 := g1 / sg
  let k2 := g2 / sg
  { c with
    soc := c.soc + k0 * (y - yh), v1 := c.v1 + k1 * (y - yh), v2 := c.v2 + k2 * (y - yh)
    p00 := c.p00 - k0 * g0, p01 := c.p01 - k0 * g1, p02 := c.p02 - k0 * g2
    p11 := c.p11 - k1 * g1, p12 := c.p12 - k1 * g2, p22 := c.p22 - k2 * g2, noUpd := false }

/-- Initialisation of a filter (R227). -/
def State.kfInit (s : State) (n : Ch) (k : KfCtx) (y i : Rat) (c : EstCell) : EstCell :=
  let soc := clampR (s.ocvInv n (y - c.kR * s.chemGrid n 96 (Config.initSoc y) k.t * i)) 0 1
  { c with init := true, soc := soc, socPub := soc, v1 := 0, v2 := 0, p00 := 1 / 100, p01 := 0, p02 := 0,
           p11 := 1 / 10000, p12 := 0, p22 := 1 / 10000, noUpd := false }

/-- The other cell of a WIRE_SUSPECT pair, both with a value (Table 12.3, R151). -/
def State.pairOf (s : State) (n : Ch) (b : EpochBuf) (i : Nat) : Option Nat :=
  match (s.ch n).cdiag.susp.find? (fun u =>
      16 * (u.tile - 1) + u.tap - 1 == i || 16 * (u.tile - 1) + u.tap == i) with
  | none => none
  | some u =>
    let lo := 16 * (u.tile - 1) + u.tap - 1
    let j := if lo = i then lo + 1 else lo
    if b.cellQ.getD i 4 = 3 ∧ b.cellQ.getD j 4 = 3 then some j else none

/-- A cell voltage of an epoch, V. -/
def EpochBuf.volt (b : EpochBuf) (i : Nat) : Rat := ((b.cellV.getD i 0xFFFF : Nat) : Rat) / 10000

/-- The measurement of a cell at an update: value and variance (Table 12.3), from the predicted cells. -/
def State.kfMeas (s : State) (n : Ch) (b : EpochBuf) (rv : Rat) (pred : List (EstCell × KfCtx × Rat)) (i : Nat) :
    Option (Rat × Rat) :=
  match b.cellQ.getD i 4 with
  | 0 => some (b.volt i, rv)
  | 3 => match s.pairOf n b i with
    | none => none
    | some j => match pred[j]? with
      | some (p, k, cur) => if p.init then some (b.volt i + b.volt j - s.yhat n k cur p, 2 * rv + s.hph n p) else none
      | none => none
  | _ => none

/-- Confidence grade of a cell (R228). -/
def EstCell.grade (c : EstCell) : Nat :=
  if !c.init then 3
  else
    let g : Nat := if c.p00 ≤ 225 / 1000000 then 0 else if c.p00 ≤ 9 / 10000 then 1 else if c.p00 ≤ 36 / 10000 then 2 else 3
    if c.extrap then min 3 (g + 1) else g

/-- Epochs per filter update: 10, or 20 under throttle (Table 12.1). -/
def State.kfPeriod (s : State) (n : Ch) : Nat := if s.flag (F.EST_STAT_THROTTLED n) then 20 else 10

/-- An accepted capacity applies from the next filter update (R238). -/
def EstCell.capacity (c : EstCell) : EstCell :=
  match c.qNew with
  | some (q, e) => { c with q := q, envQ := some e, qNew := none }
  | none => c

/-- The prediction of cell i (R224, R225, R229): the predicted cell, what it worked with, its current. -/
def State.kfPred (s : State) (n : Ch) (b : EpochBuf) (iLast : Rat) (i : Nat) : EstCell × KfCtx × Rat :=
  let c := s.estCell n i
  let cur := iLast - s.bleed n (nth (s.ch n).bal.applied i)
  let t := b.cellTemp i
  let ex := s.extrapolated n b c cur t
  let tt := (t.or c.temp).getD Config.noTemp
  let k : KfCtx := ⟨tt, if ex then (s.get (F.EST_ENV_QINFL n) : Rat) else 1⟩
  let c := { c with temp := t.or c.temp, extrap := ex }
  (if c.init && b.cellQ.getD i 4 != 4 then s.kfGroup n k i c else c, k, cur)

/-- Cell i after an update: no filter runs while it is ABSENT; without a measurement the prediction stands; a
measurement updates an initialised filter (R224, R226) and initialises another (R227). -/
def State.kfCell (s : State) (n : Ch) (b : EpochBuf) (rv : Rat) (pred : List (EstCell × KfCtx × Rat)) (i : Nat) : EstCell :=
  match pred[i]? with
  | none => s.estCell n i
  | some (c, k, cur) =>
    if b.cellQ.getD i 4 = 4 then { s.estCell n i with noUpd := true }
    else match s.kfMeas n b rv pred i with
      | some (y, r) =>
        if c.init then
          let c' := s.kfUpdate1 n y (s.yhat n k cur c) r c
          { c' with soc := clampR c'.soc 0 1, socPub := clampR c'.soc 0 1 }
        else s.kfInit n k y cur c
      | none => { c with noUpd := true, soc := clampR c.soc 0 1, socPub := clampR c.soc 0 1 }

/-- KF_UPDATE (R224 to R229, R238). -/
def State.kfUpdate (s : State) (n : Ch) : State :=
  let b := (s.ch n).pour.deliv
  if !b.valid ∨ !s.enabled (pgEST n) ∨ !(s.ch n).est.chemOk ∨ b.epoch % s.kfPeriod n ≠ s.kfPeriod n - 1
      ∨ (s.ch n).est.group = [] then s
  else
    let s := s.mapCells n (fun _ c => c.capacity)
    let rv0 := (s.get (F.EST_NOISE_SIGV n) : Rat) / 100000
    let rv := rv0 * rv0 * (if b.dieRange then 4 else 1)
    let iLast := (s.ch n).est.group.foldl (fun a g => g.1.getD a) (s.ch n).est.iLast
    let pred := (List.range (s.ch n).est.cells.length).map (s.kfPred n b iLast)
    s.modEst n (fun e => { e with
      cells := (List.range pred.length).map (s.kfCell n b rv pred), group := [], iLast := iLast
      pub := { e.pub with kfEpoch := b.epoch }, aggPend := e.aggPend.map (fun x => { x with inKf := true }) })

def execKfUpdate (n : Ch) (s : State) : Host.Outcome State Fault Refusal :=
  happen (if (s.ch n).twin.standby then s else s.kfUpdate n)

/-! ## Aggregates (R232) and the epoch's checks (R234, R237) -/

/-- A fraction in 0.01%, and a charge in 0.01 Ah. -/
def pct (x : Rat) : Nat := (roundHalf (clampR x 0 1 * 10000)).toNat
def cAh (x : Rat) : Nat := min (2 ^ 32 - 1) (roundHalf (x * 100)).toNat

/-- The aggregates over the cells that have a SoC. -/
def State.aggregate (s : State) (n : Ch) (epoch : Nat) : EstPub :=
  let e := (s.ch n).est
  let b := (s.ch n).pour.deliv
  let l := (List.range e.cells.length).filter (fun i => (s.estCell n i).init && b.cellQ.getD i 4 != 4)
  let soc (i : Nat) : Rat := (s.estCell n i).socPub
  match l with
  | [] => { e.pub with aggEpoch := epoch, socMin := 0xFFFF, socMax := 0xFFFF, socMean := 0xFFFF, idxMin := 0, idxMax := 0,
                       gradeMin := 3, extrapAny := false, ncells := 0, socStr := 0xFFFF, ahDis := 0, ahChg := 0 }
  | i0 :: _ =>
    let imin := l.foldl (fun a i => if soc i < soc a then i else a) i0
    let imax := l.foldl (fun a i => if soc a < soc i then i else a) i0
    let dis (i : Nat) : Rat := soc i * (s.estCell n i).q
    let chg (i : Nat) : Rat := (1 - soc i) * (s.estCell n i).q
    let ad := l.foldl (fun a i => minR a (dis i)) (dis i0)
    let ac := l.foldl (fun a i => minR a (chg i)) (chg i0)
    { e.pub with
      aggEpoch := epoch, socMin := pct (soc imin), socMax := pct (soc imax)
      socMean := pct (sumR (l.map soc) / (l.length : Rat)), idxMin := imin, idxMax := imax
      gradeMin := l.foldl (fun a i => max a (s.estCell n i).grade) 0
      extrapAny := l.any (fun i => (s.estCell n i).extrap), ncells := l.length
      socStr := pct (if ad + ac = 0 then 0 else ad / (ad + ac)), ahDis := cAh ad, ahChg := cAh ac }

/-- The published SoC advances by the epoch's coulomb term, an open cycle takes its charge and ranges (R232, R236). -/
def State.socAdvance (s : State) (n : Ch) (x : AggIn) (cur : Rat) : State :=
  s.mapCells n (fun i c =>
    let ci := cur - s.bleed n (nth x.duty i)
    let dq := s.etaOf n ci * ci / 1000 / 3600
    let t := (x.buf.cellTemp i).or c.temp
    { c with
      socPub := if c.init ∧ !x.inKf then clampR (c.socPub + dq / c.q) 0 1 else c.socPub
      cycle := c.cycle.map (fun y =>
        { y with
          charge := y.charge + dq
          imin := minR y.imin ci, imax := maxR y.imax ci
          tmin := (match t with | some x => minR y.tmin x | none => y.tmin)
          tmax := (match t with | some x => maxR y.tmax x | none => y.tmax) }) })

/-- The disqualifications of an epoch (Table 12.6). -/
def State.learnChecks (s : State) (n : Ch) (b : EpochBuf) : State :=
  let temps := ((List.range b.temp.length).filter (fun m => b.tempQ.getD m 4 == 0)).map (fun m => signed 16 (b.temp.getD m 0x8000))
  let spread := temps.foldl max (temps.headD 0) - temps.foldl min (temps.headD 0)
  let ia := absR ((b.istr.toInt : Rat) / 1000)
  let s := s.disqualify n 1 (fun i c => match (b.cellTemp i).or c.temp with
    | some t => decide (t < 10) || decide (40 < t)
    | none => false)
  let s := if 1000 < spread then s.disqualify n 2 (fun _ _ => true) else s
  let s := if b.ivalid ∧ s.cRated n / 2 < ia then s.disqualify n 3 (fun _ _ => true) else s
  let s := s.disqualify n 4 (fun i _ => decide (5000 < nth (s.ch n).pour.staleCnt i))
  let s := if b.split then s.disqualify n 6 (fun _ _ => true) else s
  let s := s.disqualify n 7 (fun _ c => match c.cycle with
    | some y => decide (7 * 86400 * 1000000000 < s.tb - y.opened)
    | none => false)
  s.disqualify n 10 (fun i _ => b.cellQ.getD i 4 == 3)

/-- The conditions of a rest point over an epoch (R234). -/
def State.restCheck (s : State) (n : Ch) (b : EpochBuf) : State :=
  let e := (s.ch n).est
  let quiet := b.ivalid && decide (absR ((b.istr.toInt : Rat) / 1000) ≤ s.cRated n / 50)
  let val (m : Nat) : Int := signed 16 (b.temp.getD m 0x8000)
  let upd (f : Int → Int → Int) (old : List Int) : List Int := (List.range b.temp.length).map (fun m =>
    if b.tempQ.getD m 4 = 0 then (match old[m]? with | some x => if x = 0x8000 then val m else f x (val m) | none => val m)
    else old.getD m 0x8000)
  let start := (s.modEst n (fun e => { e with
    restT0 := if quiet then some s.tb else none, restTmin := upd min [], restTmax := upd max [] }))
  match e.restT0 with
  | none => start
  | some _ =>
    let lo := upd min e.restTmin
    let hi := upd max e.restTmax
    let steady := (List.range lo.length).all (fun m => decide (hi.getD m 0 - lo.getD m 0 ≤ 200))
    if quiet && steady then s.modEst n (fun e => { e with restTmin := lo, restTmax := hi }) else start

/-! ## The estimator region (R240) -/

/-- Two 16-bit values in a word, the first low. -/
def pack2 (a b : Nat) : Word := BitVec.ofNat 32 (a % 65536 + b % 65536 * 65536)

/-- 0.1 mV of a voltage, 16 bits. -/
def v01 (x : Rat) : Nat := int16 (clampI (-32768) 32767 (roundHalf (x * 10000)))

/-- A word of the live estimator region. -/
def State.estWord (s : State) (n : Ch) (off : Nat) : Word :=
  let e := (s.ch n).est
  let p := e.pub
  let soc (i : Nat) : Nat := let c := s.estCell n i; if c.init then pct c.socPub else 0xFFFF
  let sig (i : Nat) : Nat := let c := s.estCell n i; if c.init then min 0xFFFE (roundHalf (sqrtR c.p00 * 10000)).toNat else 0xFFFF
  let inA (lo count : Nat) : Bool := decide (lo ≤ off) && decide (off < lo + 4 * count) && off % 4 == 0
  if off = 0x11000 then BitVec.ofNat 32 p.aggEpoch
  else if off = 0x11004 then BitVec.ofNat 32 p.kfEpoch
  else if off = 0x11008 then BitVec.ofNat 32 p.sopEpoch
  else if off = 0x1100C then pack2 p.socMin p.socMax
  else if off = 0x11010 then BitVec.ofNat 32 (p.socMean * 65536 + p.gradeMin % 4 * 16384 + b2n p.extrapAny * 8192
    + s.get (F.EST_STAT_REST_NEEDED n) * 4096 + p.ncells % 512)
  else if off = 0x11014 then pack2 p.idxMin p.idxMax
  else if off = 0x11018 then BitVec.ofNat 32 (p.socStr * 65536)
  else if off = 0x1101C then BitVec.ofNat 32 p.ahDis
  else if off = 0x11020 then BitVec.ofNat 32 p.ahChg
  else if inA 0x11024 6 then BitVec.ofNat 32 (nth p.curLim ((off - 0x11024) / 4))
  else if inA 0x1103C 6 then BitVec.ofNat 32 (nth p.powLim ((off - 0x1103C) / 4))
  else if inA 0x11100 208 then let w := (off - 0x11100) / 4; pack2 (soc (2 * w)) (soc (2 * w + 1))
  else if inA 0x11500 416 then let c := s.estCell n ((off - 0x11500) / 4); pack2 (v01 c.v1) (v01 c.v2)
  else if inA 0x11C00 208 then let w := (off - 0x11C00) / 4; pack2 (sig (2 * w)) (sig (2 * w + 1))
  else if inA 0x12000 52 then
    BitVec.ofNat 32 ((List.range 8).foldl (fun a k =>
      let c := s.estCell n (8 * ((off - 0x12000) / 4) + k)
      a + (c.grade + b2n c.extrap * 4 + b2n c.noUpd * 8) * 16 ^ k) 0)
  else if inA 0x12100 208 then
    let w := (off - 0x12100) / 4
    let q (i : Nat) : Nat := min 65535 (roundHalf ((s.estCell n i).q * 10)).toNat
    pack2 (q (2 * w)) (q (2 * w + 1))
  else if inA 0x12500 208 then
    let w := (off - 0x12500) / 4
    let q (i : Nat) : Nat := min 65535 (roundHalf ((s.estCell n i).kR * 4096)).toNat
    pack2 (q (2 * w)) (q (2 * w + 1))
  else 0

/-- The whole region as a memory. -/
def State.estWin (s : State) (n : Ch) : Mem :=
  ((List.range 1600).map (fun k => 0x11000 + 4 * k)).foldl (fun m o => mset m o (s.estWord n o)) []

/-- One delivered epoch: the published SoC, the learning checks, the conditions of a rest point. -/
def State.aggEpoch1 (s : State) (n : Ch) (x : AggIn) (cur : Rat) : State :=
  ((s.socAdvance n x cur).learnChecks n x.buf).restCheck n x.buf

/-- The epochs that wait for the aggregates, in order: what a skipped instance left is taken by the next, so that no
charge is lost (R220, R236). An epoch without a valid current takes the last valid one (R224). -/
def State.aggRun (s : State) (n : Ch) (l : List AggIn) (last : Rat) : State :=
  (l.foldl (fun (a : State × Rat) x =>
    let cur : Rat := if x.buf.ivalid then (x.buf.istr.toInt : Rat) / 1000 else a.2
    (a.1.aggEpoch1 n x cur, cur)) (s, last)).1

/-- AGGREGATE_TASK (R232, R234, R236, R237): string aggregates, rest-point and learning checks. -/
def State.aggregateTask (s : State) (n : Ch) : State :=
  let b := (s.ch n).pour.deliv
  let e := (s.ch n).est
  if !b.valid ∨ !s.enabled (pgEST n) then s
  else
    let old := s.estWin n
    let s := s.modEst n (fun e => { e with prevWin := old, prevStat := s.reg (R.EST_STAT n) })
    let s := (s.aggRun n e.aggPend e.iAgg).modEst n (fun e => { e with aggPend := [], iAgg := e.iValid })
    let p := s.aggregate n b.epoch
    let s := s.modEst n (fun e => { e with pub := p })
    let s := s.seqPage (pgEST n) b.epoch b.holdover
    (s.put (F.EST_STAT_GRADE_MIN n) p.gradeMin).putB (F.EST_STAT_EXTRAP n) p.extrapAny

def execAggregateTask (n : Ch) (s : State) : Host.Outcome State Fault Refusal :=
  happen (if (s.ch n).twin.standby then s else s.aggregateTask n)

/-! ## State of power (R233) -/

/-- The horizons, s. -/
def horizons : List Nat := [2, 10, 60]

/-- The predicted voltage at the end of a horizon. -/
def State.vh (s : State) (n : Ch) (c : EstCell) (soc t h i : Rat) : Rat :=
  let e1 := Config.exp (-h / s.chemGrid n 352 soc t)
  let e2 := Config.exp (-h / s.chemGrid n 608 soc t)
  s.ocv n (soc + s.etaOf n i * i * h / (3600 * c.q)) + c.v1 * e1 + s.chemGrid n 224 soc t * (1 - e1) * i
    + c.v2 * e2 + s.chemGrid n 480 soc t * (1 - e2) * i + c.kR * s.chemGrid n 96 soc t * i

/-- The SoC that the state of power takes: 2σ up for charge, 2σ down for discharge. -/
def sopSoc (c : EstCell) (chg : Bool) : Rat :=
  clampR (if chg then c.soc + 2 * sqrtR c.p00 else c.soc - 2 * sqrtR c.p00) 0 1

/-- Twelve bisection steps for the largest current that `ok` admits, rounded down to 1 A. -/
def sopBisect (ok : Rat → Bool) (top : Rat) : Nat :=
  let r := (List.range 12).foldl (fun (a : Rat × Rat) _ =>
    let m := (a.1 + a.2) / 2
    if ok m then (m, a.2) else (a.1, m)) (0, top)
  r.1.floor.toNat

/-- The predicted voltage of a cell for the state of power. -/
def State.sopV (s : State) (n : Ch) (i : Nat) (chg : Bool) (h : Nat) (cur : Rat) : Rat :=
  let c := s.estCell n i
  s.vh n c (sopSoc c chg) (c.temp.getD Config.noTemp) (h : Rat) cur

/-- A cell's current limit at a horizon (R233). -/
def State.sopCell (s : State) (n : Ch) (b : EpochBuf) (i : Nat) (chg : Bool) (k : Nat) : Nat :=
  let c := s.estCell n i
  let h := nth horizons k
  let sg : Rat := if chg then 1 else -1
  let lo := s.chemV n 4
  let hi := s.chemV n 5
  let top := s.chemV n 3 * s.cRated n
  let q := b.cellQ.getD i 4
  if q = 1 ∨ q = 2 then nth (if chg then c.sopC else c.sopD) k
  else match (if q = 3 then s.pairOf n b i else none) with
    | some j => sopBisect (fun m =>
        let v := s.sopV n i chg h (sg * m) + s.sopV n j chg h (sg * m)
        decide (2 * lo ≤ v) && decide (v ≤ 2 * hi)) top
    | none => sopBisect (fun m => let v := s.sopV n i chg h (sg * m); decide (lo ≤ v) && decide (v ≤ hi)) top

/-- The cells that the string limit is taken over: those with a SoC and, where they use it, a previous value. -/
def State.sopCells (s : State) (n : Ch) (b : EpochBuf) : List Nat :=
  (List.range (s.ch n).est.cells.length).filter (fun i =>
    (s.estCell n i).init && b.cellQ.getD i 4 != 4
      && !((b.cellQ.getD i 4 == 1 || b.cellQ.getD i 4 == 2) && (s.estCell n i).sopC == []))

/-- SOP_UPDATE (R233): current limits in mA and power limits in W. -/
def State.sopUpdate (s : State) (n : Ch) : State :=
  let b := (s.ch n).pour.deliv
  let l := s.sopCells n b
  if !b.valid ∨ !s.enabled (pgEST n) ∨ !(s.ch n).est.chemOk ∨ b.epoch % 100 ≠ 99 ∨ l = [] then s
  else
    let lims (chg : Bool) (i : Nat) : List Nat := [0, 1, 2].map (s.sopCell n b i chg)
    let tab := l.map (fun i => (i, lims true i, lims false i))
    let str (chg : Bool) (k : Nat) : Nat :=
      tab.foldl (fun a r => min a (nth (if chg then r.2.1 else r.2.2) k)) (s.get (F.CTLE_STAGE_IRATED n))
    let pow (chg : Bool) (k : Nat) : Nat :=
      let a := str chg k
      let sg : Rat := if chg then 1 else -1
      (roundHalf ((a : Rat) * sumR (l.map (fun i => s.sopV n i chg (nth horizons k) (sg * a))))).toNat
    let s1 := s.mapCells n (fun i c => match tab.find? (fun r => r.1 == i) with
      | some r => { c with sopC := r.2.1, sopD := r.2.2 }
      | none => c)
    s1.modEst n (fun e => { e with pub := { e.pub with
      sopEpoch := b.epoch
      curLim := ([0, 1, 2].map (str true) ++ [0, 1, 2].map (str false)).map (· * 1000)
      powLim := [0, 1, 2].map (pow true) ++ [0, 1, 2].map (pow false) } })

def execSopUpdate (n : Ch) (s : State) : Host.Outcome State Fault Refusal :=
  happen (if (s.ch n).twin.standby then s else s.sopUpdate n)

/-- TASK_LATE (R220): an instance is skipped and counted; the group of a skipped filter update stays. -/
def execTaskLate (n : Ch) (_t : EstTask) (s : State) : Host.Outcome State Fault Refusal :=
  happen ((s.incSat (F.EST_CNT_LATE n)).raise (pgEST n) 6)

/-! ## Rest points and learning (R234 to R236) -/

/-- The direct SoC update of a rest point: value OCV⁻¹(y) with variance (SIGV / slope)². -/
def State.restUpdate (s : State) (n : Ch) (y : Rat) (c : EstCell) : EstCell :=
  let sv := (s.get (F.EST_NOISE_SIGV n) : Rat) / 100000
  let z := s.ocvInv n y
  let r := (sv / s.docv n z) * (sv / s.docv n z)
  let k0 := c.p00 / (c.p00 + r)
  let k1 := c.p01 / (c.p00 + r)
  let k2 := c.p02 / (c.p00 + r)
  let soc := clampR (c.soc + k0 * (z - c.soc)) 0 1
  { c with soc := soc, socPub := soc, v1 := 0, v2 := 0
           p00 := c.p00 - k0 * c.p00, p01 := c.p01 - k0 * c.p01, p02 := c.p02 - k0 * c.p02
           p11 := c.p11 - k1 * c.p01, p12 := c.p12 - k1 * c.p02, p22 := c.p22 - k2 * c.p02 }

/-- A cycle that opens now. -/
def State.cycleOpen (s : State) (c : EstCell) (cur : Rat) : Cycle :=
  let t := c.temp.getD Config.noTemp
  ⟨c.soc, 0, cur, cur, t, t, s.tb⟩

/-- Learning at a usable rest point of cell i (R236): the cycle opens, or closes with a result. -/
def State.learnCell (s : State) (n : Ch) (cur : Rat) (i : Nat) : State :=
  let c := s.estCell n i
  let set (t : State) (c : EstCell) : State := t.modEst n (fun e => { e with cells := setAt c e.cells i c })
  if !s.flag (F.EST_CTRL_LEARN_EN n) ∨ 9 / 10000 < c.p00 then s
  else match c.cycle with
    | none => set s { c with cycle := some (s.cycleOpen c cur) }
    | some y =>
      if absR (c.soc - y.soc0) < 4 / 10 then s
      else
        let qm := y.charge / (c.soc - y.soc0)
        let qn := s.cRated n
        if qn / 2 ≤ qm ∧ qm ≤ qn * 11 / 10 then
          let q := c.q + (s.get (F.EST_LEARN_GAIN n) : Rat) / 256 * (qm - c.q)
          let s := set s { c with qNew := some (q, ⟨y.imin, y.imax, y.tmin, y.tmax⟩), cycle := some (s.cycleOpen c cur) }
          ((s.incSat (F.EST_LEARN_ACCEPTED n)).raise (pgEST n) 3).modEst n (fun e => { e with writeDue := true })
        else
          let s := s.disqualify n 9 (fun j _ => j == i)
          set s { c with cycle := some (s.cycleOpen c cur) }

/-- REST_POINT (R234 to R236): the conditions have held for 900 s, in every epoch up to the last one delivered. -/
def State.restPoint (s : State) (n : Ch) : State :=
  let b := (s.ch n).pour.deliv
  match (s.ch n).est.restT0 with
  | none => s
  | some t =>
    if !s.passedMs t 900000 ∨ !s.enabled (pgEST n) ∨ (s.ch n).est.aggPend ≠ [] then s
    else
      let take (i : Nat) (c : EstCell) : Bool := c.init && decide (10 ≤ c.measRun) && b.cellQ.getD i 4 == 0
      let cur : Rat := (b.istr.toInt : Rat) / 1000
      let l := (List.range (s.ch n).est.cells.length).filter (fun i => take i (s.estCell n i))
      let s1 := s.mapCells n (fun i c => if take i c then s.restUpdate n (b.volt i) c else c)
      let s1 := (l.foldl (fun t i => t.learnCell n (cur - t.bleed n (nth (t.ch n).bal.applied i)) i) s1).openShow n
      let s1 := s1.modEst n (fun e => { e with restT0 := some s.tb, restTmin := [], restTmax := [], restHourAt := s.tb })
      (s1.put (F.EST_STAT_REST_AGE n) 0).putB (F.EST_STAT_REST_NEEDED n) false

def execRestPoint (n : Ch) (s : State) : Host.Outcome State Fault Refusal :=
  happen (if (s.ch n).twin.standby then s else s.restPoint n)

/-- REST_AGE_TICK (R235): an hour without a rest point. -/
def execRestAgeTick (n : Ch) (s : State) : Host.Outcome State Fault Refusal :=
  happen (
    if s.passedMs (s.ch n).est.restHourAt 3600000 then
      let s := (s.incSat (F.EST_STAT_REST_AGE n)).modEst n (fun e => { e with restHourAt := s.tb })
      if 336 ≤ s.get (F.EST_STAT_REST_AGE n) ∧ !s.flag (F.EST_STAT_REST_NEEDED n) then
        ((s.putB (F.EST_STAT_REST_NEEDED n) true).raise (pgEST n) 2).logReg (pgEST n) 0x024
      else s
    else s)

/-! ## Host writes -/

/-- EST.CHEM_DATA presents the staged word at WORD. -/
def State.chemSync (s : State) (n : Ch) : State :=
  s.setReg (R.EST_CHEM_DATA n) (mget (s.ch n).est.stage (s.get (F.EST_CHEM_ADDR_WORD n)))

/-- A write of EST.CHEM_ADDR. -/
def State.doChemAddr (s : State) (n : Ch) (v : Word) : Res :=
  if 864 < bitsOf v 9 0 then refuse .range s else (.ok, (s.put (F.EST_CHEM_ADDR_WORD n) (bitsOf v 9 0)).chemSync n)

/-- WORD advances by 1, stopping at 864 (Table 12.11). -/
def State.chemNext (s : State) (n : Ch) : State :=
  (s.put (F.EST_CHEM_ADDR_WORD n) (min 864 (s.get (F.EST_CHEM_ADDR_WORD n) + 1))).chemSync n

/-- A write of EST.CHEM_DATA, and a read of it. -/
def State.doChemData (s : State) (n : Ch) (v : Word) : Res :=
  (.ok, (s.modEst n (fun e => { e with stage := mset e.stage (s.get (F.EST_CHEM_ADDR_WORD n)) v })).chemNext n)
def State.readChemData (s : State) (n : Ch) : State × Word :=
  (s.chemNext n, mget (s.ch n).est.stage (s.get (F.EST_CHEM_ADDR_WORD n)))

/-- A committed set that parameter MRAM does not hold yet is written while VHOLD is at 17 V or above (R61). -/
def State.chemStore (s : State) (n : Ch) : State :=
  if s.sup.vholdOk then
    s.modEst n (fun e => if e.chemDue then { e with chemNv := some e.chem, chemDue := false } else e)
  else s

/-- EST.CHEM_CMD.COMMIT (R223). -/
def State.doCommitChem (s : State) (n : Ch) : Res :=
  if s.chState n ≠ stISOLATED then refuse .state s
  else
    let m := (s.ch n).est.stage
    match chemFail m with
    | some k => (.range, s.put (F.EST_CHEM_CMD_ERR_WORD n) k)
    | none =>
      let other := mget m 0 ≠ mget (s.ch n).est.chem 0
      let s := s.disqualify n 8 (fun _ _ => true)
      let s := (s.modEst n (fun e => { e with chem := m, chemOk := true, chemDue := true, writeDue := true })).chemStore n
      let s := s.mapCells n (fun _ c =>
        if other then c.unlearn (f32D (mget m 1))
        else if c.envQ.isNone && c.qNew.isNone then { c with q := f32D (mget m 1) } else c)
      let s := ((s.reinit n).put (F.EST_CHEM_CMD_ERR_WORD n) 0xFFFF).putB (F.EST_STAT_CHEM_VALID n) true
      (.ok, (s.setReg (R.EST_CHEM_ID n) (mget m 0)).openShow n)

/-- A write of EST.CHEM_CMD. -/
def State.doChemCmd (s : State) (n : Ch) (v : Word) : Res := if bit v 0 then s.doCommitChem n else (.ok, s)

/-- LEARN_CLEAR (R230, R237). -/
def State.learnClear (s : State) (n : Ch) : State :=
  let s := s.disqualify n 8 (fun _ _ => true)
  ((s.mapCells n (fun _ c => c.unlearn (s.cRated n))).modEst n (fun e => { e with writeDue := true })).openShow n

/-- A write of EST.CTRL (Table 12.8): REINIT and LEARN_CLEAR are refused unless ISOLATED; LEARN_CLEAR is protected. -/
def State.doEstCtrl (s : State) (src : Src) (n : Ch) (v : Word) : Res :=
  if bit v 30 && !s.unlocked src (pgEST n) then refuse .locked s
  else if (bit v 31 || bit v 30) && s.chState n != stISOLATED then refuse .state s
  else
    let s := s.put (F.EST_CTRL_LEARN_EN n) (b2n (bit v 0))
    let s := if bit v 31 then s.reinit n else s
    (.ok, if bit v 30 then s.learnClear n else s)

/-! ## Stored record (R239) -/

/-- The newer valid copy of the record: the second copy when its generation is ahead under R12. -/
def EstS.newest (e : EstS) : Option EstCopy :=
  if e.copyA.valid && e.copyB.valid then
    some (if 0 < sdiff 32 e.copyB.gen.toNat e.copyA.gen.toNat then e.copyB else e.copyA)
  else if e.copyA.valid then some e.copyA
  else if e.copyB.valid then some e.copyB
  else none

/-- The record goes to the older or the invalid copy, one generation above the newer one. -/
def State.estWrite (s : State) (n : Ch) : State :=
  s.modEst n (fun e =>
    let gen := match e.newest with | some c => c.gen + 1 | none => 1
    let rec' : EstCopy := ⟨true, gen, s.ep, e.cells, s.get (F.EST_STAT_REST_AGE n), e.cal, e.calEnv⟩
    let toA := !e.copyA.valid || (e.copyB.valid && decide (0 < sdiff 32 e.copyB.gen.toNat e.copyA.gen.toNat))
    let e := { e with writeDue := false, wroteAt := s.tb }
    if toA then { e with copyA := rec' } else { e with copyB := rec' })

/-- EST_RECORD_WRITE (R239, R61): every 600 s or after a learned value changed, while VHOLD is at 17 V or above. -/
def execEstRecordWrite (n : Ch) (s : State) : Host.Outcome State Fault Refusal :=
  let e := (s.ch n).est
  happen (if s.sup.vholdOk ∧ !e.unloaded ∧ (e.writeDue ∨ s.passedMs e.wroteAt 600000) then s.estWrite n else s)

/-- The estimator at BOOT (R227, R239, Table 12.6 code 5): the newer valid copy, whose outage ends with the first epoch
after BOOT, or the defaults with NVLOST. -/
def State.estBoot (s : State) (n : Ch) : State :=
  let s := (s.putB (F.EST_STAT_CHEM_VALID n) (s.ch n).est.chemOk).setReg (R.EST_CHEM_ID n) (mget (s.ch n).est.chem 0)
  let s := (s.modEst n (fun e => { e with
    stage := e.chem, group := [], restT0 := none, pub := EstPub.reset, prevWin := [], frozenWin := [], prevStat := 0xC0000000
    aggPend := [], iValid := 0, iAgg := 0, storedAt := none, unloaded := false, calKind := 0, calWin := [], calSkip := 0,
    iLast := 0, restHourAt := s.tb, validAt := s.tb, calAt := 0, wroteAt := s.tb })).chemSync n
  match (s.ch n).est.newest with
  | some c =>
    let s := s.modEst n (fun e => { e with
      cells := c.cells.map (fun x => { x with noUpd := true }), cal := c.cal, calOld := c.cal, calEnv := c.calEnv
      storedAt := some c.epoch })
    let s := s.put (F.EST_STAT_REST_AGE n) c.restAge
    s.disqualify n 5 (fun _ _ => true)
  | none =>
    let s := s.modEst n (fun e => { e with
      cells := [], cal := [(0, 1), (0, 1)], calOld := [(0, 1), (0, 1)], calEnv := [none, none] })
    (s.setRaise (F.EST_STAT_NVLOST n) (pgEST n) 5).logReg (pgEST n) 0x024

/-! ## The commands of EST -/

/-- CHEM_DATA_ACCESS: a write of EST.CHEM_DATA, or a read of it. -/
def execChemDataAccess (src : Src) (n : Ch) (w : Option Word) (s : State) : Host.Outcome State Fault Refusal :=
  match w with
  | some v => answer (s.gated src (pgEST n) 0x02C v (fun t => t.doChemData n v))
  | none =>
    match s.reachable src (pgEST n) with
    | .ok =>
      let r := s.readChemData n
      .next { r.1 with last := ⟨.ok, 1, false, 0, [r.2]⟩ }
    | st => answer (st, s)

def execCommitChem (src : Src) (n : Ch) (s : State) : Host.Outcome State Fault Refusal :=
  answer (s.gated src (pgEST n) 0x030 1 (fun t => t.doCommitChem n))

/-- EST.CTRL written with a command bit, LEARN_EN as it stands. -/
def estCtrlWord (s : State) (n : Ch) (b : Nat) : Word := BitVec.ofNat 32 (2 ^ b + s.get (F.EST_CTRL_LEARN_EN n))

def execReinit (src : Src) (n : Ch) (s : State) : Host.Outcome State Fault Refusal :=
  answer (s.gated src (pgEST n) 0x020 (estCtrlWord s n 31) (fun t => t.doEstCtrl src n (estCtrlWord s n 31)))

def execLearnClear (src : Src) (n : Ch) (s : State) : Host.Outcome State Fault Refusal :=
  answer (s.gated src (pgEST n) 0x020 (estCtrlWord s n 30) (fun t => t.doEstCtrl src n (estCtrlWord s n 30)))

/-- EST.ICAL written with a command bit, SEL as it stands. -/
def icalWord (s : State) (n : Ch) (b : Nat) : Word := BitVec.ofNat 32 (2 ^ b + s.get (F.EST_ICAL_SEL n) * 2 ^ 24)

def execIcalOffset (src : Src) (n : Ch) (s : State) : Host.Outcome State Fault Refusal :=
  answer (s.gated src (pgEST n) 0x044 (icalWord s n 31) (fun t => t.doIcal n (icalWord s n 31)))

def execIcalGain (src : Src) (n : Ch) (s : State) : Host.Outcome State Fault Refusal :=
  answer (s.gated src (pgEST n) 0x044 (icalWord s n 30) (fun t => t.doIcal n (icalWord s n 30)))

end Sys2Proof.Machine
end

