-- ==== Sys2Proof/Machine/Ctle.lean ====
section
/-! DEFINITION. The string current control engine (R162 to R187) with the current trajectory that it evaluates at every
sample (R188 to R195). Quantities are exact rationals in A, V and s (DESIGN CHOICE, log entry 5). -/

namespace Sys2Proof.Machine
open Sys2Proof

/-! ## Coefficients -/

/-- Address of a coefficient of bank b (Table 9.2). -/
def bankAddr (n : Ch) (b : Nat) (off : Nat) : Nat := chBase n + (if b = 0 then 0x1800 else 0x1C00) + off

/-- A coefficient of a bank. -/
def State.coefOf (s : State) (n : Ch) (b off : Nat) : Rat := f32D (s.reg (bankAddr n b off))

/-- The active bank, and a coefficient of it. -/
def State.bank (s : State) (n : Ch) : Nat := s.get (F.CTLE_BANKSEL_ACTIVE n)
def State.coef (s : State) (n : Ch) (off : Nat) : Rat := s.coefOf n (s.bank n) off

/-- The cross checks of R178 in their order: the offset of the first failing coefficient. -/
def State.crossFail (s : State) (n : Ch) (b : Nat) : Option Nat :=
  if ¬ s.coefOf n b 0x02C < s.coefOf n b 0x030 then some 0x02C
  else if ¬ s.coefOf n b 0x034 < s.coefOf n b 0x038 then some 0x034
  else if ¬ s.coefOf n b 0x048 < s.coefOf n b 0x044 then some 0x048
  else if ¬ s.coefOf n b 0x050 < s.coefOf n b 0x04C then some 0x050
  else if ¬ s.coefOf n b 0x05C ≤ s.irated n then some 0x05C
  else none

/-- ILOOP samples per second (Table 9.5). -/
def State.rateHz (s : State) (n : Ch) : Nat := 10000 * 2 ^ s.get (F.CTLE_CTRL_RATE n)

/-- Amperes or volts of a value in mA or mV. -/
def milli (i : Int) : Rat := (i : Rat) / 1000

/-- A value in A as a register's mA, rounded to the nearest (DESIGN CHOICE, log entry 16). -/
def toMilli (q : Rat) : Int := roundHalf (q * 1000)

/-! ## Inhibit (R167) -/

/-- Whether any source of R167, of Table 4.19 or of hold-up inhibits the PWM. -/
def State.inhibited (s : State) (n : Ch) : Bool :=
  s.flag (F.CONT_STAT_INHIBIT n) || (s.ch n).ctle.stageFault
    || !(s.energised n || s.chState n == stSTOPPING || (s.chState n == stPRECHARGE && 2 ≤ s.get (F.CONT_STAT_STEP n)))
    || (s.twinCh n && !s.getBit F.TWIN_STAT_OWN n.val) || (s.ch n).twin.taking
    || s.flag (F.CTLE_STAT_NOBUS n)
    || s.get (F.CTLE_STAGE_L_UH n) == 0 || s.get (F.CTLE_STAGE_IRATED n) == 0
    || !s.enabled (pgCTLE n) || s.sup.holdupAt.isSome

/-! ## The legs (R162 to R164) -/

/-- What a leg's command pairs do: off, or switching at a duty, the upper and the lower command complementary with
`dead` ns before each turn-on; its carrier runs `delay` ns behind that of leg 0. -/
inductive LegOut where
  | off
  | switching (duty : Rat) (delay dead : Nat)
  deriving DecidableEq, Repr

/-- The carrier period, ns (R163). -/
def State.carrierNs (s : State) (n : Ch) : Nat := 1000000 / s.get (F.CTLE_CTRL_CARRIER_M n)

/-- The pairs of leg j: off while the PWM is inhibited and above CTRL.LEGS; else every leg runs the duty of the last
computed sample (R162, R163, R172). -/
def State.leg (s : State) (n : Ch) (j : Nat) : LegOut :=
  if s.flag (F.CTLE_STAT_INHIBIT n) || !(s.ch n).ctle.enabled || decide (s.get (F.CTLE_CTRL_LEGS n) ≤ j) then .off
  else .switching (s.ch n).ctle.duty
    (roundHalf ((j : Rat) * (s.carrierNs n : Rat) / (s.get (F.CTLE_CTRL_LEGS n) : Rat))).toNat (s.get (F.CTLE_CTRL_DEADTIME n))

/-! ## The current trajectory (R188 to R195) -/

/-- A write granted at t takes effect at the first evaluation at least 5 µs later (R190). -/
def dueAt (t tb : Nat) : Bool := decide (t + 5000 ≤ tb)

/-- Whether some write of a list is due, and the writes that are not. -/
def anyDue (l : List (Nat × Word)) (tb : Nat) : Bool := l.any (fun x => dueAt x.1 tb)
def notDue (l : List (Nat × Word)) (tb : Nat) : List (Nat × Word) := l.filter (fun x => !dueAt x.1 tb)

/-- The word of a register as an evaluation at `tb` takes it: as before the first write that is not due yet (R190). -/
def effWord (l : List (Nat × Word)) (w : Word) (tb : Nat) : Word :=
  match notDue l tb with | x :: _ => x.2 | [] => w

/-- A limit word of PROF.CUR_LIM or PROF.CUR_STOP (Tables 10.5, 10.6). -/
def curLimOf (w : Word) : Lim :=
  ⟨(bitsOf w 31 20 : Rat) * 10, (bitsOf w 19 10 : Rat) * 1000, (bitsOf w 9 0 : Rat) * 1000000⟩

/-- The limits of PROF.CUR_LIM and PROF.CUR_STOP in force at an evaluation now. -/
def State.curLim (s : State) (n : Ch) : Lim := curLimOf (effWord (s.ch n).ctle.wrLim (s.reg (R.PROF_CUR_LIM n)) s.tb)
def State.curStop (s : State) (n : Ch) : Lim := curLimOf (effWord (s.ch n).ctle.wrStop (s.reg (R.PROF_CUR_STOP n)) s.tb)

/-- The target in force, A, and the target clamped to the stage-3 limits (R194). -/
def State.curTarget (s : State) (n : Ch) : Rat :=
  milli (effWord (s.ch n).ctle.wrTarget (s.reg (R.PROF_CUR_TARGET n)) s.tb).toInt
def State.curClamped (s : State) (n : Ch) : Rat := clampR (s.curTarget n) (-(s.ilimDis n)) (s.ilimChg n)

/-- Begin a current plan: BUSY, no deferral of an older plan. -/
def State.setPlan (s : State) (n : Ch) (pl : Plan) (stopLim : Bool) (clip : Option Rat) : State :=
  ((s.modProf n (fun p => { p with cur := pl, curOn := true, stopLim := stopLim, clip := clip })).putB
    (F.PROF_STAT_CUR_BUSY n) true).putB (F.PROF_STAT_LIMIT_DEFERRED n) false

/-- Plan from k to a target (R192): under the limits given; where every such plan would cross the target, under
PROF.CUR_STOP; where that crosses too, the stop, clipped at the target. -/
def State.planTo (s : State) (n : Ch) (k : Kin) (target : Rat) (stop : Bool) : State :=
  let L := if stop then s.curStop n else s.curLim n
  if !crosses k target L then s.setPlan n (optPlan s.tb k target L) stop none
  else if !crosses k target (s.curStop n) then s.setPlan n (optPlan s.tb k target (s.curStop n)) true none
  else s.setPlan n (stopPlan s.tb k (s.curStop n)) true (some target)

/-- The stage-3 limit in the direction of p, before (`old`) and now. -/
def State.limTo (s : State) (n : Ch) (p : Rat) : Rat := if p < 0 then s.ilimDis n else s.ilimChg n
def State.limWas (s : State) (n : Ch) (p : Rat) : Rat :=
  if p < 0 then (s.ch n).prof.limDis else (s.ch n).prof.limChg

/-- A stage-3 limit has fallen, and lies below |p| (R194). -/
def State.limFell (s : State) (n : Ch) (p : Rat) : Bool :=
  decide (s.limTo n p < s.limWas n p) && decide (s.limTo n p < absR p)

/-- R194: replan to the clamped target: under PROF.CUR_LIM when the limit lies at or above |p|, else under
PROF.CUR_STOP. -/
def State.planLimits (s : State) (n : Ch) (k : Kin) : State :=
  s.planTo n k (s.curClamped n) (decide (s.limTo n k.p < absR k.p))

/-- R191: a limit write. The check takes the plan's own target, or the target at which a clipped stop holds (R192);
the present plan goes on when a stop under the new limits cannot end there. -/
def State.planLimitWrite (s : State) (n : Ch) (k : Kin) : State :=
  let pr := (s.ch n).prof
  let L := if pr.stopLim then s.curStop n else s.curLim n
  let target := pr.clip.getD pr.cur.target
  if stopDist k L ≤ absR (target - k.p) then s.setPlan n (optPlan s.tb k target L) pr.stopLim none
  else if s.flag (F.PROF_STAT_LIMIT_DEFERRED n) then s
  else (s.putB (F.PROF_STAT_LIMIT_DEFERRED n) true).raise (pgPROF n) 2

/-- An evaluation takes the writes that are due. -/
def State.curTaken (s : State) (n : Ch) : State :=
  s.modCtle n (fun c => { c with
    wrTarget := notDue c.wrTarget s.tb, wrLim := notDue c.wrLim s.tb, wrStop := notDue c.wrStop s.tb })

/-- A limit write is due. -/
def State.limDue (s : State) (n : Ch) : Bool :=
  anyDue (s.ch n).ctle.wrLim s.tb || anyDue (s.ch n).ctle.wrStop s.tb

/-- The replan of a CONNECTED or DERATED channel at a sample (R190, R193, R194). -/
def State.curReplan (s : State) (n : Ch) : State :=
  let c := (s.ch n).ctle
  let pr := (s.ch n).prof
  let k := pr.cur.eval s.tb
  let s1 :=
    if !pr.curOn then s.planTo n Kin.rest (s.curClamped n) false
    else if s.limFell n k.p then s.planLimits n k
    else if anyDue c.wrTarget s.tb then s.planTo n k (s.curClamped n) false
    else if clampR (s.curTarget n) (-pr.limDis) pr.limChg ≠ s.curClamped n then s.planLimits n k
    else if s.limDue n then s.planLimitWrite n k
    else s
  ((s1.curTaken n).modProf n (fun p => { p with limChg := s.ilimChg n, limDis := s.ilimDis n })).put
    (F.PROF_STAT_CUR_SRC n) 2

/-- The clip of R192: from the first sample at which the output would cross, it holds the target. -/
def State.curClip (s : State) (n : Ch) : State :=
  let pr := (s.ch n).prof
  match pr.clip with
  | none => s
  | some t =>
    let k := pr.cur.eval s.tb
    if (pr.cur.k0.p ≤ t ∧ t ≤ k.p) ∨ (t ≤ pr.cur.k0.p ∧ k.p ≤ t) then
      (s.modProf n (fun p => { p with cur := holdPlan s.tb t, clip := none })).setRaise (F.PROF_STAT_CLIPPED n)
        (pgPROF n) 4
    else s

/-- A current plan has reached its target: CUR_DONE, and a deferral ends (R191). -/
def State.curDone (s : State) (n : Ch) : State :=
  let pr := (s.ch n).prof
  if s.flag (F.PROF_STAT_CUR_BUSY n) ∧ pr.clip.isNone ∧ pr.cur.doneAt s.tb then
    ((s.putB (F.PROF_STAT_CUR_BUSY n) false).putB (F.PROF_STAT_LIMIT_DEFERRED n) false).raise (pgPROF n) 5
  else s

/-- The generator's state: the last PLOOP reference at rest, the plan, or rest at zero (CUR_SRC, R195). -/
def State.curNow (s : State) (n : Ch) : Kin :=
  match s.get (F.PROF_STAT_CUR_SRC n) with
  | 0 => Kin.rest
  | 1 => ⟨(s.ch n).ctle.irefPre, 0, 0⟩
  | _ => if (s.ch n).prof.curOn then (s.ch n).prof.cur.eval s.tb else Kin.rest

/-- The controlled stop: planned once, at the first sample in STOPPING (R195). -/
def State.curStopping (s : State) (n : Ch) : State :=
  let s1 := if s.get (F.PROF_STAT_CUR_SRC n) = 3 then (if s.limDue n then s.planLimitWrite n (s.curNow n) else s)
    else (s.planTo n (s.curNow n) 0 true).put (F.PROF_STAT_CUR_SRC n) 3
  s1.curTaken n

/-- Sum of the cell values of the newest delivered epoch, V, and whether it has a STALE cell (R174). -/
def EpochBuf.vsum (b : EpochBuf) : Rat :=
  ((List.zip b.cellV b.cellQ).foldl (fun a p => if p.2 = 4 ∨ p.1 = 0xFFFF then a else a + p.1) 0 : Nat) / 10000
def EpochBuf.anyStale (b : EpochBuf) : Bool := b.cellQ.any (· == 1)

/-- PLOOP (R174) with its following-error timer (R183); the reference is kept in `irefPre`. -/
def State.ploop (s : State) (n : Ch) (first : Bool) (vs ts : Rat) : State :=
  let c := (s.ch n).ctle
  let d := (s.ch n).pour.deliv
  let vT0 := if first then vs else c.vT
  let z0 := if first then 0 else c.z
  let stp := s.coef n 0x060 * ts * 1000
  let vT := if d.anyStale then vT0 else clampR d.vsum (vT0 - stp) (vT0 + stp)
  let ep := vT - vs
  let im := s.coef n 0x05C
  let z := clampR (z0 + ts * s.coef n 0x058 * ep) (-im) im
  let r := clampR (s.coef n 0x054 * ep + z) (-im) im
  let far := s.coef n 0x068 < absR ep
  let s1 := s.modCtle n (fun c =>
    { c with vT := vT, z := z, irefPre := r, feSince := if far then (if c.feSince.isNone then some s.tb else c.feSince) else none })
  ((s1.putB (F.CTLE_STAT_FE_PRE n) far).put (F.PROF_STAT_CUR_SRC n) 1)

/-- PLOOP supplies the reference (R174). -/
def State.inPloop (s : State) (n : Ch) : Bool := s.chState n == stPRECHARGE && decide (s.get (F.CONT_STAT_STEP n) < 6)

/-- Stage 1 of R170: the trajectory or PLOOP advances, and the output p of the sample is set; PLOOP's timer ends with
PLOOP (R183); a disabled PROF page holds the reference at zero (Table 4.19). -/
def State.stage1 (s : State) (n : Ch) (first : Bool) (vs ts : Rat) : State × Rat :=
  if s.inPloop n then
    let s1 := s.ploop n first vs ts
    (s1, (s1.ch n).ctle.irefPre)
  else
  let s := if s.flag (F.CTLE_STAT_FE_PRE n) then
    (s.putB (F.CTLE_STAT_FE_PRE n) false).modCtle n (fun c => { c with feSince := none }) else s
  if !s.enabled (pgPROF n) then
    (((s.modProf n (fun p => { p with curOn := false })).put (F.PROF_STAT_CUR_SRC n) 0).setReg (R.PROF_CUR_OUT n) 0, 0)
  else
    let s0 := if first ∧ s.energised n then s.modProf n (fun p => { p with curOn := false }) else s
    let s1 := if s0.chState n = stSTOPPING then s0.curStopping n else s0.curReplan n
    let s2 := (s1.curClip n).curDone n
    let p := ((s2.ch n).prof.cur.eval s.tb).p
    (s2.putI (F.PROF_CUR_OUT_P n) (toMilli p), p)

/-! ## Injection (R184, R210) -/

/-- The host injector's signal at sample `injK` of the injection; a sine runs in time-base time from the start sample. -/
def State.injSignal (s : State) (n : Ch) : Rat :=
  let c := (s.ch n).ctle
  if !c.injOn then 0 else
  let amp := (s.get (F.CTLE_INJ_PARAM_AMP n) : Rat) / 100
  let fr := s.get (F.CTLE_INJ_PARAM_FREQ n)
  match s.get (F.CTLE_INJ_CTRL_MODE n) with
  | 1 => amp * Config.sin ((fr : Rat) / 10 * (((s.tb - c.injT0 : Nat) : Rat) / 1000000000))
  | 2 => amp
  | 3 => if Config.prbs (c.injK / (max fr 1) % 2047) then amp else -amp
  | _ => 0

/-- The impedance block's signal (R210), while it holds the injector. -/
def State.impSignal (s : State) (n : Ch) : Rat :=
  let p := (s.ch n).imp
  if !s.flag (F.IMP_STAT_INJ n) then 0 else
  let dt : Rat := (((s.clock.plant : Int) - (p.e0 : Int) * 1000000 : Int) : Rat) / 1000000000
  let w : Nat := p.weights.foldl (· + ·) 0
  sumR ((List.range p.ntones).map (fun m =>
    p.limit * (nth p.weights m : Rat) / (w : Rat) *
      Config.sin ((nth p.bins m : Rat) / 20 * dt
        + (-((m * (m - 1) : Nat) : Rat) / (p.ntones : Rat) + ((m * n.val : Nat) : Rat) / 4) / 2)))

/-! ## VLIM and ILOOP (R170 to R173) -/

/-- Stages 3 and 4 of R170 with VLIM (R171): the reference, the new integrators, the limiter code of Table 9.9. -/
structure RefOut where
  iref : Rat
  yc : Rat
  yd : Rat
  act : Bool
  limiter : Nat

/-- Until |p| reaches a limit that has fallen below it, stage 3 clamps the generator's reference at |p|, in the
direction of p (R194); PLOOP's reference is clamped to the limits themselves. -/
def State.refClamp (s : State) (n : Ch) (r2 p vs vb ts yc0 yd0 : Rat) : RefOut :=
  let chg := s.ilimChg n
  let dis := s.ilimDis n
  let hi := if s.inPloop n then chg else maxR chg p
  let lo := if s.inPloop n then dis else maxR dis (-p)
  let r3 := clampR r2 (-lo) hi
  let l3 := if hi < r2 then 1 else if r2 < -lo then 2 else 0
  let ec := minR (s.coef n 0x044 - vs) (vb - s.coef n 0x050)
  let ed := minR (vs - s.coef n 0x048) (s.coef n 0x04C - vb)
  let yc := clampR (yc0 + ts * s.coef n 0x040 * ec) 0 chg
  let yd := clampR (yd0 + ts * s.coef n 0x040 * ed) 0 dis
  let ic := clampR (s.coef n 0x03C * ec + yc) 0 chg
  let id := clampR (s.coef n 0x03C * ed + yd) 0 dis
  ⟨clampR r3 (-id) ic, yc, yd, decide (ic < chg) || decide (id < dis),
    if ic < r3 then 3 else if r3 < -id then 4 else l3⟩

/-- ILOOP of R172: command, integrator, duty, sat, whether the duty clamp changed the command, and the error. -/
structure LoopOut where
  v : Rat
  x : Rat
  d : Rat
  sat : Bool
  clamped : Bool
  e : Rat

def State.iloop (s : State) (n : Ch) (first : Bool) (iref i vs vb ts x0 inj : Rat) : LoopOut :=
  let e := if first then 0 else iref - i
  let vu := vs + s.coef n 0x020 * e + x0
  let v := clampR vu (s.coef n 0x034 * vb) (s.coef n 0x038 * vb)
  let xmin := s.coef n 0x02C
  let xmax := s.coef n 0x030
  let x := clampR (x0 + ts * (s.coef n 0x024 * e + s.coef n 0x028 * (v - vu))) xmin xmax
  ⟨v, x, (v + inj) / vb, decide (v ≠ vu) || decide (x = xmin) || decide (x = xmax), decide (v ≠ vu), e⟩

/-! ## Model plausibility (R181) -/

/-- The filtered residual of one input. -/
def State.rfNext (s : State) (n : Ch) (ts rf i iPrev : Rat) : Rat :=
  let c := (s.ch n).ctle
  let L := (s.get (F.CTLE_STAGE_L_UH n) : Rat) / 1000000
  let ip := iPrev + ts / L * (c.duty * c.vbPrev - c.vsPrev - s.coef n 0x078 * iPrev)
  rf + ts / s.coef n 0x070 * (absR (i - ip) - rf)

/-- A current input is failed: its flag, the MODEL source, cause I_PATH (Table 9.3, R266). -/
def State.failInput (s : State) (n : Ch) (aux : Bool) : State :=
  let s1 := s.putB (if aux then F.CTLE_STAT_IAUX_FAIL n else F.CTLE_STAT_IMAIN_FAIL n) true
  (s1.raise (pgCTLE n) 5).setCause n 1 true

/-- The outcomes of Table 9.3, from the implausible inputs. -/
def State.modelJudge (s : State) (n : Ch) (badMain badAux : Bool) : State :=
  let isel := s.get (F.POUR_CTRL_ISEL n)
  if isel = 0 then
    let failed := s.flag (F.CTLE_STAT_IMAIN_FAIL n) || s.flag (F.CTLE_STAT_IAUX_FAIL n)
    if (badMain && badAux) || ((badMain || badAux) && failed) then (s.pwmOff n).tripC n 0x10
    else if badMain then s.failInput n false
    else if badAux then s.failInput n true
    else s
  else if (isel = 1 ∧ badMain) ∨ (isel = 2 ∧ badAux) then (s.pwmOff n).tripC n 0x10
  else s

/-! ## Capture (R185) -/

/-- The value of a signal code. -/
def capSig (code : Nat) (iref i e v x vs vb inj im ia rf : Rat) : Rat :=
  match code with
  | 0 => iref | 1 => i | 2 => e | 3 => v | 4 => x | 5 => vs | 6 => vb | 7 => inj | 8 => im | 9 => ia | _ => rf

/-- The epoch to which an ILOOP sample taken now belongs: sample k of E falls at its start + 100 µs + k · T_s, so the last
samples of E lie in E + 1 (R165). -/
def State.smpEp (s : State) : Nat := (s.clock.plant + (2 ^ 48 * 1000000 - 100000)) / 1000000 % 2 ^ 48

/-- Store a pair when the capture is running and its turn has come. -/
def State.capture (s : State) (n : Ch) (k : Nat) (sig : Nat → Rat) : State :=
  if !s.flag (F.CTLE_CAP_STAT_ARMED n) then s else
  let cp0 := (s.ch n).ctle.cap
  let start := !cp0.started && s.get (F.CTLE_CAP_CTRL_TRIG n) == 0 && k == 0 && cp0.epoch != s.smpEp
  let cp := if start then { cp0 with started := true, epoch := s.smpEp, first := 0, skip := 0 } else cp0
  if !cp.started then s
  else if 4096 ≤ s.get (F.CTLE_CAP_STAT_COUNT n) then s.modCtle n (fun c => { c with cap := cp })
  else if cp.skip ≠ 0 then s.modCtle n (fun c => { c with cap := { cp with skip := cp.skip - 1 } })
  else
    let a := toF32 (sig (s.get (F.CTLE_CAP_CTRL_SIG_A n)))
    let b := toF32 (sig (s.get (F.CTLE_CAP_CTRL_SIG_B n)))
    let s1 := s.modCtle n (fun c => { c with cap :=
      { cp with data := cp.data ++ [a, b], skip := s.get (F.CTLE_CAP_CTRL_DECIM n) - 1
                epoch := if cp.data = [] then s.smpEp else cp.epoch
                first := if cp.data = [] then k else cp.first } })
    s1.put (F.CTLE_CAP_STAT_COUNT n) (s.get (F.CTLE_CAP_STAT_COUNT n) + 1)

/-! ## The sample -/

/-- A stream's value at a sample; a VSTR that did not decode is a value the spec leaves open (DESIGN CHOICE, log entry 17). -/
def State.vstrAt (s : State) (v : Option Int) : Rat × State :=
  match v with
  | some x => (milli x, s)
  | none => let d := s.draw; (milli (d.1.toNat : Int), d.2)

/-- The sample's start: the thermal limits come into force at sample 0 (R280), and VBUS is judged (R169). -/
def State.ctleHead (s : State) (n : Ch) (i : CtleIn) : State :=
  let s := if i.k = 0 then
    s.modCtle n (fun c => { c with thChg := s.get (F.THERM_LIM_CHG n.val), thDis := s.get (F.THERM_LIM_DIS n.val) }) else s
  let s := s.modCtle n (fun c => { c with vBusNow := i.vBus })
  let bad := match i.vBus with | some v => decide (v < 10000) | none => true
  let s := s.putB (F.CTLE_STAT_NOBUS n) bad
  if bad && s.energised n then s.tripC n 0x0E else s

/-- The input that ILOOP regulates (R173): its value, and whether it is IAUX. -/
def State.iSel (s : State) (n : Ch) (i : CtleIn) : Option Int × Bool :=
  let m := if s.flag (F.CTLE_STAT_IMAIN_FAIL n) then none else i.iMain
  let a := if s.flag (F.CTLE_STAT_IAUX_FAIL n) then none else i.iAux
  match s.get (F.POUR_CTRL_ISEL n) with
  | 0 => if m.isSome then (m, false) else (a, a.isSome)
  | 1 => (m, false)
  | _ => (a, true)

/-- The values of a sample: at sample 0 of an epoch that Pour samples, those from which Pour derives the epoch (R165);
then with the calibration of the current inputs (R231). -/
def State.ctleIn (s : State) (n : Ch) (i : CtleIn) : CtleIn :=
  let p := (s.ch n).pour
  let i := if i.k = 0 ∧ p.on ∧ p.sampled ∧ p.epoch = s.smpEp then
    { i with iMain := p.smp.iMain, iAux := p.smp.iAux, vStr := p.smp.vStr, vBus := p.smp.vBus } else i
  { i with iMain := s.calIn n false i.iMain, iAux := s.calIn n true i.iAux }

/-- A computed sample: reference path, VLIM, ILOOP, plausibility, status, capture. -/
def State.ctleRun (s : State) (n : Ch) (i : CtleIn) (cur : Int) (vbmV : Int) : State :=
  let first := !(s.ch n).ctle.enabled
  let ts : Rat := 1 / (s.rateHz n : Rat)
  let s := if first then s.modCtle n (fun c =>
    { c with enabled := true, x := 0, yc := 0, yd := 0, rfMain := 0, rfAux := 0, since := 0 }) else s
  let w := s.vstrAt i.vStr
  let s := w.2
  let vs := w.1
  let vb := milli vbmV
  let st := s.stage1 n first vs ts
  let s := st.1
  let p := st.2
  let pt := s.get (F.CTLE_INJ_CTRL_POINT n)
  let inj := s.injSignal n
  let imp := s.impSignal n
  let r2 := p + (if pt = 0 then inj else 0) + imp
  let c := (s.ch n).ctle
  let ro := s.refClamp n r2 p vs vb ts c.yc c.yd
  let aux := (s.iSel n i).2
  let lo := s.iloop n first ro.iref (milli cur) vs vb ts c.x (if pt = 1 then inj else 0)
  let im := i.iMain.filter (fun _ => !s.flag (F.CTLE_STAT_IMAIN_FAIL n))
  let ia := i.iAux.filter (fun _ => !s.flag (F.CTLE_STAT_IAUX_FAIL n))
  let rfM := match im with | some v => if first then 0 else s.rfNext n ts c.rfMain (milli v) c.iMainPrev | none => c.rfMain
  let rfA := match ia with | some v => if first then 0 else s.rfNext n ts c.rfAux (milli v) c.iAuxPrev | none => c.rfAux
  let s := s.modCtle n (fun c => { c with
    x := lo.x, yc := ro.yc, yd := ro.yd, duty := lo.d, ePrev := lo.e, vbPrev := vb, vsPrev := vs
    iMainPrev := (match im with | some v => milli v | none => c.iMainPrev)
    iAuxPrev := (match ia with | some v => milli v | none => c.iAuxPrev)
    rfMain := rfM, rfAux := rfA, since := c.since + 1, refLimited := decide (ro.limiter ≠ 0) })
  let s := (s.putB (F.CTLE_STAT_INHIBIT n) false).put (F.CTLE_STAT_LAW n)
    (if s.inPloop n then 2 else 1)
  let s := ((s.putB (F.CTLE_STAT_SAT n) lo.sat).putB (F.CTLE_STAT_VLIM_ACT n) ro.act).put (F.CTLE_STAT_LIMITER n)
    (if lo.clamped then 5 else ro.limiter)
  let s := s.setReg (R.CTLE_IREF n) (intWord (toMilli ro.iref))
  let s := (s.put (F.CTLE_MODEL_RF_MAIN n) (min 0xFFFF (rfM * 100).floor.toNat)).put (F.CTLE_MODEL_RF_AUX n)
    (min 0xFFFF (rfA * 100).floor.toNat)
  let s := s.capture n i.k (fun code => capSig code ro.iref (milli cur) lo.e lo.v lo.x vs vb (inj + imp)
    (match i.iMain with | some v => milli v | none => 0) (match i.iAux with | some v => milli v | none => 0)
    (if aux then rfA else rfM))
  let thr := s.coef n 0x074
  if 20 ≤ c.since then s.modelJudge n (decide (thr < rfM) && im.isSome) (decide (thr < rfA) && ia.isSome) else s

/-- Step 6 and step 7 of Table 14.3 at the first sample after step 5: the reference source changes, and the channel
is CONNECTED, or DERATED with a cause active (R264). -/
def State.connectDone (s : State) (n : Ch) : State :=
  let c := s.get (F.SAFE_DEG_STAT_CAUSES n)
  let low := if c % 2 = 1 then 0x40 else if c / 2 % 2 = 1 then 0x41 else if c / 4 % 2 = 1 then 0x42 else 0x43
  (s.enterState n (if c = 0 then stCONNECTED else stDERATED) low).raise (pgCONT n) 2

/-- The injection ends: ACTIVE, and the INJ_END source. -/
def State.injFinish (s : State) (n : Ch) : State :=
  ((s.modCtle n (fun c => { c with injOn := false, injFrom := none, injK := 0, injStop := false })).putB
    (F.CTLE_INJ_CTRL_ACTIVE n) false).raise (pgCTLE n) 7

/-- A sample instant of the injection has passed; a STOP ends it at the next one (Table 9.15). -/
def State.injTick (s : State) (n : Ch) : State :=
  s.modCtle n (fun c => { c with injK := if c.injOn then c.injK + 1 else c.injK })
def State.injStopCheck (s : State) (n : Ch) : State := if (s.ch n).ctle.injStop then s.injFinish n else s

/-- CTLE_SAMPLE (R165 to R174, R181, R188 to R195): one ILOOP sample instant. A sample that is not late ends a run of
late ones (R166); VBUS is judged in every state (R169). -/
def State.ctleSample (s : State) (n : Ch) (i : CtleIn) : State :=
  if s.mode = mDECAF then s else
  let i := s.ctleIn n i
  let s := (s.modCtle n (fun c => { c with lateRun := 0 })).injStopCheck n
  let s := s.ctleHead n i
  let s := if s.chState n = stPRECHARGE ∧ s.get (F.CONT_STAT_STEP n) = 6 then
    (s.connectDone n).modProf n (fun p => { p with curOn := false }) else s
  if s.inhibited n then (s.pwmOff n).injTick n
  else match (s.iSel n i).1, i.vBus with
    | some cur, some vb => (s.ctleRun n i cur vb).injTick n
    | none, _ => (s.pwmOff n).tripC n 0x0F
    | some _, none => s.pwmOff n

def execCtleSample (n : Ch) (i : CtleIn) (s : State) : Host.Outcome State Fault Refusal := happen (s.ctleSample n i)

/-- LATE (R166): the sample is abandoned and counted; the third in a row trips. -/
def execLate (n : Ch) (s : State) : Host.Outcome State Fault Refusal :=
  let r := (s.ch n).ctle.lateRun + 1
  let s := ((s.incSat (F.CTLE_CNT_LATE n)).raise (pgCTLE n) 2).modCtle n (fun c => { c with lateRun := r })
  let s := (s.injStopCheck n).injTick n
  happen (if 3 ≤ r then (s.pwmOff n).tripC n 0x12 else s)

/-- STAGE_FAULT (R168): the FAULT pair's level. -/
def execStageFault (n : Ch) (asserted : Bool) (s : State) : Host.Outcome State Fault Refusal :=
  let was := (s.ch n).ctle.stageFault
  let s := (s.modCtle n (fun c => { c with stageFault := asserted })).putB (F.CTLE_STAT_STAGE_FAULT n) asserted
  let s := s.pageFault (pgCTLE n) asserted
  happen (
    if asserted && !was then
      let s := (s.pwmOff n).raise (pgCTLE n) 9
      if s.chState n = stPRECHARGE ∨ s.energised n ∨ s.chState n = stSTOPPING then s.tripC n 0x0D
      else s.logReg (pgCTLE n) 0x030
    else s)

/-- The HOLD outputs' commands (CONT.STAT; R261). -/
def State.hold (s : State) (n : Ch) (pos neg pre : Bool) : State :=
  ((s.putB (F.CONT_STAT_HOLD_POS n) pos).putB (F.CONT_STAT_HOLD_NEG n) neg).putB (F.CONT_STAT_HOLD_PRE n) pre

/-- PRE_DONE (R174, Table 14.3 step 2 to 3): 10 epochs within PRE_WIN. -/
def execPreDone (n : Ch) (s : State) : Host.Outcome State Fault Refusal :=
  happen (
    if s.chState n = stPRECHARGE ∧ s.get (F.CONT_STAT_STEP n) = 2 ∧ 10 ≤ (s.ch n).pour.preRun then
      let s := (s.putB (F.CTLE_STAT_PRE_DONE n) true).put (F.CONT_STAT_STEP n) 3
      (s.putB (F.CONT_STAT_HOLD_PRE n) true).modSafe n (fun f => { f with stepAt := s.tb })
    else s)

/-- PLOOP_FE (R183): the timer has reached PRE_FE_TIME. -/
def execPloopFe (n : Ch) (s : State) : Host.Outcome State Fault Refusal :=
  happen (
    match (s.ch n).ctle.feSince with
    | some t =>
      if s.chState n = stPRECHARGE ∧ s.coef n 0x06C * 1000000 ≤ ((s.tb - t : Nat) : Rat) then
        ((s.raise (pgCTLE n) 6).pwmOff n).tripC n 0x0C
      else s
    | none => s)

/-- VLIM_MODEL (R182): 10 consecutive counted epochs. -/
def execVlimModel (n : Ch) (s : State) : Host.Outcome State Fault Refusal :=
  happen (if s.energised n ∧ 10 ≤ (s.ch n).pour.vlimRun then (s.pwmOff n).tripC n 0x11 else s)

/-! ## Bank swap (R178 to R180) -/

/-- Time-base time of the first sample instant at least 5 µs after now (R165, R179). -/
def State.swapSample (s : State) (n : Ch) : Nat :=
  let ts := 1000000000 / s.rateHz n
  let ph := (s.clock.plant + 5000 + 900000) % ts
  s.tb + 5000 + (if ph = 0 then 0 else ts - ph)

/-- Whether the sample instant of a pending swap has come (R179, R311): the first one 5 µs after the grant, or sample 0
of the epoch in SWAP_EPOCH. -/
def State.swapDue (s : State) (n : Ch) : Bool :=
  match (s.ch n).ctle.swapAt with
  | none => false
  | some t => if (s.ch n).ctle.swapEpoch then 0 ≤ sdiff 32 (s.smpEp % 2 ^ 32) t else t ≤ s.tb

/-- BANKSEL written with REQ. -/
def State.doBankReq (s : State) (n : Ch) (atEpoch : Bool) : Res :=
  if s.flag (F.CTLE_BANKSEL_PENDING n) then refuse .state s
  else match s.crossFail n (1 - s.bank n) with
    | some off =>
      let s := (s.put (F.CTLE_STAT_REJ_OFF n) (off / 4)).incSat (F.CTLE_CNT_REJECTS n)
      (.range, (s.putB (F.CTLE_STAT_SWAP_REJECT n) true).raise (pgCTLE n) 4)
    | none =>
      let ahead := sdiff 32 (s.reg (R.CTLE_SWAP_EPOCH n)).toNat s.ep32.toNat
      if atEpoch ∧ ¬ (1 ≤ ahead ∧ ahead ≤ 60000) then refuse .range s
      else
        let t := if atEpoch then (s.reg (R.CTLE_SWAP_EPOCH n)).toNat else s.swapSample n
        (.ok, (s.putB (F.CTLE_BANKSEL_PENDING n) true).modCtle n (fun c =>
          { c with swapAt := some t, swapEpoch := atEpoch }))

/-- BANKSEL written with CANCEL: a pending swap is dropped; without one, or from the swap's sample instant on, no effect
(R179). -/
def State.doBankCancel (s : State) (n : Ch) : Res :=
  if s.swapDue n then (.ok, s) else
  (.ok, (s.putB (F.CTLE_BANKSEL_PENDING n) false).modCtle n (fun c => { c with swapAt := none }))

/-- A write of CTLE.BANKSEL (Table 9.7). -/
def State.doBanksel (s : State) (n : Ch) (v : Word) : Res :=
  if bit v 0 && bit v 1 then refuse .range s
  else if bit v 0 then s.doBankReq n (bit v 2)
  else if bit v 1 then s.doBankCancel n
  else (.ok, s)

/-- SWAP (R179, R180): at the swap sample. -/
def execSwap (n : Ch) (s : State) : Host.Outcome State Fault Refusal :=
  happen (
    if s.flag (F.CTLE_BANKSEL_PENDING n) ∧ s.swapDue n then
      let old := s.bank n
      let new := 1 - old
      let c := (s.ch n).ctle
      let x1 := if s.flag (F.CTLE_CTRL_BUMPMODE n)
        then c.x + (s.coefOf n old 0x020 - s.coefOf n new 0x020) * c.ePrev else c.x
      let im := s.coefOf n new 0x05C
      let s := s.modCtle n (fun c =>
        { c with
          swapAt := none
          x := if c.enabled then clampR x1 (s.coefOf n new 0x02C) (s.coefOf n new 0x030) else c.x
          z := if c.enabled then clampR c.z (-im) im else c.z
          cap := if s.flag (F.CTLE_CAP_STAT_ARMED n) ∧ s.get (F.CTLE_CAP_CTRL_TRIG n) = 2 then { c.cap with started := true }
            else c.cap })
      let s := (s.put (F.CTLE_BANKSEL_ACTIVE n) new).putB (F.CTLE_BANKSEL_PENDING n) false
      (s.incSat (F.CTLE_CNT_SWAPS n)).raise (pgCTLE n) 3
    else s)

/-- Accepted range of a coefficient by its offset (Table 9.2): limits that are no binary32 values are the nearest ones. -/
def bankRange (off : Nat) : Rat × Rat :=
  match off with
  | 0x020 | 0x03C | 0x054 | 0x084 => (0, 100)
  | 0x024 | 0x028 => (0, 1000000)
  | 0x02C => (-500, 0)
  | 0x030 => (0, 500)
  | 0x034 => (0, 1 / 2)
  | 0x038 => (1 / 2, 1)
  | 0x040 => (0, 100000)
  | 0x044 | 0x048 | 0x04C | 0x050 => (0, 1600)
  | 0x058 => (0, 10000)
  | 0x05C => (0, 50)
  | 0x060 => (f32D 0x3C23D70A, 100)
  | 0x064 => (f32D 0x3DCCCCCD, 100)
  | 0x068 => (1, 500)
  | 0x06C | 0x08C => (1, 10000)
  | 0x070 => (f32D 0x38D1B717, 1)
  | 0x074 => (f32D 0x3DCCCCCD, 1000)
  | 0x078 => (0, 10)
  | 0x07C => (1, 200)
  | 0x080 => (0, 1)
  | _ => (16, 65536)

/-- A write to coefficient `off` of bank b (R177). -/
def State.doCoef (s : State) (n : Ch) (b off : Nat) (v : Word) : Res :=
  if b = s.bank n ∧ s.chState n ≠ stISOLATED then refuse .state s
  else if b ≠ s.bank n ∧ s.flag (F.CTLE_BANKSEL_PENDING n) then refuse .state s
  else match f32 v with
    | none => refuse .range s
    | some q =>
      if q < (bankRange off).1 ∨ (bankRange off).2 < q then refuse .range s
      else if off = 0x05C ∧ s.irated n < q then refuse .range s
      else (.ok, s.setReg (bankAddr n b off) v)

/-- CTLE.ILOOP_KP and ILOOP_KI (R186): KP or KI of the active bank. -/
def State.doGain (s : State) (n : Ch) (ki : Bool) (v : Word) : Res :=
  s.doCoef n (s.bank n) (if ki then 0x024 else 0x020) v

/-! ## Injection (R184) -/

/-- The checks of an accepted START. -/
def State.injCheck (s : State) (n : Ch) (v : Word) : Status :=
  let m := bitsOf v 21 20
  let amp := (s.get (F.CTLE_INJ_PARAM_AMP n) : Rat) / 100
  let fr := s.get (F.CTLE_INJ_PARAM_FREQ n)
  if s.chState n ≠ stCONNECTED ∨ ¬ (s.mode = mRUN ∨ s.mode = mLIMP) ∨ m = 0 ∨ s.flag (F.IMP_STAT_INJ n) then .state
  else if (if bitsOf v 25 24 = 0 then s.irated n / 10 else 60) < amp then .range
  else if m = 1 ∧ (fr = 0 ∨ (s.rateHz n : Rat) / 4 < (fr : Rat) / 10) then .range
  else if m = 3 ∧ (fr = 0 ∨ 64 < fr) then .range
  else .ok

/-- A write of CTLE.INJ_CTRL (Table 9.15). -/
def State.doInjCtrl (s : State) (n : Ch) (v : Word) : Res :=
  if 1 < bitsOf v 25 24 ∨ bitsOf v 15 0 = 0 ∨ 60000 < bitsOf v 15 0 then refuse .range s
  else
    let chk := if bit v 31 then s.injCheck n v else .ok
    if chk ≠ .ok then refuse chk s
    else
      let s := ((s.put (F.CTLE_INJ_CTRL_POINT n) (bitsOf v 25 24)).put (F.CTLE_INJ_CTRL_MODE n) (bitsOf v 21 20)).put
        (F.CTLE_INJ_CTRL_DURATION n) (bitsOf v 15 0)
      let s := if bit v 28 then s.putB (F.CTLE_INJ_CTRL_ABORT n) false else s
      let s := if bit v 31 then s.modCtle n (fun c => { c with injFrom := some ((s.ep + 1) % 2 ^ 48) }) else s
      (.ok, if bit v 30 ∧ (s.ch n).ctle.injFrom.isSome then s.modCtle n (fun c => { c with injStop := true }) else s)

/-- INJ_BEGIN: at sample 0 of the epoch after START. -/
def execInjBegin (n : Ch) (s : State) : Host.Outcome State Fault Refusal :=
  happen (
    match (s.ch n).ctle.injFrom with
    | none => s
    | some e =>
      if (s.ch n).ctle.injOn ∨ sdiff 48 s.ep e < 0 then s
      else if s.chState n ≠ stCONNECTED then (s.putB (F.CTLE_INJ_CTRL_ABORT n) true).injFinish n
      else
        (s.modCtle n (fun c =>
          { c with injOn := true, injK := 0, injT0 := s.tb, injFrom := some s.ep
                   cap := if s.flag (F.CTLE_CAP_STAT_ARMED n) ∧ s.get (F.CTLE_CAP_CTRL_TRIG n) = 1
                     then { c.cap with started := true } else c.cap })).putB (F.CTLE_INJ_CTRL_ACTIVE n) true)

/-- INJ_END: after DURATION epochs, or with ABORT when the channel has left CONNECTED. -/
def execInjEnd (n : Ch) (s : State) : Host.Outcome State Fault Refusal :=
  happen (
    match (s.ch n).ctle.injFrom with
    | none => s
    | some e =>
      if s.chState n ≠ stCONNECTED then (s.putB (F.CTLE_INJ_CTRL_ABORT n) true).injFinish n
      else if (s.ch n).ctle.injOn ∧ (s.get (F.CTLE_INJ_CTRL_DURATION n) : Int) ≤ sdiff 48 s.ep e then s.injFinish n
      else s)

/-! ## Capture commands (R185) -/

/-- A write of CTLE.CAP_CTRL (Table 9.17). -/
def State.doCapCtrl (s : State) (n : Ch) (v : Word) : Res :=
  if 10 < bitsOf v 27 24 ∨ 10 < bitsOf v 19 16 ∨ bitsOf v 15 8 = 0 ∨ bitsOf v 1 0 = 3 then refuse .range s
  else
    let s := s.setReg (R.CTLE_CAP_CTRL n) (v &&& 0x0F0FFF03)
    if bit v 31 then
      (.ok, (s.setReg (R.CTLE_CAP_STAT n) 0x40000000).modCtle n (fun c =>
        { c with cap := { CapS.reset with epoch := s.ep } }))
    else (.ok, s)

/-- CAP_DONE: 4,096 pairs stored. -/
def execCapDone (n : Ch) (s : State) : Host.Outcome State Fault Refusal :=
  happen (
    if s.get (F.CTLE_CAP_STAT_COUNT n) = 4096 ∧ s.flag (F.CTLE_CAP_STAT_ARMED n) then
      ((s.putB (F.CTLE_CAP_STAT_DONE n) true).putB (F.CTLE_CAP_STAT_ARMED n) false).raise (pgCTLE n) 8
    else s)

/-- A read of CTLE.CAP_DATA: the status, the word and the state. -/
def State.readCapData (s : State) (n : Ch) : Status × State × Word :=
  if !s.flag (F.CTLE_CAP_STAT_DONE n) then (.state, s, 0)
  else
    let i := s.get (F.CTLE_CAP_STAT_RDIDX n)
    let cp := (s.ch n).ctle.cap
    if 8194 ≤ i then (.ok, s, 0)
    else
      let w := if i = 0 then BitVec.ofNat 32 cp.epoch else if i = 1 then BitVec.ofNat 32 cp.first
        else cp.data.getD (i - 2) 0
      (.ok, s.put (F.CTLE_CAP_STAT_RDIDX n) (i + 1), w)

end Sys2Proof.Machine
end

