-- ==== Sys2Proof/Machine/Ring.lean ====
section
/-! DEFINITION. The ring master of a channel (R85 to R112): frames, ring start, delay measurement, the command window,
breaks and rejoin. -/

namespace Sys2Proof.Machine
open Sys2Proof

/-! ## Frames (R90 to R94) -/

/-- Body of a frame: CTRL, ADDR, LEN, SEQ, PAYLOAD. -/
def frameBody (op lane addr seq : Nat) (payload : List Byte) : List Byte :=
  [BitVec.ofNat 8 (op * 16 + lane * 8), BitVec.ofNat 8 addr, BitVec.ofNat 8 payload.length] ++ beBytes 2 (seq % 65536)
    ++ payload

/-- END of a frame (Table 5.2). -/
def frameEnd (body : List Byte) (count wrap : Nat) : List Byte :=
  [0xFD, BitVec.ofNat 8 count, BitVec.ofNat 8 wrap,
    crc8 (body.take 5 ++ [BitVec.ofNat 8 count, BitVec.ofNat 8 wrap])]

/-- A frame as the module sends it (Table 5.2). -/
def frameBytes (op lane addr seq : Nat) (payload : List Byte) : List Byte :=
  let body := frameBody op lane addr seq payload
  [0x55, 0x55, 0xD5] ++ body ++ wordBytes (crc32 body) ++ frameEnd body 0 0

/-- TRIG (Table 5.3). -/
def trigBytes (lane seq : Nat) : List Byte :=
  let b : List Byte := BitVec.ofNat 8 (0x10 + lane * 8) :: beBytes 2 (seq % 65536)
  [0x55, 0x55, 0xD5] ++ b ++ [crc8 b]

/-- A WR_REG frame for the command window (R94, Table 5.11). -/
def wrReg (cls addr reg : Nat) (ws : List Word) : CmdFrame := ⟨cls, 4, addr, beBytes 2 reg ++ ws.flatMap wordBytes⟩

/-- A RD_REG frame of `count` registers (R94, Table 5.5). -/
def rdReg (addr reg count : Nat) : CmdFrame := ⟨5, 5, addr, beBytes 2 reg ++ [BitVec.ofNat 8 count]⟩

/-- The register that a WR_REG frame starts at, and its words. -/
def CmdFrame.reg (f : CmdFrame) : Nat := beNat (f.payload.take 2)
def CmdFrame.words (f : CmdFrame) : List Word := bytesWords (f.payload.drop 2)

/-! ## Ports, times -/

/-- Tiles enumerated. -/
def State.tiles (s : State) (n : Ch) : Nat := s.get (F.RING_STAT_TILES n)

/-- The ring is in RUN or SPLIT. -/
def State.ringRuns (s : State) (n : Ch) : Bool := s.get (F.RING_STAT_STATE n) == 5 || s.get (F.RING_STAT_STATE n) == 6

/-- The ring runs in twin configuration: TOPO as the last ring start took it (R88, Table 5.12). -/
def State.ringTwin (s : State) (n : Ch) : Bool := (s.ch n).ring.topo

/-- This module masters the channel's ring: it is no twin ring, or this module owns it (R88). -/
def State.masters (s : State) (n : Ch) : Bool := !s.ringTwin n || s.getBit F.TWIN_STAT_OWN n.val

/-- Queue a frame behind those of its class; a standby, which masters no ring, sends none. -/
def State.queueFrame (s : State) (n : Ch) (f : CmdFrame) : State :=
  if s.masters n then s.modRing n (fun r => { r with queue := r.queue ++ [f] }) else s

/-- The port of this module in a twin ring (Table 5.1), and the lane of a port. -/
def State.endSide (s : State) (n : Ch) : Side := if s.flag (F.RING_CTRL_END n) then .b else .a
def laneOf : Side → Nat
  | .a => 0
  | .b => 1

/-- In SPLIT: a tile, and any tile at all, lies in the segment of a port (R108, R109). -/
def State.inSeg (s : State) (n : Ch) (side : Side) (tile : Nat) : Bool :=
  match side with
  | .a => decide (tile ≤ s.get (F.RING_BREAK_POS_A n))
  | .b => decide (s.get (F.RING_BREAK_POS_B n) ≤ tile)
def State.hasSeg (s : State) (n : Ch) (side : Side) : Bool :=
  match side with | .a => s.inSeg n .a 1 | .b => s.inSeg n .b (s.tiles n)

/-- A twin ring whose break leaves tiles on the side of the module that does not own it (R110). -/
def State.twinSplit (s : State) (n : Ch) : Bool :=
  s.ringTwin n && s.get (F.RING_STAT_STATE n) == 6
    && s.hasSeg n (if s.masters n == s.flag (F.RING_CTRL_END n) then .a else .b)

/-- A port that wraps its side sends nothing out of it (R107). -/
def State.portSends (s : State) (n : Ch) (side : Side) : Bool :=
  match side with | .a => !(s.ch n).ring.wrapA | .b => !(s.ch n).ring.wrapB

/-- The master ports with their lane: RING_A forward, RING_B reverse; both in a single SPLIT; in a twin split the
partner's port masters its segment (Table 5.1, R109, R110). -/
def State.ports (s : State) (n : Ch) : List (Side × Nat) :=
  let l : List Side :=
    if !s.ringTwin n then (if s.get (F.RING_STAT_STATE n) = 6 then [.a, .b] else [.a])
    else if s.masters n then [if s.flag (F.RING_STAT_MASTER_B n) then .b else .a]
    else if s.twinSplit n then [s.endSide n] else []
  (l.filter (s.portSends n)).map (fun d => (d, laneOf d))

/-- The port and lane that reach a tile. -/
def State.portOf (s : State) (n : Ch) (tile : Nat) : Option (Side × Nat) :=
  (s.ports n).find? (fun p => s.get (F.RING_STAT_STATE n) != 6 || s.inSeg n p.1 tile)

/-- Time of a frame of `bytes` bytes with its blocks from departure to full return, ns, from the measured T (R102). -/
def State.frameTime (s : State) (n : Ch) (bytes : Nat) : Nat :=
  let t := s.get (F.RING_DELAY_LOOP_NS n)
  bytes * 160 + (if s.ringTwin n then t else (t - 480) / 2)

/-! ## Ring start (R95, R96) -/

/-- Ring drives may be on here (Tables 3.1, 4.19, R37, R45, R58). -/
def State.ringAllowed (s : State) (n : Ch) : Bool :=
  s.enabled (pgRING n) && s.chState n != stLOCKOUT && s.mode != mDECAF

/-- Enter a start state; BOOT's steps 6 to 8 are those of the ring start, which RUN ends (Table 3.3). -/
def State.ringEnter (s : State) (n : Ch) (st : Nat) : State :=
  let step := match st with | 1 => 6 | 2 => 6 | 3 => 7 | 4 => 8 | 5 => 9 | _ => 0
  ((s.bootShow step).put (F.RING_STAT_STATE n) st).modRing n (fun r => { r with enumT0 := s.tb })

/-- PAGE_STAT.FAULT of RING: the start state FAULT or DELAY_FAULT. -/
def State.ringFaultShow (s : State) (n : Ch) : State :=
  s.pageFault (pgRING n) (s.get (F.RING_STAT_STATE n) == 7 || s.flag (F.RING_STAT_DELAY_FAULT n))

/-- A channel's reload ends as its ring starts: the new channel image runs (R369). -/
def State.reloadEnd (s : State) (n : Ch) : State :=
  if (s.ch n).safe.reloading then
    (s.modSafe n (fun f => { f with reloading := false })).putBit F.UPD_STAT_CH_OLD n.val false
  else s

/-- A ring start: WAKE with the wake pattern; what the tables count or keep since ring start begins anew (R95, Tables
5.13 to 5.18, 6.11, 8.9, 8.11; R122 for the held values). -/
def State.ringStart (s : State) (n : Ch) : State :=
  if !s.ringAllowed n then s else
  let s := ((s.reloadEnd n).pourStop n).modRing n (fun r => { r with topo := s.flag (F.RING_CTRL_TOPO n) })
  let w := s.reg (R.RING_STAT n) &&& fieldMask 27 24
  let s := (s.setReg (R.RING_STAT n) w).ringEnter n 1
  let s := s.putB (F.RING_STAT_MASTER_B n) (s.ringTwin n && s.flag (F.RING_CTRL_END n) && s.masters n)
  let s := s.putB (F.RING_STAT_RELAY n) (!s.masters n)
  let s := (((s.setReg (R.RING_BREAK n) 0).setReg (R.RING_DELAY n) 0).setReg (R.RING_ERRCNT n) 0).setReg (R.POUR_CNT n) 0
  let s := (s.setReg (R.CDIAG_CNT n) 0).setReg (R.CDIAG_LAST n) 0
  let s := s.setRegs (R.RING_TDLY n) (List.replicate 26 0xFFFFFFFF)
  let s := s.modRing n (fun r =>
    { r with
      wrapA := false, wrapB := false, unwrapOk := [], retry := [], arrived := []
      pops := [], enumCount := 0, enumSame := 0, mcTries := 0, hold := [], rejects := 0, bgActive := false, aTab := []
      bTab := [], probes := 0, breakAt := none, goodEpochs := 0, rejoinSet := false, unwrapAt := none, queue := []
      sent := [], collected := false, recollectDue := false, reads := 0, readTiles := [] })
  let s := s.modPour n (fun p => { p with
    fill := { EpochBuf.empty with epoch := p.fill.epoch }, staleCnt := [], tStale := [], otCnt := [], blocks := []
    sampled := false, closed := false, committed := false, pending := false })
  (s.ringFaultShow n).emit (.wakePattern n)

/-- A start fails: FAULT, its error, START_FAIL, and an event at the first failure and every sixtieth after it. -/
def State.ringFail (s : State) (n : Ch) (err : Nat) : State :=
  let s := (s.ringEnter n 7).put (F.RING_STAT_START_ERR n) err
  let s := s.modRing n (fun r => { r with fails := r.fails + 1, faultT := s.tb })
  let s := if (s.ch n).ring.fails % 60 = 1 then s.logReg (pgRING n) 0x024 else s
  (s.raise (pgRING n) 4).ringFaultShow n

/-- Pour starts on a channel (R128): its page is enabled and its ring runs. -/
def State.pourStart (s : State) (n : Ch) : State :=
  if s.enabled (pgPOUR n) && s.ringRuns n && s.mode != mHALT then s.modPour n (fun p => { p with
      on := true, stopPending := false
      deliv := { p.deliv with valid := p.deliv.valid && p.on }, prev := { p.prev with valid := p.prev.valid && p.on } })
  else s

/-- RING_START: a start that BOOT, LOCKOUT release, a soft reset or the reload of R369 asks for. -/
def execRingStart (n : Ch) (s : State) : Host.Outcome State Fault Refusal := happen (s.ringStart n)

/-- A write of RING.CTRL (Table 5.12). -/
def State.doRingCtrl (s : State) (n : Ch) (v : Word) : Res :=
  if 1 < bitsOf v 5 4 ∨ 3 < bitsOf v 3 0 then refuse .range s
  else if bit v 31 ∧ s.chState n ≠ stISOLATED then refuse .state s
  else
    let s := s.setReg (R.RING_CTRL n) (v &&& 0x133)
    (.ok, if bit v 31 then s.ringStart n else s)

/-- RESTART_RING: RING.CTRL written with RESTART, the other fields as they stand. -/
def execRestartRing (src : Src) (n : Ch) (s : State) : Host.Outcome State Fault Refusal :=
  let v := s.reg (R.RING_CTRL n) ||| 0x80000000
  answer (s.gated src (pgRING n) 0x020 v (fun t => t.doRingCtrl n v))

/-! ### What a ring start sends (Tables 5.5 and 5.6) -/

/-- Messages that leave from every master port, given by the port's lane. -/
def State.startSend (s : State) (n : Ch) (f : Nat → List (List Byte)) : State :=
  { s with outbox := s.outbox ++ (s.ports n).flatMap (fun p => (f p.2).map (fun b => .ringFrame n p.1 b)) }

/-- ENUM: in 100 ms steps until the count has settled (R95). -/
def State.enumSend (s : State) (n : Ch) : State := s.startSend n (fun lane => [frameBytes 6 lane 0x00 s.ep []])

/-- MC_DATA payloads: offset and up to 236 bytes. -/
def mcData : Nat → Nat → List Byte → List (List Byte)
  | 0, _, _ => []
  | k + 1, off, l => if l = [] then [] else (beBytes 4 off ++ l.take 236) :: mcData k (off + 236) (l.drop 236)

/-- The probe pairs of a ring start's set, then the tiles' results are read. -/
def State.probeSend (s : State) (n : Ch) : State :=
  s.startSend n (fun lane => List.replicate 16 (frameBytes 7 lane 0xFF s.ep [])
    ++ (List.range (s.tiles n)).map (fun k => frameBytes 8 lane (k + 1) s.ep []))

/-- RING_WAKE_END: 2 ms of wake pattern. -/
def execRingWakeEnd (n : Ch) (s : State) : Host.Outcome State Fault Refusal :=
  happen (
    if s.get (F.RING_STAT_STATE n) = 1 ∧ s.passedMs (s.ch n).ring.enumT0 2 then
      ((s.ringEnter n 2).modRing n (fun r => { r with enumCount := 0, enumSame := 0 })).enumSend n
    else s)

/-- The first error of an enumeration (R96), 0 for none. -/
def State.enumErr (s : State) (n : Ch) (blocks : List EnumBlock) (farEnd stable : Bool) : Nat :=
  if blocks = [] then 1
  else if !farEnd then 2
  else if 26 < blocks.length then 3
  else if blocks.length ≠ s.get (F.RING_EXPECT_TILES n) ∨ !stable then 4
  else if blocks.any (fun b => decide (b.cells < 4) || decide (16 < b.cells)) then 6
  else if (blocks.map (·.cells)).foldl (· + ·) 0 ≠ s.get (F.RING_EXPECT_CELLS n) then 5
  else 0

/-- A tile's serial at its address (R97): a change is an event and a new cell set. -/
def State.serialCheck (s : State) (n : Ch) (addr : Nat) (serial : BitVec 64) : State :=
  let old := (s.ch n).ring.serials[addr - 1]?
  let s1 := s.modRing n (fun r => { r with serials := setAt 0 r.serials (addr - 1) serial })
  match old with
  | some o => if o = serial then s1 else
    (s1.log 0x8241 n.val 1 (BitVec.ofNat 32 addr) (serial.extractLsb' 32 32) (serial.extractLsb' 0 32)).newCells n addr
  | none => s1

/-- Version of the image that a channel runs: the active slot's, or the other slot's on the old image (R369). -/
def State.chanVersion (s : State) (n : Ch) : Nat :=
  if s.flag F.UPD_STAT_ACTIVE != s.getBit F.UPD_STAT_CH_OLD n.val then s.upd.slotB.version else s.upd.slotA.version

/-- The microcode: MC_DATA blocks, then MC_COMMIT with length, CRC-32 and version (R97, Table 5.5). -/
def State.mcSend (s : State) (n : Ch) : State :=
  let v := s.chanVersion n
  let img := Config.mcImage v
  s.startSend n (fun lane =>
    (mcData (img.length + 1) 0 img).map (fun p => frameBytes 9 lane 0xFF s.ep p)
      ++ [frameBytes 10 lane 0xFF s.ep (beBytes 4 img.length ++ wordBytes (Config.mcImageCrc v) ++ beBytes 4 v)])

/-- ENUM (R96): an ENUM frame has returned; the last is judged, and until then the next ENUM follows. -/
def execEnum (n : Ch) (blocks : List EnumBlock) (farEnd : Bool) (s : State) : Host.Outcome State Fault Refusal :=
  happen (
    if s.get (F.RING_STAT_STATE n) ≠ 2 then s
    else
      let r := (s.ch n).ring
      let same := if r.enumSame ≠ 0 ∧ r.enumCount = blocks.length then r.enumSame + 1 else 1
      let s := s.modRing n (fun r => { r with enumCount := blocks.length, enumSame := same })
      if same < 3 ∧ !s.passedMs r.enumT0 2000 then s.enumSend n
      else
        let err := s.enumErr n blocks farEnd (decide (3 ≤ same))
        if err ≠ 0 then s.ringFail n err
        else
          let s := (List.range blocks.length).foldl (fun t i => match blocks[i]? with
            | some b => t.serialCheck n (i + 1) b.serial
            | none => t) s
          let s := s.modRing n (fun r => { r with pops := blocks.map (·.cells), mcTries := 0 })
          let s := (s.put (F.RING_STAT_TILES n) blocks.length).put (F.RING_STAT_CELLS n)
            ((blocks.map (·.cells)).foldl (· + ·) 0)
          (s.ringEnter n 3).mcSend n)

/-- MCLOAD_DONE: every tile must return the image's CRC-32; up to 3 attempts (Table 5.6). -/
def execMcloadDone (n : Ch) (crcs : List Word) (s : State) : Host.Outcome State Fault Refusal :=
  happen (
    if s.get (F.RING_STAT_STATE n) ≠ 3 then s
    else if crcs.length = s.tiles n ∧ crcs.all (· == Config.mcImageCrc (s.chanVersion n)) then
      (s.ringEnter n 4).probeSend n
    else if 2 ≤ (s.ch n).ring.mcTries then s.ringFail n 7
    else (s.modRing n (fun r => { r with mcTries := r.mcTries + 1 })).mcSend n)

/-! ## Delay measurement (R99 to R101) -/

/-- The mean of a list of naturals, and of integers. -/
def meanN (l : List Nat) : Rat := if l = [] then 0 else ((l.foldl (· + ·) 0 : Nat) : Rat) / (l.length : Rat)
def meanI (l : List Int) : Rat := if l = [] then 0 else (sumI l : Rat) / (l.length : Rat)

/-- T of a set, and a and b of its tiles (R99). -/
def measLoop (m : DelayMeas) : Rat := meanN m.tBack
def measA (m : DelayMeas) : List Rat := m.tiles.map (fun k => (measLoop m - 10 * meanI k.ticks - (k.h : Rat)) / 2)
def measB (m : DelayMeas) : List Rat :=
  m.tiles.map (fun k => 10 * meanI k.ticks + (measLoop m - 10 * meanI k.ticks - (k.h : Rat)) / 2 - meanN m.tBdep)

/-- The tables a and b of a set; at a master at RING_B the lanes have exchanged roles (R99). -/
def State.measTabs (s : State) (n : Ch) (m : DelayMeas) : List Rat × List Rat :=
  if s.flag (F.RING_STAT_MASTER_B n) then (measB m, measA m) else (measA m, measB m)

/-- D of a set: the largest delay plus 2,000 ns, up to the next 10 ns. -/
def measD (m : DelayMeas) : Nat :=
  let x := (measA m ++ measB m).foldl maxR (0 : Rat) + 2000
  (-(-x / 10).floor * 10).toNat

/-- ns of a delay or a hold, as a register takes it: to the nearest ns, halves up, and not below 0 (DESIGN CHOICE, log
entry 79: the spec states no rounding of T, a, b and the holds). -/
def nsOf (x : Rat) : Nat := (roundHalf x).toNat

/-- The measured tables in force: a, b, RING.TDLY and LOOP_NS; a register saturates at 0xFFFF (DESIGN CHOICE, log entry
79). -/
def State.setTables (s : State) (n : Ch) (m : DelayMeas) : State :=
  let t := s.measTabs n m
  let s := s.modRing n (fun r => { r with aTab := t.1, bTab := t.2 })
  let s := s.put (F.RING_DELAY_LOOP_NS n) (min 0xFFFF (nsOf (measLoop m)))
  s.setRegs (R.RING_TDLY n)
    ((List.zip t.1 t.2).map (fun p => BitVec.ofNat 32 (min 0xFFFF (nsOf p.2) * 65536 + min 0xFFFF (nsOf p.1))))

/-- The holds of tile k + 1 from the tables: forward and reverse (R99). -/
def State.holdsOf (s : State) (n : Ch) (k : Nat) : Nat × Nat :=
  let r := (s.ch n).ring
  let d : Rat := (s.get (F.RING_DELAY_D_NS n) : Rat)
  (nsOf (d - r.aTab.getD k 0), nsOf (d - r.bTab.getD k 0))

/-- The hold write of tile k + 1 as a class 4 frame. -/
def State.holdFrame (s : State) (n : Ch) (k : Nat) : CmdFrame :=
  let h := s.holdsOf n k
  wrReg 4 (k + 1) 0x0010 [BitVec.ofNat 32 h.1, BitVec.ofNat 32 h.2]

/-- The comparator thresholds to every tile (R154). -/
def State.cmpFrame (s : State) (n : Ch) : CmdFrame :=
  wrReg 3 0xFF 0x0020 [BitVec.ofNat 32 (s.get (F.CDIAG_CMP_OV n)), BitVec.ofNat 32 (s.get (F.CDIAG_CMP_UV n))]

/-- A RING message to the twin partner (Table 18.3): what it carries (0 probe departure, 1 tables, 2 segment block,
3 presence), the channel, then the values (DESIGN CHOICE, log entry 39: the spec gives no coding). -/
def State.ringMsg (s : State) (n : Ch) (what : Nat) (l : List Nat) : State := s.twinSend 4 ([what, n.val] ++ l)

/-- Tables, D and serials to a twin partner (R100): D, then a, b in ns, then the serials. -/
def State.tablesMirror (s : State) (n : Ch) : State :=
  if s.ringTwin n then
    let r := (s.ch n).ring
    s.ringMsg n 1 (s.get (F.RING_DELAY_D_NS n) :: r.aTab.map nsOf ++ r.bTab.map nsOf ++ r.serials.map (·.toNat))
  else s

/-- A ring start's hold writes: to every tile whose holds are not confirmed yet. -/
def State.holdSend (s : State) (n : Ch) : State :=
  s.startSend n (fun lane => ((List.range (s.tiles n)).filter (fun k => (s.ch n).ring.hold[k]? != some (s.holdsOf n k))).map
    (fun k => frameBytes 4 lane (k + 1) s.ep (s.holdFrame n k).payload))

/-- The holds of the tiles that have confirmed them. -/
def State.holdsConfirm (s : State) (n : Ch) (ok : Nat → Bool) : State :=
  s.modRing n (fun r => { r with hold := (List.range (s.tiles n)).map (fun k =>
    if ok k then s.holdsOf n k else r.hold.getD k (0, 0)) })

/-- The start is complete: RUN (R95, R100, R154). -/
def State.ringUp (s : State) (n : Ch) : State :=
  let s := s.modRing n (fun r => { r with fails := 0, rejects := 0, bgSince := s.ep })
  let s := (s.ringEnter n 5).put (F.RING_STAT_START_ERR n) 0
  let s := (s.queueFrame n (s.cmpFrame n)).tablesMirror n
  if s.mode = mBOOT then s else s.pourStart n

/-- DELAY_SET_DONE (R99, R100): D and the holds are written; once every tile has confirmed its holds the ring runs; or
LENGTH. Tiles that have not confirmed are written again, and the start stays in DELAY (DESIGN CHOICE, log entry 79). -/
def execDelaySetDone (n : Ch) (e : DelayEnd) (s : State) : Host.Outcome State Fault Refusal :=
  happen (
    if s.get (F.RING_STAT_STATE n) ≠ 4 then s
    else if 12000 < measD e.meas then s.ringFail n 8
    else
      let s := ((s.put (F.RING_DELAY_D_NS n) (measD e.meas)).setTables n e.meas).holdSend n
      let ok (k : Nat) : Bool := e.confirmed.getD k false
      let s := s.holdsConfirm n ok
      if (List.range (s.tiles n)).all ok then s.ringUp n else s)

/-- RING_RETRY: 1 s after FAULT. -/
def execRingRetry (n : Ch) (s : State) : Host.Outcome State Fault Refusal :=
  happen (if s.get (F.RING_STAT_STATE n) = 7 ∧ s.passedMs (s.ch n).ring.faultT 1000 then s.ringStart n else s)

/-- A set agrees with the stored tables within 200 ns (R101). -/
def State.setAgrees (s : State) (n : Ch) (m : DelayMeas) : Bool :=
  let r := (s.ch n).ring
  let t := s.measTabs n m
  let near (old new : List Rat) : Bool :=
    old.length == new.length && (List.zip old new).all (fun p => decide (absR (p.1 - p.2) ≤ 200))
  near r.aTab t.1 && near r.bTab t.2

/-- BACKGROUND_SET_START (R101): every 1,000 epochs in RUN. -/
def execBackgroundSetStart (n : Ch) (s : State) : Host.Outcome State Fault Refusal :=
  let r := (s.ch n).ring
  happen (
    if s.get (F.RING_STAT_STATE n) = 5 ∧ !r.bgActive ∧ 1000 ≤ (sdiff 48 s.ep r.bgSince).natAbs then
      s.modRing n (fun r => { r with bgActive := true, bgSince := s.ep, probes := 16 })
    else s)

/-- An accepted set: the tables, mirrored, and hold writes to every tile; a tile keeps its holds until it confirms. -/
def State.acceptSet (s : State) (n : Ch) (m : DelayMeas) : State :=
  let s := (s.setTables n m).modRing n (fun r => { r with rejects := 0, bgActive := false })
  ((List.range (s.tiles n)).foldl (fun t k => t.queueFrame n (t.holdFrame n k)) s).tablesMirror n

/-- The side of a tile that an UNWRAP names, with its activation epoch (Table 5.20). -/
def unwrapFrame (tile side act : Nat) : CmdFrame := wrReg 4 tile 0x0060 [BitVec.ofNat 32 (act % 65536 * 65536 + side)]

/-- UNWRAP to the bordering tiles, 5 epochs ahead (R112). -/
def State.unwrapQueue (s : State) (n : Ch) : State :=
  let act := (s.ep + 5) % 2 ^ 48
  let a := s.get (F.RING_BREAK_POS_A n)
  let b := s.get (F.RING_BREAK_POS_B n)
  let s := s.modRing n (fun r => { r with unwrapAt := some act, unwrapOk := [], rejoinSet := false })
  let s := if 1 ≤ a ∧ a ≤ s.tiles n then s.queueFrame n (unwrapFrame a 2 act) else s
  if 1 ≤ b ∧ b ≤ s.tiles n then s.queueFrame n (unwrapFrame b 1 act) else s

/-- UNWRAP failed at a tile: the ring stays SPLIT, and the 1,000 epochs begin anew (R112). -/
def State.unwrapFail (s : State) (n : Ch) : State :=
  s.modRing n (fun r => { r with unwrapAt := none, unwrapOk := [], goodEpochs := 0 })

/-- BACKGROUND_SET_DONE (R101), in SPLIT the set of R112: its 16 windows have passed. -/
def execBackgroundSetDone (n : Ch) (times : List Nat × List Nat) (tiles : List TileMeas) (s : State) :
    Host.Outcome State Fault Refusal :=
  let r := (s.ch n).ring
  let m : DelayMeas := ⟨times.1, times.2, tiles⟩
  happen (
    if r.probes ≠ 0 then s
    else if s.get (F.RING_STAT_STATE n) = 5 ∧ r.bgActive then
      if s.setAgrees n m then s.acceptSet n m
      else
        let s := (s.modRing n (fun r => { r with rejects := r.rejects + 1, probes := 16 })).raise (pgRING n) 5
        if 3 ≤ r.rejects + 1 then (s.putB (F.RING_STAT_DELAY_FAULT n) true).ringFaultShow n else s
    else if s.get (F.RING_STAT_STATE n) = 6 ∧ r.rejoinSet then
      if s.setAgrees n m then (s.acceptSet n m).unwrapQueue n
      else (s.modRing n (fun r => { r with rejoinSet := false, goodEpochs := 0 })).raise (pgRING n) 5
    else s)

/-! ## Breaks (R107 to R112) -/

/-- A break is located (R108): its positions wait for SPLIT, and the COLLECT under way is sent again (R103). -/
def State.locate_ (s : State) (n : Ch) (a b : Nat) : State :=
  let s := s.incSat (F.RING_BREAK_COUNT n)
  let s := (s.raise (pgRING n) 2).log 0x8240 n.val 2 (BitVec.ofNat 32 a) (BitVec.ofNat 32 b)
    (BitVec.ofNat 32 (s.get (F.RING_BREAK_COUNT n)))
  let s := s.modRing n (fun r =>
    { r with bgActive := false, rejoinSet := false, unwrapAt := none, unwrapOk := [], goodEpochs := 0, probes := 0
             recollectDue := decide (140000 < s.inEpoch) && decide (s.inEpoch ≤ 450000) })
  if s.get (F.RING_STAT_STATE n) = 6 then (s.put (F.RING_BREAK_POS_A n) a).put (F.RING_BREAK_POS_B n) b
  else s.modRing n (fun r => { r with breakAt := some (s.tb, a, b) })

/-- The break in force: the positions of SPLIT, or those of a break not yet entered. -/
def State.breakNow (s : State) (n : Ch) : Option (Nat × Nat) :=
  if s.get (F.RING_STAT_STATE n) = 6 then some (s.get (F.RING_BREAK_POS_A n), s.get (F.RING_BREAK_POS_B n))
  else (s.ch n).ring.breakAt.map (fun x => (x.2.1, x.2.2))

/-- A break between two addresses beside the one in force: POS_A the highest address still reached from the RING_A end,
POS_B the lowest reached from the RING_B end; what moves neither is the same break (R108). -/
def State.breakSeen (s : State) (n : Ch) (a b : Nat) : State :=
  let p := match s.breakNow n with | some p => (min p.1 a, max p.2 b) | none => (a, b)
  if s.breakNow n = some p then s else s.locate_ n p.1 p.2

/-- A link went down: a start in progress ends with OPEN (R95); a running ring has a break. -/
def State.linkBreak (s : State) (n : Ch) (a b : Nat) : State :=
  let st := s.get (F.RING_STAT_STATE n)
  if 1 ≤ st ∧ st ≤ 4 then s.ringFail n 2
  else if st = 5 ∨ st = 6 then s.breakSeen n a b
  else s

/-- A receiver of the module that no cable of the ring uses (R89). -/
def State.capped (s : State) (n : Ch) (side : Side) : Bool := s.ringTwin n && decide (side ≠ s.endSide n)

/-- PORT_LINK_DOWN (R85, R95, R107): the port stops sending and wraps its side. -/
def execPortLinkDown (n : Ch) (side : Side) (s : State) : Host.Outcome State Fault Refusal :=
  let s := s.modRing n (fun r => match side with
    | .a => { r with upA := false, wrapA := true }
    | .b => { r with upB := false, wrapB := true })
  happen (
    if s.capped n side then s
    else match side with
      | .a => s.linkBreak n 0 1
      | .b => s.linkBreak n (s.tiles n) (s.tiles n + 1))

/-- PORT_LINK_UP (R85): the port sends idle only, and wraps until the rejoin (R107). -/
def execPortLinkUp (n : Ch) (side : Side) (s : State) : Host.Outcome State Fault Refusal :=
  happen (s.modRing n (fun r => match side with | .a => { r with upA := true } | .b => { r with upB := true }))

/-- ALARM (R108). -/
def execAlarm (n : Ch) (posA posB : Nat) (s : State) : Host.Outcome State Fault Refusal := happen (s.linkBreak n posA posB)

/-- Time-base time at which the TRIG of the present epoch leaves: the sample instant less D (R100). -/
def State.trigTb (s : State) (n : Ch) : Int :=
  (s.tb : Int) + 100000 - (s.inEpoch : Int) - (s.get (F.RING_DELAY_D_NS n) : Int)

/-- The ring enters SPLIT with the located positions, in an epoch whose TRIG leaves at least 20 µs after the location
(R109); after the sample instant that TRIG is gone. -/
def State.splitEnter (s : State) (n : Ch) : State :=
  match (s.ch n).ring.breakAt with
  | none => s
  | some (t, a, b) =>
    if s.get (F.RING_STAT_STATE n) ≠ 5 ∨ 100000 < s.inEpoch ∨ s.trigTb n - (t : Int) < 20000 then s
    else
      let s := (s.put (F.RING_STAT_STATE n) 6).putB (F.RING_BREAK_SPLIT n) true
      let s := (s.put (F.RING_BREAK_POS_A n) a).put (F.RING_BREAK_POS_B n) b
      s.modRing n (fun r => { r with breakAt := none, goodEpochs := 0 })

/-- SPLIT_ENTRY (R109). -/
def execSplitEntry (n : Ch) (s : State) : Host.Outcome State Fault Refusal := happen (s.splitEnter n)

/-- REJOIN_SET_START (R112): 1,000 epochs with both links up. -/
def execRejoinSetStart (n : Ch) (s : State) : Host.Outcome State Fault Refusal :=
  happen (
    if s.get (F.RING_STAT_STATE n) = 6 ∧ 1000 ≤ (s.ch n).ring.goodEpochs ∧ !(s.ch n).ring.rejoinSet
        ∧ (s.ch n).ring.unwrapAt.isNone then
      s.modRing n (fun r => { r with rejoinSet := true, goodEpochs := 0, probes := 16 })
    else s)

/-- A bordering tile has confirmed UNWRAP: by its status block to this module's port, or, in the segment that the twin
partner masters, as the partner reports; beyond the last tile there is none to ask. -/
def State.unwrapped (s : State) (n : Ch) (tile : Nat) (told : Bool) : Bool :=
  if tile = 0 ∨ s.tiles n < tile then true
  else if (s.portOf n tile).isSome then (s.ch n).ring.unwrapOk.contains tile else told

/-- REJOIN (R112): both bordering tiles have confirmed, and the activation epoch has come. -/
def execRejoin (n : Ch) (confirmA confirmB : Bool) (s : State) : Host.Outcome State Fault Refusal :=
  happen (
    match (s.ch n).ring.unwrapAt with
    | none => s
    | some e =>
      if s.get (F.RING_STAT_STATE n) ≠ 6 ∨ sdiff 48 s.ep e < 0 then s
      else if !(s.unwrapped n (s.get (F.RING_BREAK_POS_A n)) confirmA && s.unwrapped n (s.get (F.RING_BREAK_POS_B n)) confirmB)
      then s.unwrapFail n
      else
        let s := (s.put (F.RING_STAT_STATE n) 5).putB (F.RING_BREAK_SPLIT n) false
        let s := (s.put (F.RING_BREAK_POS_A n) 0).put (F.RING_BREAK_POS_B n) 0
        let s := s.modRing n (fun r =>
          { r with unwrapAt := none, unwrapOk := [], wrapA := false, wrapB := false, goodEpochs := 0, bgSince := s.ep })
        (s.raise (pgRING n) 3).logReg (pgRING n) 0x024)

/-- The links at the break, from an epoch's accepted blocks (R112). -/
def State.mendCount (s : State) (n : Ch) (blocks : List TileBlock) : State :=
  if s.get (F.RING_STAT_STATE n) ≠ 6 then s
  else
    let a := s.get (F.RING_BREAK_POS_A n)
    let b := s.get (F.RING_BREAK_POS_B n)
    let r := (s.ch n).ring
    let up (tile : Nat) : Bool :=
      if tile = 0 then r.upA else if s.tiles n < tile then r.upB
      else blocks.any (fun k => k.addr == tile && decide (k.tstat / 16384 % 4 = 0))
    s.modRing n (fun r => { r with goodEpochs := if up a && up b then r.goodEpochs + 1 else 0 })

/-! ## The epoch on the ring (R100, R102, R103) -/

/-- A frame out of a port. -/
def State.sendFrame (s : State) (n : Ch) (p : Side × Nat) (op addr : Nat) (payload : List Byte) : State :=
  s.emit (.ringFrame n p.1 (frameBytes op p.2 addr (s.ch n).pour.epoch payload))

/-- TRIG_SEND (R100): every master port, with the epoch to be sampled. -/
def execTrigSend (n : Ch) (s : State) : Host.Outcome State Fault Refusal :=
  let s := s.splitEnter n
  happen (
    if s.ringRuns n ∧ (s.ch n).pour.on then
      (s.ports n).foldl (fun t p => t.emit (.ringFrame n p.1 (trigBytes p.2 s.ep))) s
    else s)

/-- COLLECT_SEND (R102). -/
def execCollectSend (n : Ch) (s : State) : Host.Outcome State Fault Refusal :=
  happen (
    if s.ringRuns n ∧ (s.ch n).pour.on ∧ (s.ch n).pour.sampled then
      (s.ports n).foldl (fun t p => t.sendFrame n p 2 0xFF []) s
    else s)

/-- Tiles whose block of the epoch is missing and that a port still reaches (R103). Each is read at most once in an epoch
(DESIGN CHOICE, log entry 80: the spec does not say whether a tile whose READ failed is read again). -/
def State.missing (s : State) (n : Ch) : List Nat :=
  let reached (k : Nat) : Bool := match (s.ch n).ring.breakAt with
    | some (_, a, b) => if s.flag (F.RING_STAT_MASTER_B n) then decide (b ≤ k) else decide (k ≤ a)
    | none => (s.portOf n k).isSome
  ((List.range (s.tiles n)).map (· + 1)).filter (fun k =>
    !(s.ch n).ring.arrived.contains k && !(s.ch n).ring.readTiles.contains k && reached k)

/-- A frame that leaves now ends by +450 µs. -/
def State.endsBySweep (s : State) (n : Ch) (bytes : Nat) : Bool := decide (s.inEpoch + s.frameTime n bytes ≤ 450000)

/-- READ_SEND (R103): one re-collect when a break was located after the COLLECT left, then READs in address order. -/
def execReadSend (n : Ch) (s : State) : Host.Outcome State Fault Refusal :=
  let r := (s.ch n).ring
  happen (
    if !s.ringRuns n ∨ !(s.ch n).pour.sampled ∨ (s.ch n).pour.closed then s
    else if r.recollectDue then
      let s1 := s.modRing n (fun r => { r with recollectDue := false })
      (if s.endsBySweep n (16 + 56 * s.tiles n) then
        match s1.ports n with
        | p :: _ => (s1.sendFrame n p 2 0xFF []).incSat (F.RING_ERRCNT_RECOLLECT n)
        | [] => s1
      else s1)
    else if !r.collected ∨ s.get (F.RING_CTRL_RETRY_MAX n) ≤ r.reads ∨ !s.endsBySweep n (16 + 56) then s
    else match s.missing n with
      | [] => s
      | k :: _ => match s.portOf n k with
        | none => s
        | some p =>
          ((s.sendFrame n p 3 k []).incSat (F.RING_ERRCNT_READS n)).modRing n (fun r =>
            { r with reads := r.reads + 1, readTiles := r.readTiles ++ [k] }))

/-! ## The command window (R104, R105) -/

/-- Bytes of the block that a frame gathers at an addressed tile: a status block of 8 bytes with its data, RD_REG's
registers or PROBE_RD's 16 differences and h of 16 bits each (DESIGN CHOICE, log entry 79: the spec gives their width
nowhere). -/
def CmdFrame.reply (f : CmdFrame) : Nat :=
  match f.op with
  | 5 => 8 + 4 * (f.payload.getD 2 0).toNat
  | 7 => 0
  | 8 => 8 + 34
  | _ => 8

/-- Bytes of a frame with the blocks it gathers. -/
def State.frameLen (s : State) (n : Ch) (f : CmdFrame) : Nat :=
  16 + f.payload.length + f.reply * (if f.addr = 0xFF then s.tiles n else 1)

/-- Where the time stands in the command window, ns from the start of its epoch; none outside it. -/
def State.winTime (s : State) : Option Nat :=
  if 450000 ≤ s.inEpoch then some s.inEpoch else if s.inEpoch ≤ 85000 then some (s.inEpoch + 1000000) else none

/-- The next frame of the queue: class order, oldest first, a waiting frame holds back its class only. -/
def State.nextFrame (s : State) (n : Ch) (t : Nat) : Option CmdFrame :=
  let q := (s.ch n).ring.queue
  ([1, 2, 3, 4, 5].filterMap (fun c => q.find? (fun f => f.cls == c))).find? (fun f =>
    decide (t + s.frameTime n (s.frameLen n f) ≤ 1085000))

/-- The first occurrence of a frame removed. -/
def dropFrame (f : CmdFrame) : List CmdFrame → List CmdFrame
  | [] => []
  | g :: t => if g = f then t else g :: dropFrame f t

/-- COMMAND_FRAME_SEND (R104): the next frame that ends by +1,085 µs leaves; a frame to all tiles leaves every master
port. -/
def execCommandFrameSend (n : Ch) (s : State) : Host.Outcome State Fault Refusal :=
  happen (
    if !s.ringRuns n then s
    else match s.winTime with
      | none => s
      | some t => match s.nextFrame n t with
        | none => s
        | some f =>
          let s := s.modRing n (fun r => { r with
            queue := dropFrame f r.queue })
          let l := if f.addr = 0xFF then s.ports n else (s.portOf n f.addr).toList
          let s := if f.op = 4 then s.modRing n (fun r => { r with sent := r.sent ++ [⟨f, l.length, []⟩] }) else s
          l.foldl (fun u p => u.sendFrame n p f.op f.addr f.payload) s)

/-- Writes that failed go out again with the window that opens (R101, R105). -/
def State.retryQueue (s : State) (n : Ch) : State :=
  (s.ch n).ring.retry.foldl (fun t f => t.queueFrame n f) (s.modRing n (fun r => { r with retry := [] }))

/-- Probe pairs of a running set: one per command window, then the tiles' results are read (R101, Table 5.5). -/
def State.probeQueue (s : State) (n : Ch) : State :=
  let k := (s.ch n).ring.probes
  if k = 0 then s
  else
    let s := (s.queueFrame n ⟨4, 7, 0xFF, []⟩).modRing n (fun r => { r with probes := k - 1 })
    if k = 1 then ((List.range (s.tiles n)).map (· + 1)).foldl (fun t a => t.queueFrame n ⟨4, 8, a, []⟩) s else s

end Sys2Proof.Machine
end

