-- ==== Sys2Proof/Machine/Cdiag.lean ====
section
/-! DEFINITION. Cell integrity (R143 to R154) and balancing (R155 to R160). -/

namespace Sys2Proof.Machine
open Sys2Proof

/-! ## Schedule (R146) -/

/-- Populated cells of a tile. -/
def State.pop (s : State) (n : Ch) (tile : Nat) : Nat := nth (s.ch n).ring.pops (tile - 1)

/-- Tile t has a slot in epoch e, and the tap that the rotation gives it there. -/
def State.hasSlot (s : State) (n : Ch) (tile e : Nat) : Bool :=
  if s.get (F.CDIAG_CTRL_MODE n) = 0 then e % 6 == (tile - 1) % 6 else e % (max 1 (s.tiles n)) == tile - 1
def State.slotTap (s : State) (n : Ch) (e : Nat) : Nat :=
  (e / (if s.get (F.CDIAG_CTRL_MODE n) = 0 then 6 else max 1 (s.tiles n))) % 17

/-- The OW setting of a test (Table 5.20). -/
def owFrame (tile e tap : Nat) : CmdFrame := wrReg 3 tile 0x0040 [BitVec.ofNat 32 (e % 65536 * 65536 + tap)]

/-- The suspicion of a tile that still asks for its slots (R149). -/
def State.openSusp (s : State) (n : Ch) (tile : Nat) : Option Susp :=
  (s.ch n).cdiag.susp.find? (fun u => u.tile == tile && !u.latched)

/-- A test set up for a slot: the setting queued and remembered; and such a test withdrawn. -/
def State.owSet (s : State) (n : Ch) (w : OwTest) : State :=
  (s.modCdiag n (fun c => { c with sentOw := c.sentOw ++ [w] })).queueFrame n (owFrame w.tile w.epoch w.tap)
def State.owDrop (s : State) (n : Ch) (w : OwTest) : State :=
  (s.modCdiag n (fun c => { c with sentOw := c.sentOw.filter (· != w) })).modRing n (fun r =>
    { r with queue := r.queue.filter (· != owFrame w.tile w.epoch w.tap) })

/-- The first entry of a tile in the list of due tests loses one slot. -/
def takeDue (tile : Nat) : List (Nat × Nat × Nat) → List (Nat × Nat × Nat)
  | [] => []
  | (t, k, c) :: l => if t = tile then (if c ≤ 1 then l else (t, k, c - 1) :: l) else (t, k, c) :: takeDue tile l

/-- The slot of tile t in epoch e: a suspicion's retest, a due test, or the rotation's tap (R146, R149). -/
def State.slotSet (s : State) (n : Ch) (e tile : Nat) : State :=
  match s.openSusp n tile with
  | some u => s.owSet n ⟨e, tile, u.tap, true⟩
  | none => match (s.ch n).cdiag.due.find? (fun d => d.1 == tile) with
    | some d => (s.modCdiag n (fun c => { c with due := takeDue tile c.due })).owSet n ⟨e, tile, d.2.1, true⟩
    | none => if s.slotTap n e ≤ s.pop n tile then s.owSet n ⟨e, tile, s.slotTap n e, false⟩ else s

/-- The tests of epoch e are set up in the command window that opens (R145, R146). -/
def State.owSchedule (s : State) (n : Ch) (e : Nat) : State :=
  if !s.enabled (pgCDIAG n) then s
  else ((List.range (s.tiles n)).map (· + 1)).foldl (fun t k => if t.hasSlot n k e then t.slotSet n e k else t)
    (s.modCdiag n (fun c => { c with schedTo := e }))

/-- The first epoch whose OW setting can still be sent (R146). -/
def State.firstSlot (s : State) : Nat := (if s.inEpoch ≤ 85000 then s.ep + 1 else s.ep + 2) % 2 ^ 48

/-- The epochs whose slots have been set up and can still be set up anew. -/
def State.openEpochs (s : State) (n : Ch) : List Nat :=
  if !s.enabled (pgCDIAG n) then []
  else [s.firstSlot, (s.firstSlot + 1) % 2 ^ 48].filter (fun e => decide (0 ≤ sdiff 48 (s.ch n).cdiag.schedTo e))

/-- A test falls due for the tile's next slots, behind those due before. -/
def State.owWait (s : State) (n : Ch) (tile tap slots : Nat) : State :=
  if slots = 0 then s else s.modCdiag n (fun c => { c with due := c.due ++ [(tile, tap, slots)] })

/-- A test takes the tile's next slots ahead of the rotation (R146, R152): one that has been set up for the rotation, or
left open by it, is set up anew; a slot that another such test holds is kept by it. -/
def State.owForce (s : State) (n : Ch) (tile tap slots : Nat) : State :=
  match (s.openEpochs n).find? (fun e => s.hasSlot n tile e) with
  | none => s.owWait n tile tap slots
  | some e =>
    let set (t : State) : State := (t.owSet n ⟨e, tile, tap, true⟩).owWait n tile tap (slots - 1)
    match (s.ch n).cdiag.sentOw.find? (fun w => w.epoch == e && w.tile == tile) with
    | none => set s
    | some w => if w.forced then s.owWait n tile tap slots else set (s.owDrop n w)

/-- MODE has changed (R146): slots that can still be set up anew follow the new schedule; a tile whose setting has left
already is told that it has no test (tap 31), and a test ahead of the rotation waits for its tile's next slot. -/
def State.owRemode (s : State) (n : Ch) : State :=
  let es := s.openEpochs n
  let l := (s.ch n).cdiag.sentOw.filter (fun w => es.contains w.epoch)
  let q := (s.ch n).ring.queue
  let back := (l.filter (fun w => w.forced && !(s.openSusp n w.tile).any (fun u => u.tap == w.tap))).map (fun w => (w.tile, w.tap, 1))
  let s := (l.foldl (fun t w => t.owDrop n w) s).modCdiag n (fun c => { c with due := back ++ c.due })
  let s := es.foldl (fun t e => t.owSchedule n e) s
  l.foldl (fun t w =>
    if q.contains (owFrame w.tile w.epoch w.tap)
        || (t.ch n).cdiag.sentOw.any (fun x => x.epoch == w.epoch && x.tile == w.tile) then t
    else t.queueFrame n (owFrame w.tile w.epoch 31)) s

/-- A test ahead of the rotation, unless it is due already (R147, R148). -/
def State.owDue (s : State) (n : Ch) (tile tap : Nat) : State :=
  if (s.ch n).cdiag.due.any (fun d => d.1 == tile && d.2.1 == tap) then s
  else s.modCdiag n (fun c => { c with due := c.due ++ [(tile, tap, 1)] })

/-! ## Suspicions (R149, R150, R152) -/

/-- CDIAG.STAT.NSUSP, CDIAG.SUSPECT and the cause WIRE_SUSPECT follow the suspicions. -/
def State.suspShow (s : State) (n : Ch) : State :=
  let l := (s.ch n).cdiag.susp
  let k := l.filter (·.latched)
  let f (i : Nat) : Nat := match k[i]? with | some u => u.tile * 256 + u.tap | none => 0
  let s := s.put (F.CDIAG_STAT_NSUSP n) (min 255 l.length)
  (s.setReg (R.CDIAG_SUSPECT n) (BitVec.ofNat 32 (f 0 + f 1 * 65536))).setCause n 2 (l != [])

/-- A POSITIVE result (R149, R150). -/
def State.suspPositive (s : State) (n : Ch) (tile tap : Nat) : State :=
  let l := (s.ch n).cdiag.susp
  let s := (s.incSat (F.CDIAG_CNT_POSITIVE n)).raise (pgCDIAG n) 2
  if l.any (fun u => u.tile == tile && u.tap == tap) then
    (s.modCdiag n (fun c => { c with susp := c.susp.map (fun u =>
      if u.tile = tile ∧ u.tap = tap then { u with latched := true, negs := 0 } else u) })).suspShow n
  else
    let overlap := l.any (fun u => u.tile == tile && (u.tap == tap + 1 || tap == u.tap + 1))
    let s := (s.modCdiag n (fun c => { c with susp := c.susp ++ [⟨tile, tap, false, 0⟩] })).suspShow n
    if overlap ∨ 2 ≤ l.length then s.tripC n 0x15 else s

/-- A NEGATIVE result of an unconfirmed suspicion; two in a row release it. -/
def State.suspNegative (s : State) (n : Ch) (tile tap : Nat) : State :=
  match (s.ch n).cdiag.susp.find? (fun u => u.tile == tile && u.tap == tap) with
  | none => s
  | some u =>
    if u.latched then s
    else if 1 ≤ u.negs then
      let s := s.modCdiag n (fun c => { c with susp := c.susp.filter (fun w => !(w.tile == tile && w.tap == tap)) })
      ((s.incSat (F.CDIAG_CNT_TRANSIENT n)).raise (pgCDIAG n) 5).suspShow n
    else s.modCdiag n (fun c => { c with susp := c.susp.map (fun w =>
      if w.tile = tile ∧ w.tap = tap then { w with negs := 1 } else w) })

/-- CLEAR (R152): latched suspicions end; their taps are tested in the tile's next three slots. -/
def State.suspClear (s : State) (n : Ch) : State :=
  let k := (s.ch n).cdiag.susp.filter (·.latched)
  let s := (s.modCdiag n (fun c => { c with susp := c.susp.filter (fun u => !u.latched) })).suspShow n
  k.foldl (fun t u => t.owForce n u.tile u.tap 3) s

/-- A write of CDIAG.CMD (Table 8.10). -/
def State.doCdiagCmd (s : State) (n : Ch) (v : Word) : Res :=
  let tile := bitsOf v 28 24
  let tap := bitsOf v 20 16
  if bit v 0 && bit v 1 then refuse .range s
  else if bit v 0 then
    if s.chState n = stISOLATED ∨ s.chState n = stLOCKOUT then (.ok, s.suspClear n) else refuse .state s
  else if bit v 1 then
    if tile = 0 ∨ s.tiles n < tile ∨ s.pop n tile < tap then refuse .range s else (.ok, s.owForce n tile tap 1)
  else (.ok, s)

def execCdiagClear (src : Src) (n : Ch) (s : State) : Host.Outcome State Fault Refusal :=
  answer (s.gated src (pgCDIAG n) 0x03C 1 (fun t => t.doCdiagCmd n 1))

/-- The word of CDIAG.CMD that forces a test. -/
def forceWord (tile tap : Nat) : Word := BitVec.ofNat 32 (tile % 32 * 2 ^ 24 + tap % 32 * 2 ^ 16 + 2)

def execCdiagForce (src : Src) (n : Ch) (tile tap : Nat) (s : State) : Host.Outcome State Fault Refusal :=
  answer (s.gated src (pgCDIAG n) 0x03C (forceWord tile tap) (fun t => t.doCdiagCmd n (forceWord tile tap)))

/-! ## Open-wire evaluation (R147) -/

/-- The result of a test: 0 NEGATIVE, 1 POSITIVE, 2 VOID, and abs(diff) in mV when it was computed, to the nearest mV,
halves up (DESIGN CHOICE, log entry 81: the spec states no rounding of CDIAG.LAST.DIFF). -/
def State.owJudge (s : State) (n : Ch) (blk : Option TileBlock) (prev : EpochBuf) (e tile tap : Nat) : Nat × Option Nat :=
  let lo := 16 * (tile - 1) + tap - 1
  let up := lo + 1
  let usable (i : Nat) : Bool := prev.cellQ.getD i 4 == 0 || prev.cellQ.getD i 4 == 3
  match blk with
  | none => (2, none)
  | some k =>
    let vlo := k.cells.getD (tap - 1) 0xFFFF
    let vup := k.cells.getD tap 0xFFFF
    if !prev.valid ∨ (prev.epoch + 1) % 2 ^ 48 ≠ e ∨ !bit prev.tileRx (tile - 1) ∨ k.owtap ≠ tap ∨ vlo = 0xFFFF ∨ vup = 0xFFFF
        ∨ !usable lo ∨ !usable up then (2, none)
    else
      let dl : Int := (vlo : Int) - (prev.cellV.getD lo 0xFFFF : Int)
      let du : Int := (vup : Int) - (prev.cellV.getD up 0xFFFF : Int)
      let mag := min 0xFFF (((du - dl).natAbs + 10) / 20)
      if du - dl < 20 * (s.get (F.CDIAG_OWCFG_OW_THRESH n) : Int) then (0, some mag)
      else if (du + dl).natAbs ≤ 10 * s.get (F.CDIAG_OWCFG_SUM_TOL n) then (1, some mag)
      else (2, some mag)

/-- One test of the epoch is evaluated (R147): CDIAG.LAST, the counts, the suspicion, the repetition. A DIFF that the
test did not compute is a free value (DESIGN CHOICE, log entry 7). -/
def State.owEval (s : State) (n : Ch) (blocks : List TileBlock) (prev : EpochBuf) (e tile tap : Nat) : State :=
  if tap = 0 ∨ s.pop n tile ≤ tap then s
  else
    let r := s.owJudge n (blocks.find? (fun b => b.addr == tile)) prev e tile tap
    let d := match r.2 with | some d => (d, s) | none => (s.draw.1.toNat % 4096, s.draw.2)
    let s := d.2.setReg (R.CDIAG_LAST n) (BitVec.ofNat 32 (tile * 2 ^ 24 + tap * 2 ^ 16 + r.1 * 2 ^ 14 + d.1))
    if r.1 = 1 then s.suspPositive n tile tap
    else if r.1 = 0 then s.suspNegative n tile tap
    else
      let s := s.incSat (F.CDIAG_CNT_VOID n)
      if (s.openSusp n tile).any (fun u => u.tap == tap) then s else s.owDue n tile tap

/-- Every test of the epoch. -/
def State.owEvalAll (s : State) (n : Ch) (blocks : List TileBlock) (prev : EpochBuf) (e : Nat) : State :=
  let l := (s.ch n).cdiag.sentOw.filter (fun w => w.epoch == e)
  let s := l.foldl (fun t w => t.owEval n blocks prev e w.tile w.tap) s
  s.modCdiag n (fun c => { c with sentOw := c.sentOw.filter (fun w => decide (0 < sdiff 48 w.epoch e)) })

/-! ## Drift monitor (R148), end taps (R153), comparator check (R154) -/

/-- The inner taps of a channel: tile and tap. -/
def State.innerTaps (s : State) (n : Ch) : List (Nat × Nat) :=
  ((List.range (s.tiles n)).map (· + 1)).flatMap (fun t => ((List.range (s.pop n t - 1)).map (fun k => (t, k + 1))))

/-- The drift monitor on an epoch's marked values. -/
def State.driftCheck (s : State) (n : Ch) (b : EpochBuf) : State :=
  if !s.enabled (pgCDIAG n) then s
  else
    let s1 := match (s.ch n).cdiag.hist.find? (fun h => (h.epoch + 100) % 2 ^ 48 == b.epoch) with
      | none => s
      | some h => (s.innerTaps n).foldl (fun (t : State) (p : Nat × Nat) =>
        let lo := 16 * (p.1 - 1) + p.2 - 1
        let up := lo + 1
        let ok := b.cellQ.getD lo 4 == 0 && b.cellQ.getD up 4 == 0 && h.q.getD lo 4 == 0 && h.q.getD up 4 == 0
        let d (v : List Nat) : Int := (nth v up : Int) - (nth v lo : Int)
        let sm (v : List Nat) : Int := (nth v up : Int) + (nth v lo : Int)
        if ok && decide (20 * s.get (F.CDIAG_OWCFG_DRIFT n) ≤ (d b.cellV - d h.v).natAbs)
            && decide ((sm b.cellV - sm h.v).natAbs ≤ 10 * s.get (F.CDIAG_OWCFG_SUM_TOL n)) then t.owDue n p.1 p.2 else t) s
    s1.modCdiag n (fun c => { c with hist := List.drop (c.hist.length - 99) (c.hist ++ [CellHist.mk b.epoch b.cellV b.cellQ]) })

/-- END_TAP (R153): a block newly reports an open end tap. -/
def State.endTap (s : State) (n : Ch) (prev : EpochBuf) (k : TileBlock) : State :=
  let old := match prev.tileW[k.addr - 1]? with | some w => bitsOf w.1 15 0 | none => 0
  let newly (b : Nat) : Bool := decide (k.tstat / 2 ^ b % 2 = 1) && decide (old / 2 ^ b % 2 = 0)
  let rep (t : State) (tap : Nat) : State :=
    ((t.putB (F.CDIAG_STAT_END_TAP n) true).raise (pgCDIAG n) 3).log 0x8441 n.val 2 (BitVec.ofNat 32 k.addr)
      (BitVec.ofNat 32 tap) 0
  let s := if newly 11 then rep s (s.pop n k.addr) else s
  if newly 10 then rep s 0 else s

/-- A cell's flags disagree with its value by at least 20 mV (R154). -/
def State.cmpBad (s : State) (n : Ch) (v : Nat) (ovf uvf : Bool) : Bool :=
  let ov := s.get (F.CDIAG_CMP_OV n)
  let uv := s.get (F.CDIAG_CMP_UV n)
  (ovf && decide (v + 200 ≤ ov)) || (!ovf && decide (ov + 200 ≤ v))
    || (uvf && decide (uv + 200 ≤ v)) || (!uvf && decide (v + 200 ≤ uv))

/-- The comparator check of an epoch. -/
def State.cmpCheck (s : State) (n : Ch) (b : EpochBuf) (blocks : List TileBlock) : State :=
  if !s.enabled (pgCDIAG n) then s
  else
    let run := (List.range b.cellV.length).map (fun i =>
      match blocks.find? (fun k => k.addr == i / 16 + 1) with
      | some k => if b.cellQ.getD i 4 = 0 ∧ s.cmpBad n (nth b.cellV i) (bit k.cmpf (i % 16 + 16)) (bit k.cmpf (i % 16))
          then nth (s.ch n).cdiag.cmpRun i + 1 else 0
      | none => 0)
    let s := s.modCdiag n (fun c => { c with cmpRun := run })
    if run.any (fun r => decide (3 ≤ r)) ∧ !s.flag (F.CDIAG_STAT_CMP_MISMATCH n) then
      ((s.putB (F.CDIAG_STAT_CMP_MISMATCH n) true).raise (pgCDIAG n) 4).logReg (pgCDIAG n) 0x030
    else s

/-- An accepted change of CDIAG.CMP goes to the tiles as class 3 traffic (R154). -/
def State.cmpSend (s : State) (n : Ch) : State := if s.ringRuns n then s.queueFrame n (s.cmpFrame n) else s

/-! ## Balancing -/

/-- Balancing runs (R155, Table 4.19). -/
def State.balRuns (s : State) (n : Ch) : Bool :=
  s.chState n != stTRIPPED && s.chState n != stLOCKOUT && s.mode != mDECAF && s.mode != mHALT
    && s.sup.holdupAt.isNone && s.enabled (pgBAL n) && (s.ch n).bal.modeNow != 0

/-- The limit L of a tile from its die temperature, % (R157). -/
def balLimit (t : Int) : Nat := if t ≤ 70 then 100 else if 105 ≤ t then 0 else (100 * (105 - t) / 35).toNat

/-- A tile's duties scaled to L; whether scaling applies (R157). -/
def balScale (duty : List Nat) (p l : Nat) : List Nat × Bool :=
  let sum := duty.foldl (· + ·) 0
  if 2 * p * l < sum then (duty.map (fun d => d * l * 2 * p / sum), true) else (duty, false)

/-- Die temperature of a tile from its last accepted block. -/
def EpochBuf.die (b : EpochBuf) (tile : Nat) : Int :=
  match b.tileW[tile - 1]? with | some w => signed 8 (bitsOf w.1 31 24) | none => 0

/-- The BAL_DUTY setting of a tile (Table 5.20). -/
def balFrame (tile : Nat) (d : List Nat) : CmdFrame :=
  wrReg 3 tile 0x0030 ((List.range 8).map (fun m => BitVec.ofNat 32 (nth d (2 * m + 1) * 65536 + nth d (2 * m))))

/-- The 16 duties of a tile in a list of cells. -/
def tileDuties (l : List Nat) (tile : Nat) : List Nat := (List.range 16).map (fun j => nth l (16 * (tile - 1) + j))

/-- Commanded duties of a tile: 0 for suspect cells, and all 0 after 10 epochs without an accepted block (R150, R157). -/
def State.balAsk (s : State) (n : Ch) (tile : Nat) : List Nat :=
  if 10 ≤ nth (s.ch n).bal.noBlock (tile - 1) then List.replicate 16 0
  else (List.range 16).map (fun j =>
    let i := 16 * (tile - 1) + j
    if (s.ch n).cdiag.susp.any (fun u => let c := 16 * (u.tile - 1) + u.tap; c == i || c == i + 1) then 0
    else nth (s.ch n).bal.duty i)

/-- Settings for the window that opens: limits, LIMITED, NLIMIT, ACT, and the tiles due (R157, R160). -/
def State.balTile (s : State) (n : Ch) (b : EpochBuf) (tile : Nat) : State :=
  let l := balLimit (b.die tile)
  let r := balScale (s.balAsk n tile) (s.pop n tile) l
  let ap := tileDuties (s.ch n).bal.applied tile
  let s := if r.2 ∧ !s.getBit (F.BAL_LIMITED_TILES n) (tile - 1) then s.raise (pgBAL n) 2 else s
  let s := s.putBit (F.BAL_LIMITED_TILES n) (tile - 1) r.2
  let mask := (List.range 16).foldl (fun a j => if nth ap j = 0 then a else a + 2 ^ j) 0
  let s := s.setReg (R.BAL_ACT n (tile - 1)) (BitVec.ofNat 32 (ap.foldl max 0 * 2 ^ 24 + l * 2 ^ 16 + mask))
  let s := s.modBal n (fun q => { q with want :=
    (List.range (max q.want.length (16 * tile))).map (fun i => if i / 16 + 1 = tile then nth r.1 (i % 16) else nth q.want i) })
  let last := nth (s.ch n).bal.lastSent (tile - 1)
  if r.1 ≠ ap ∨ last = 0 ∨ 100 ≤ (sdiff 48 b.epoch last).natAbs then
    (s.modBal n (fun q => { q with lastSent := setAt 0 q.lastSent (tile - 1) b.epoch })).queueFrame n (balFrame tile r.1)
  else s

/-- The tile's block of the epoch was accepted; bit i of its TSTAT. -/
def EpochBuf.got (b : EpochBuf) (tile : Nat) : Bool := bit b.tileRx (tile - 1)
def EpochBuf.tst (b : EpochBuf) (tile i : Nat) : Bool :=
  match b.tileW[tile - 1]? with | some w => bit w.1 i | none => false

/-- BAL with an epoch that is delivered; a tile with TSTAT.WDOG has zero duties (R106); where balancing does not run no
scaling applies (R157). -/
def State.balClose (s : State) (n : Ch) (b : EpochBuf) : State :=
  let ts := (List.range (s.tiles n)).map (· + 1)
  let s := s.modBal n (fun q => { q with
    noBlock := ts.map (fun t => if b.got t then 0 else nth q.noBlock (t - 1) + 1)
    applied := (List.range (16 * s.tiles n)).map (fun i =>
      if b.got (i / 16 + 1) && b.tst (i / 16 + 1) 13 then 0 else nth q.applied i) })
  let s := if s.balRuns n then ts.foldl (fun t k => t.balTile n b k) s else s.put (F.BAL_LIMITED_TILES n) 0
  let act := ((s.ch n).bal.applied.filter (· != 0)).length
  let die := ts.foldl (fun a t => max a (b.die t)) (b.die 1)
  let s := (s.put (F.BAL_STAT_ACTIVE n) act).putI (F.BAL_STAT_DIE_MAX n) die
  s.put (F.BAL_STAT_NLIMIT n) ((ts.filter (fun t => s.getBit (F.BAL_LIMITED_TILES n) (t - 1))).length)

/-- A change of MODE takes effect at the next epoch, from zero (R159). -/
def State.balMode (s : State) (n : Ch) : State :=
  let m := s.get (F.BAL_CTRL_MODE n)
  if (s.ch n).bal.modeNow = m then s
  else
    let s := s.modBal n (fun q => { q with modeNow := m, duty := [], hset := [], autoAt := none })
    if m = 0 then s.balZero n else s

/-- A BAL_DUTY write of a tile confirmed or failed (R160): a failed one is sent again in the next window, by `balTile`
while balancing runs, else as the zero duties of R155. -/
def State.balOutcome (s : State) (n : Ch) (tile : Nat) (ws : List Word) (ok : Bool) : State :=
  if ok then
    let d := ws.flatMap (fun w => [bitsOf w 7 0, bitsOf w 23 16])
    let s := s.modBal n (fun q => { q with
      failRun := setAt 0 q.failRun (tile - 1) 0
      applied := (List.range (max q.applied.length (16 * tile))).map (fun i =>
        if i / 16 + 1 = tile then nth d (i % 16) else nth q.applied i) })
    s.putBit (F.BAL_WFAIL_TILES n) (tile - 1) false
  else
    let f := nth (s.ch n).bal.failRun (tile - 1) + 1
    let s := s.modBal n (fun q => { q with failRun := setAt 0 q.failRun (tile - 1) f, lastSent := setAt 0 q.lastSent (tile - 1) 0 })
    let s := if s.balRuns n then s
      else s.modRing n (fun r => { r with retry := r.retry ++ [balFrame tile (List.replicate 16 0)] })
    if 3 ≤ f ∧ !s.getBit (F.BAL_WFAIL_TILES n) (tile - 1) then
      ((s.putBit (F.BAL_WFAIL_TILES n) (tile - 1) true).raise (pgBAL n) 3).logReg (pgBAL n) 0x038
    else s

/-- The AUTO duties (R158), steps of 0.5%. -/
def State.balAuto (s : State) (n : Ch) : List Nat :=
  let b := (s.ch n).pour.deliv
  let len := (s.ch n).est.cells.length
  let ok (i : Nat) : Bool := b.cellQ.getD i 4 == 0 && decide ((s.estCell n i).grade ≤ 1)
  let l := (List.range len).filter ok
  if l.length < 2 then []
  else
    let smin := l.foldl (fun a i => minR a (s.estCell n i).socPub) 1
    let ib := (s.get (F.BAL_CTRL_IBLEED n) : Rat) / 1000
    let h := (s.get (F.BAL_AUTO_HORIZON n) : Rat)
    (List.range len).map (fun i =>
      let ds := (s.estCell n i).socPub - smin
      if !ok i ∨ ds < (s.get (F.BAL_AUTO_DB n) : Rat) / 10000 then 0
      else min 160 (ds * (s.estCell n i).q * 3600 / (ib * h) * 200).floor.toNat)

/-- BAL_AUTO_RUN (R158): every 1,000 epochs in AUTO. -/
def execBalAutoRun (n : Ch) (s : State) : Host.Outcome State Fault Refusal :=
  happen (
    if s.balRuns n && (s.ch n).bal.modeNow == 1
        && (match (s.ch n).bal.autoAt with | some e => decide (1000 ≤ (sdiff 48 s.ep e).natAbs) | none => true) then
      let d := s.balAuto n
      s.modBal n (fun q => { q with duty := d, autoAt := some s.ep })
    else s)

/-- A write of BAL.HCMD (R159). -/
def State.doHcmd (s : State) (n : Ch) (v : Word) : Res :=
  let tile := bitsOf v 31 24
  let duty := bitsOf v 23 16
  let b := (s.ch n).pour.deliv
  if (s.ch n).bal.modeNow ≠ 2 then refuse .state s
  else if tile = 0 ∨ s.tiles n < tile ∨ 160 < duty then refuse .range s
  else
    let on (i : Nat) : Bool := decide (i / 16 + 1 = tile) && bit v (i % 16)
    let d (i : Nat) : Nat := if b.cellQ.getD i 4 = 4 ∨ b.cellQ.getD i 4 = 3 then 0 else duty
    (.ok, s.modBal n (fun q => { q with
      duty := (List.range (16 * s.tiles n)).map (fun i => if on i then d i else nth q.duty i)
      hset := q.hset.filter (fun h => !on h.1) ++ ((List.range (16 * s.tiles n)).filter on).map (fun i =>
        (i, s.tb + 1000000000 * s.get (F.BAL_HOST_TMO_S n))) }))

def execBalHcmd (src : Src) (n : Ch) (v : Word) (s : State) : Host.Outcome State Fault Refusal :=
  answer (s.gated src (pgBAL n) 0x028 v (fun t => t.doHcmd n v))

/-- BAL_HCMD_LAPSE (R159): a cell's HCMD duty has stood for BAL.HOST_TMO. -/
def execBalHcmdLapse (n : Ch) (tile cell : Nat) (s : State) : Host.Outcome State Fault Refusal :=
  let i := 16 * (tile - 1) + cell
  happen (
    match (s.ch n).bal.hset.find? (fun h => h.1 == i) with
    | some h =>
      if h.2 ≤ s.tb then s.modBal n (fun q => { q with hset := q.hset.filter (fun x => x.1 != i), duty := setAt 0 q.duty i 0 })
      else s
    | none => s)

end Sys2Proof.Machine
end

