-- ==== Sys2Proof/Machine/Perc.lean ====
section
/-! DEFINITION. Percolator (R284 to R303): images, tasks, outputs, modes, programs. What a program computes is its own
(the section format and the core belong to Reneraek, R297); its outputs and its image's sections are operands of the
commands (DEDUCED, log entry 41). -/

namespace Sys2Proof.Machine
open Sys2Proof

/-! ## Images (R287, R290) -/

/-- The highest and the lowest of a list, in the bits of word 34 or 35; `none` word when empty. -/
def hiLo (l : List Int) (dflt : Nat) : Word :=
  match l with
  | [] => BitVec.ofNat 32 (dflt * 65536 + dflt)
  | x :: t => BitVec.ofNat 32 (int16 (t.foldl max x) * 65536 + int16 (t.foldl min x))

/-- The MEASURED values of a list. -/
def measured (v : List Nat) (q : List Nat) (w : Nat) (sgn : Bool) : List Int :=
  ((List.zip v q).filter (fun p => p.2 == 0)).map (fun p => if sgn then signed w p.1 else (p.1 : Int))

/-- Word 1 of Table 16.1. -/
def State.imageHead (s : State) (n : Ch) (b : EpochBuf) : Word :=
  BitVec.ofNat 32 (b2n b.part * 2 ^ 31 + b2n b.holdover * 2 ^ 30 + b.grade * 2 ^ 28 + b2n b.split * 2 ^ 27
    + s.chState n * 2 ^ 20 + s.mode * 2 ^ 16 + b.epoch / 2 ^ 32 % 65536)

/-- The input image of a delivered epoch (Table 16.1). -/
def State.imageOf (s : State) (n : Ch) (b : EpochBuf) : List Word :=
  let there : Word := BitVec.ofNat 32 (2 ^ b.tiles - 1)
  [BitVec.ofNat 32 b.epoch, s.imageHead n b, b.tileRx, there &&& ~~~b.tileRx, s.reg (R.PERC_OUTFAIL n), b.istr, b.vstr,
    b.vbus]
  ++ (List.range 26).map (fun k => (b.tileW.getD k (0, 0)).1)
  ++ [hiLo (measured b.cellV b.cellQ 16 false) 0xFFFF, hiLo (measured b.temp b.tempQ 16 true) 0x8000]

/-- The image of an epoch just delivered; a STATION_OK bit newly 0 is a source (R290, R303). -/
def State.percFeed (s : State) (n : Ch) (b : EpochBuf) : State :=
  let old := (s.ch n).perc.image.getD 2 0
  let s1 := s.modPerc n (fun p => { p with image := s.imageOf n b })
  if old &&& ~~~b.tileRx = 0 then s1 else s1.raise (pgPERC n) 3

/-! ## Outputs (R288, R289, R291) -/

/-- The class of a task of the active program: 0 none, 1 SYNC, 2 FREE. -/
def progCls (p : ProgInfo) (k : Nat) : Nat := match p.tasks[k]? with | some t => t.cls | none => 0

/-- The task that owns an output bit. -/
def progOwner (p : ProgInfo) (tile out : Nat) : Option Nat :=
  (p.owners.find? (fun o => o.tile == tile && o.out == out)).map (·.task)

/-- The safe value of an output (Table 16.15). -/
def progSafe (p : ProgInfo) (tile out : Nat) : Bool := (nth p.safe (tile - 1)).testBit out

/-- A latched value of an output. -/
def latchOf (l : List (Nat × Nat × Bool)) (tile out : Nat) : Option Bool :=
  (l.find? (fun x => x.1 == tile && x.2.1 == out)).map (·.2.2)

/-- A latch takes a value. -/
def latchSet (l : List (Nat × Nat × Bool)) (tile out : Nat) (on : Bool) : List (Nat × Nat × Bool) :=
  (tile, out, on) :: l.filter (fun x => !(x.1 == tile && x.2.1 == out))

/-- The output word of a tile: latched values of owned bits, else safe values; STOP sends safe values (R288, R292). -/
def State.outWord (s : State) (n : Ch) (tile : Nat) : Word :=
  let p := (s.ch n).perc
  BitVec.ofNat 32 ([0, 1, 2, 3].foldl (fun a k =>
    let v := if s.get (F.PERC_STAT_MODE n) = 0 ∨ (progOwner p.info tile k).isNone then progSafe p.info tile k
      else (latchOf p.latched tile k).getD (progSafe p.info tile k)
    if v then a + 2 ^ k else a) 0)

/-- OUTPUT_IMAGE_SEND (R288), from +900 µs: one class 1 frame to all tiles, one word per tile; an image not yet sent is
replaced. -/
def execOutputImageSend (n : Ch) (s : State) : Host.Outcome State Fault Refusal :=
  happen (
    if (s.ch n).pour.on ∧ s.ringRuns n ∧ s.masters n ∧ s.mode ≠ mHALT ∧ s.mode ≠ mDECAF ∧ 0 < s.tiles n
        ∧ 900000 ≤ s.winTime.getD 0 then
      (s.modRing n (fun r => { r with queue := r.queue.filter (fun f => f.cls != 1) })).queueFrame n
        (wrReg 1 0xFF 0x0050 ((List.range (s.tiles n)).map (fun k => s.outWord n (k + 1))))
    else s)

/-- The outcome of a FREE write goes to its instance: DONE (true) or ERROR (R289, R291). -/
def State.freeResult (s : State) (n : Ch) (tile : Nat) (ok : Bool) : State :=
  s.modPerc n (fun p => { p with
    freeOut := p.freeOut.filter (fun f => f.2.1 != tile)
    outcome := (p.freeOut.filter (fun f => f.2.1 == tile)).foldl (fun l f => (f.1, ok) :: l.filter (fun x => x.1 != f.1)) p.outcome })

/-- FREE_OUTPUT_WRITE (R289): a class 2 frame to the tile; the latest value of the window wins. -/
def execFreeOutputWrite (n : Ch) (inst : Word) (tile out : Nat) (on : Bool) (s : State) : Host.Outcome State Fault Refusal :=
  let p := (s.ch n).perc
  happen (
    match progOwner p.info tile out with
    | none => s
    | some k =>
      if s.get (F.PERC_STAT_MODE n) ≠ 1 ∨ progCls p.info k ≠ 2 then s
      else
        let s := s.modPerc n (fun p => { p with
          latched := latchSet p.latched tile out on
          freeOut := (inst, tile, out, on) :: p.freeOut.filter (fun f => !(f.1 == inst && f.2.1 == tile && f.2.2.1 == out)) })
        if !s.ringRuns n ∨ !s.masters n ∨ s.tiles n < tile then s.freeResult n tile false
        else
          (s.modRing n (fun r => { r with queue := r.queue.filter (fun f => !(f.cls == 2 && f.addr == tile)) })).queueFrame n
            (wrReg 2 tile 0x0050 [s.outWord n tile]))

/-- What the tiles answered to an output frame (R291): `ok t` says that tile t confirmed. -/
def State.percOutcome (s : State) (n : Ch) (f : CmdFrame) (ok : Nat → Bool) : State :=
  if f.cls = 1 then
    let old := s.get (F.PERC_OUTFAIL_TILES n)
    let new := ((List.range (s.tiles n)).map (· + 1)).foldl (fun a t => if ok t then a else a + 2 ^ (t - 1)) 0
    let s := s.put (F.PERC_OUTFAIL_TILES n) new
    if new &&& (2 ^ 26 - 1 - old) = 0 then s else s.raise (pgPERC n) 4
  else s.freeResult n f.addr (ok f.addr)

/-! ## Tasks (R284, R285, R292, R294) -/

/-- The time that a task's timers read, time-base ns (R286): in a SYNC task the sample instant of the epoch that started
its cycle, in a FREE task the moment of the call. -/
def State.timerTime (s : State) (n : Ch) (task : Nat) : Nat :=
  let p := (s.ch n).perc
  if progCls p.info task = 1 then nth p.times task else s.tb

/-- SYNC_CYCLE_START (R284, R286, R287): a due task takes its own copy of the image and of the sample instant, once for
each delivery. -/
def execSyncCycleStart (n : Ch) (task : Nat) (s : State) : Host.Outcome State Fault Refusal :=
  let p := (s.ch n).perc
  let b := (s.ch n).pour.deliv
  happen (
    match p.info.tasks[task]? with
    | none => s
    | some t =>
      if s.get (F.PERC_STAT_MODE n) = 1 ∧ t.cls = 1 ∧ (s.ch n).pour.on ∧ b.valid ∧ b.epoch % (max 1 t.period) = t.phase
          ∧ p.starts.getD task none ≠ some b.epoch then
        s.modPerc n (fun p => { p with
          starts := setAt none p.starts task (some b.epoch)
          inputs := setAt [] p.inputs task p.image
          times := setAt 0 p.times task b.smpTb
          running := if task ∈ p.running then p.running else p.running ++ [task] })
      else s)

/-- The execution time of a task is that of a clockless core, which the spec does not state: LAST_US is a free value
(DESIGN CHOICE, log entry 7), MAX_US its largest since RUN. -/
def State.taskTime (s : State) (n : Ch) (k : Nat) : State :=
  let d := s.draw
  let t := d.1.toNat % 65536
  (d.2.put (F.PERC_TSTAT_LAST_US n k) t).put (F.PERC_TSTAT_MAX_US n k) (max t (s.get (F.PERC_TSTAT_MAX_US n k)))

/-- The deadline of a task's cycle has come (R284): +900 µs of epoch E + n − 1, or +1,000 µs where that epoch is LATE. -/
def State.percDue (s : State) (n : Ch) (task : Nat) : Bool :=
  let p := (s.ch n).perc
  let b := (s.ch n).pour.deliv
  match p.info.tasks[task]?, p.starts.getD task none with
  | some t, some e =>
    let d := (e + max 1 t.period - 1) % 2 ^ 48
    decide (0 < sdiff 48 s.ep d) || (s.ep == d && !(b.epoch == d && b.late) && decide (900000 ≤ s.inEpoch))
  | _, _ => false

/-- SYNC_DEADLINE (R288, R292): the owner's values are latched; an unfinished task stops the engine. -/
def execSyncDeadline (n : Ch) (task : Nat) (finished : Bool) (outs : List (Nat × Nat × Bool)) (s : State) :
    Host.Outcome State Fault Refusal :=
  let p := (s.ch n).perc
  happen (
    if s.get (F.PERC_STAT_MODE n) ≠ 1 ∨ !(s.ch n).pour.on ∨ task ∉ p.running ∨ !s.percDue n task then s
    else if finished then
      let mine := outs.filter (fun o => progOwner p.info o.1 o.2.1 == some task)
      (s.modPerc n (fun p => { p with
        latched := mine.foldl (fun l o => latchSet l o.1 o.2.1 o.2.2) p.latched
        running := p.running.filter (· != task) })).taskTime n task
    else (s.put (F.PERC_STAT_TASK n) task).percStop n 1)

/-- FREE_WDOG (R285, R292). -/
def execFreeWdog (n : Ch) (task : Nat) (s : State) : Host.Outcome State Fault Refusal :=
  happen (
    if s.get (F.PERC_STAT_MODE n) = 1 ∧ progCls (s.ch n).perc.info task = 2 then (s.put (F.PERC_STAT_TASK n) task).percStop n 2
    else s)

/-- The FREE tasks of the active program. -/
def progFree (p : ProgInfo) : List Nat := (List.range p.tasks.length).filter (fun k => progCls p k == 2)

/-- FREE_SWITCH (R285): the two FREE tasks alternate every 50 µs of time-base time. -/
def execFreeSwitch (n : Ch) (s : State) : Host.Outcome State Fault Refusal :=
  let p := (s.ch n).perc
  happen (
    if s.get (F.PERC_STAT_MODE n) ≠ 1 ∨ s.tb < p.freeAt + 50000 then s
    else match progFree p.info with
      | [a, b] =>
        let old := if p.freeNow = b then b else a
        (s.modPerc n (fun p => { p with freeNow := if old = b then a else b, freeAt := s.tb })).taskTime n old
      | [a] => (s.modPerc n (fun p => { p with freeNow := a, freeAt := s.tb })).taskTime n a
      | _ => s)

/-! ## Modes (R292, R293, R295) -/

/-- The engine enters RUN: no latched value, no time since RUN. -/
def State.percRun (s : State) (n : Ch) : State :=
  let s := (s.put (F.PERC_STAT_MODE n) 1).modPerc n (fun p =>
    { p with latched := [], running := [], starts := [], freeNow := (progFree p.info).headD 0, freeAt := s.tb })
  s.setRegs (R.PERC_TSTAT n) (List.replicate 8 0)

/-- RUN is possible: a valid program, the page enabled, the channel owned here (R295, Table 4.19). -/
def State.percMayRun (s : State) (n : Ch) : Bool :=
  s.flag (F.PERC_STAT_PROG_VALID n) && s.enabled (pgPERC n) && (!s.twinCh n || s.getBit F.TWIN_STAT_OWN n.val)

/-- A write of PERC.CTRL (Tables 16.2, 16.6). -/
def State.doPercCtrl (s : State) (n : Ch) (v : Word) : Res :=
  let m := bitsOf v 1 0
  let cur := s.get (F.PERC_STAT_MODE n)
  let store (t : State) : State := t.setReg (R.PERC_CTRL n) (v &&& 0x103)
  if m = 3 then refuse .range s
  else if m = cur then (.ok, store s)
  else match m with
    | 0 => (.ok, (store s).percStop n 0)
    | 1 => if s.percMayRun n then (.ok, (store s).percRun n) else refuse .state s
    | _ =>
      if cur = 1 ∧ s.chState n = stISOLATED ∧ s.enabled (pgPERC n) then
        (.ok, ((store s).put (F.PERC_STAT_MODE n) 2).modPerc n (fun p => { p with running := [] }))
      else refuse .state s

/-- A mode request by PERC.CTRL, AUTOSTART as it stands. -/
def State.percMode (s : State) (src : Src) (n : Ch) (m : Nat) : Res :=
  let v := putBits (s.reg (R.PERC_CTRL n)) 1 0 m
  s.gated src (pgPERC n) 0x020 v (fun t => t.doPercCtrl n v)

def execPercModeRun (src : Src) (n : Ch) (s : State) : Host.Outcome State Fault Refusal := answer (s.percMode src n 1)
def execPercModeStop (src : Src) (n : Ch) (s : State) : Host.Outcome State Fault Refusal := answer (s.percMode src n 0)
def execPercModeHold (src : Src) (n : Ch) (s : State) : Host.Outcome State Fault Refusal := answer (s.percMode src n 2)

/-! ## Staging (R297) -/

/-- A check or an exchange is under way. -/
def State.xchgBusy (s : State) (n : Ch) : Bool := s.get (F.PERC_STAT_XCHG n) == 1 || s.get (F.PERC_STAT_XCHG n) == 2

/-- A write of PERC.PROG_ADDR (Table 16.9). -/
def State.doProgAddr (s : State) (n : Ch) (v : Word) : Res :=
  if s.xchgBusy n then refuse .state s else (.ok, s.put (F.PERC_PROG_ADDR_WORD n) (bitsOf v 15 0))

/-- WORD advances, stopping at 65,535. -/
def State.progNext (s : State) (n : Ch) : State :=
  s.put (F.PERC_PROG_ADDR_WORD n) (min 65535 (s.get (F.PERC_PROG_ADDR_WORD n) + 1))

/-- A write and a read of PERC.PROG_DATA (Table 16.10). -/
def State.doProgData (s : State) (n : Ch) (v : Word) : Res :=
  (.ok, (s.modPerc n (fun p => { p with stage := mset p.stage (s.get (F.PERC_PROG_ADDR_WORD n)) v })).progNext n)
def State.readProgData (s : State) (n : Ch) : State × Word :=
  (s.progNext n, mget (s.ch n).perc.stage (s.get (F.PERC_PROG_ADDR_WORD n)))

def execProgDataAccess (src : Src) (n : Ch) (w : Option Word) (s : State) : Host.Outcome State Fault Refusal :=
  match w with
  | some v => answer (s.gated src (pgPERC n) 0x030 v (fun t => t.doProgData n v))
  | none => match s.reachable src (pgPERC n) with
    | .ok =>
      let r := s.readProgData n
      .next { r.1 with last := ⟨.ok, 1, false, 0, [r.2]⟩ }
    | st => answer (st, s)

/-! ## Programs (R297 to R302) -/

/-- A write of PERC.CMD (Table 16.11). -/
def State.doPercCmd (s : State) (src : Src) (n : Ch) (v : Word) : Res :=
  if 1 < b2n (bit v 0) + b2n (bit v 1) + b2n (bit v 2) then refuse .range s
  else if !s.service src then refuse .priv s
  else if bit v 0 || bit v 1 then
    if s.xchgBusy n then refuse .state s
    else (.ok, (s.put (F.PERC_STAT_XCHG n) 1).modPerc n (fun p => { p with cmdLoad := bit v 0, xsince := s.ep }))
  else if bit v 2 then
    if s.get (F.PERC_STAT_MODE n) ≠ 0 then refuse .state s
    else (.ok, s.modPerc n (fun p => { p with retain := (p.info.insts.filter (·.retained)).map (fun i => (i.id, i.init)) }))
  else (.ok, s)

def execLoad (src : Src) (n : Ch) (s : State) : Host.Outcome State Fault Refusal :=
  answer (s.gated src (pgPERC n) 0x034 1 (fun t => t.doPercCmd src n 1))
def execExchange (src : Src) (n : Ch) (s : State) : Host.Outcome State Fault Refusal :=
  answer (s.gated src (pgPERC n) 0x034 2 (fun t => t.doPercCmd src n 2))
def execRetInit (src : Src) (n : Ch) (s : State) : Host.Outcome State Fault Refusal :=
  answer (s.gated src (pgPERC n) 0x034 4 (fun t => t.doPercCmd src n 4))

/-- A task outside the limits of R284 and R285. -/
def taskBad (t : TaskDef) : Bool :=
  if t.cls = 1 then t.period == 0 || decide (1000 < t.period) || decide (t.period ≤ t.phase) || decide (7 < t.prio)
  else decide (t.wdogUs < 1000) || decide (10000000 < t.wdogUs)

/-- Two SYNC tasks share a priority. -/
def prioShared : List TaskDef → Bool
  | [] => false
  | t :: l => (t.cls == 1 && l.any (fun u => u.cls == 1 && u.prio == t.prio)) || prioShared l

/-- An output bit is owned by two tasks. -/
def ownShared : List OwnDef → Bool
  | [] => false
  | o :: l => l.any (fun u => u.tile == o.tile && u.out == o.out && u.task != o.task) || ownShared l

/-- The image's words through the staging memory, and the first failing reason of Table 16.4 that does not need the
exchange point. -/
def State.progRefusal (s : State) (n : Ch) (info : ProgInfo) : Nat :=
  let p := (s.ch n).perc
  let w (i : Nat) : Word := mget p.stage i
  let len := (w 3).toNat
  if w 0 ≠ 0x50455243 ∨ bitsOf (w 1) 31 16 ≠ 1 ∨ bitsOf (w 1) 15 0 ≠ 7 then 1
  else if len ≤ 65536 ∧ (len < 8 ∨ crcWords (mrange p.stage 0 (len - 1)) ≠ w (len - 1)) then 2
  else if 65536 < len ∨ 131072 < bitsOf (w 4) 31 16 * 256 ∨ 65536 < bitsOf (w 4) 15 0 * 256 ∨ 8192 < bitsOf (w 5) 31 16 then 3
  else if 8 < info.tasks.length ∨ 2 < (info.tasks.filter (fun t => t.cls != 1)).length ∨ info.tasks.any taskBad
      ∨ prioShared info.tasks then 4
  else if ownShared info.owners ∨ info.owners.any (fun o => o.tile == 0 || decide (26 < o.tile)) then 5
  else if !p.cmdLoad ∧ info.insts.any (fun i => p.info.insts.any (fun j => j.id == i.id && j.typ != i.typ)) then 6
  else if (if p.cmdLoad then s.get (F.PERC_STAT_MODE n) ≠ 0 else s.get (F.PERC_STAT_MODE n) ≠ 1) then 7
  else 0

/-- A refusal of a program (R298). -/
def State.progRefuse (s : State) (n : Ch) (code : Nat) : State :=
  ((s.put (F.PERC_STAT_XCHG n) 4).put (F.PERC_STAT_XERR n) code).raise (pgPERC n) 6

/-- The register word of a task (Table 16.12), and of eight tiles' safe values (Table 16.15). -/
def taskWord (t : TaskDef) : Word :=
  if t.cls = 1 then BitVec.ofNat 32 (2 ^ 30 + t.period % 1024 * 2 ^ 20 + t.phase % 1024 * 1024 + t.prio % 8 * 128)
  else BitVec.ofNat 32 (2 ^ 31)
def safeWord (l : List Nat) (k : Nat) : Word :=
  BitVec.ofNat 32 ((List.range 8).foldl (fun a m => if 8 * k + m < 26 then a + nth l (8 * k + m) % 16 * 2 ^ (4 * m) else a) 0)

/-- PERC.TASK, PERC.SAFE, PROG_ID and PROG_VALID of the active program. -/
def State.progShow (s : State) (n : Ch) : State :=
  let p := (s.ch n).perc
  let s := s.setRegs (R.PERC_TASK n) ((List.range 8).map (fun k => match p.info.tasks[k]? with | some t => taskWord t | none => 0))
  let s := s.setRegs (R.PERC_SAFE n) ((List.range 4).map (safeWord p.info.safe))
  (s.setReg (R.PERC_PROG_ID n) (mget p.img 2)).putB (F.PERC_STAT_PROG_VALID n) true

/-- Retained values under a new program: those with matching ID and type keep theirs, the others are initial (R299,
R300). -/
def retainNew (old new : ProgInfo) (vals : List (Word × Word)) : List (Word × Word) :=
  (new.insts.filter (·.retained)).map (fun i =>
    if old.insts.any (fun j => j.id == i.id && j.typ == i.typ && j.retained) then
      (i.id, ((vals.find? (fun x => x.1 == i.id)).map (·.2)).getD i.init)
    else (i.id, i.init))

/-- A program becomes active: a cycle of a task that it keeps as it was goes on. -/
def State.progInstall (s : State) (n : Ch) (info : ProgInfo) (img : Mem) : State :=
  (s.modPerc n (fun p => { p with
    info := info, img := img, imgLen := (mget img 3).toNat, retain := retainNew p.info info p.retain
    latched := p.latched.filter (fun l => (progOwner info l.1 l.2.1).isSome)
    running := p.running.filter (fun k => p.info.tasks[k]? == info.tasks[k]?)
    freeNow := (progFree info).headD 0, freeAt := s.tb, flashDue := true })).progShow n

/-- PROG_CHECK_DONE (R298 to R300). -/
def execProgCheckDone (n : Ch) (info : ProgInfo) (s : State) : Host.Outcome State Fault Refusal :=
  let p := (s.ch n).perc
  happen (
    if s.get (F.PERC_STAT_XCHG n) ≠ 1 then s
    else
      let r := s.progRefusal n info
      if r ≠ 0 then s.progRefuse n r
      else if p.cmdLoad then (s.progInstall n info p.stage).put (F.PERC_STAT_XCHG n) 0
      else (s.put (F.PERC_STAT_XCHG n) 2).modPerc n (fun p => { p with staged := some info, stagedImg := p.stage, xsince := s.ep }))

/-- XDONE (R300): a delivery at least 1 epoch after PENDING; with no SYNC task executing (`idle`: those within their
cycles have finished) and the FREE tasks at their loop ends the programs are swapped; after 1,000 epochs the exchange is
refused. -/
def execXdone (n : Ch) (x : ExchangePoint) (s : State) : Host.Outcome State Fault Refusal :=
  let p := (s.ch n).perc
  happen (
    match p.staged with
    | none => s
    | some info =>
      if s.get (F.PERC_STAT_XCHG n) ≠ 2 then s
      else if 0 < sdiff 48 (s.ch n).pour.deliv.epoch p.xsince ∧ (p.running = [] ∨ x.idle) ∧ x.freeAtEnds then
        let s := (s.progInstall n info p.stagedImg).modPerc n (fun p => { p with staged := none, stagedImg := [] })
        let s := (s.put (F.PERC_STAT_XCHG n) 3).incSat (F.PERC_CNT_EXCHANGES n)
        (s.raise (pgPERC n) 5).logReg (pgPERC n) 0x024
      else if 1000 ≤ sdiff 48 s.ep p.xsince then
        (s.progRefuse n 8).modPerc n (fun p => { p with staged := none, stagedImg := [] })
      else s)

/-- PROG_FLASH_WRITE (R301, R61). -/
def execProgFlashWrite (n : Ch) (s : State) : Host.Outcome State Fault Refusal :=
  happen (
    if (s.ch n).perc.flashDue ∧ s.sup.vholdOk then
      s.modPerc n (fun p => { p with flash := some (p.info, p.img, mget p.img 2), flashDue := false })
    else s)

/-- The newer copy of the retained data (R12), and the copy that a write goes to. -/
def newerA (a b : Option (Word × List (Word × Word))) : Bool :=
  match a, b with
  | none, _ => false
  | some _, none => true
  | some x, some y => 0 ≤ sdiff 32 x.1.toNat y.1.toNat

/-- The retained data go to the older copy (R302, R239). -/
def State.retainSave (s : State) (n : Ch) : State :=
  s.modPerc n (fun p =>
    if newerA p.retA p.retB then { p with retB := some ((match p.retA with | some x => x.1 + 1 | none => 0), p.retain) }
    else { p with retA := some ((match p.retB with | some x => x.1 + 1 | none => 1), p.retain) })

/-- RETAIN_COPY (R302), every 100 ms. -/
def execRetainCopy (n : Ch) (s : State) : Host.Outcome State Fault Refusal :=
  happen (
    if s.sup.vholdOk ∧ s.mode ≠ mDECAF ∧ s.passedMs (s.ch n).perc.retAt 100 then
      (s.retainSave n).modPerc n (fun p => { p with retAt := s.tb })
    else s)

/-- BOOT (R295, R302): the stored program and the retained data; what is not stored starts anew. -/
def State.percBoot (s : State) (n : Ch) : State :=
  let p := (s.ch n).perc
  let copy := if newerA p.retA p.retB then p.retA else p.retB
  let base : PercS := { PercS.reset with retA := p.retA, retB := p.retB, flash := p.flash, cursor := 1 }
  let s := match p.flash with
    | none => s.modPerc n (fun _ => base)
    | some (info, img, _) =>
      let init := (info.insts.filter (·.retained)).map (fun i => (i.id, i.init))
      let vals := match copy with
        | some c => init.map (fun v => (v.1, ((c.2.find? (fun x => x.1 == v.1)).map (·.2)).getD v.2))
        | none => init
      (s.modPerc n (fun _ => { base with info := info, img := img, imgLen := (mget img 3).toNat, retain := vals })).progShow n
  if copy.isNone then s.putB (F.PERC_STAT_RETLOST n) true else s

/-- Step 10 of BOOT (R295): AUTOSTART. -/
def State.percAuto (s : State) (n : Ch) : State :=
  if s.flag (F.PERC_CTRL_AUTOSTART n) && s.percMayRun n then s.percRun n else s

end Sys2Proof.Machine
end

