-- ==== Sys2Proof/Machine/Imp.lean ====
section
/-! DEFINITION. In-operation impedance spectroscopy (R206 to R219) with the resistance observation of R230. -/

namespace Sys2Proof.Machine
open Sys2Proof

/-! ## Schedule (R206, R207) -/

/-- LIMIT, A (R210). -/
def State.impLimit (s : State) (n : Ch) : Rat := minR (s.irated n / 50) ((s.get (F.IMP_AMP_ICAP n) : Rat) / 10)

/-- The first aligned E0 whose lead-in starts at epoch `from_` or later. -/
def State.impAligned (s : State) (n : Ch) (from_ : Nat) : Nat :=
  (from_ + 1000 * s.get (F.IMP_SCHED_LEADIN n) + 19999) / 20000 * 20000 % 2 ^ 48

/-- The mode in effect: a disabled page acts as MODE = OFF (Table 4.19). -/
def State.impMode (s : State) (n : Ch) : Nat := if s.enabled (pgIMP n) then s.get (F.IMP_CTRL_MODE n) else 0

/-- The E0 that is due in PERIODIC mode (R207): its lead-in starts PERIOD minutes after that of the last started block,
and at least one epoch from now; a skipped E0 leaves the next (R208). -/
def State.impNext (s : State) (n : Ch) : Option Nat :=
  let p := (s.ch n).imp
  let after := match p.lastLead with | some e => e + 60000 * s.get (F.IMP_SCHED_PERIOD n) | none => 0
  if s.impMode n = 1 then some (max p.minE0 (s.impAligned n (max (s.ep + 1) after))) else none

/-- PERIOD and LEADIN as written now move the E0 that is due in PERIODIC mode. -/
def State.impResched (s : State) (n : Ch) : State :=
  if s.impMode n = 1 then s.modImp n (fun p => { p with due := s.impNext n }) else s

/-- Blocks become due: a write of PERIODIC, an enable, BOOT (R207). -/
def State.impDue (s : State) (n : Ch) : State :=
  let s := s.modImp n (fun p => { p with lastLead := none, minE0 := 0 })
  s.modImp n (fun p => { p with due := s.impNext n })

/-! ## Void blocks (R213, R214) -/

/-- The injection ends, and the phase changes. -/
def State.impPhase (s : State) (n : Ch) (ph : Nat) (inj : Bool) : State :=
  (s.put (F.IMP_STAT_PHASE n) ph).putB (F.IMP_STAT_INJ n) inj

/-- Results kept for a snapshot of an epoch at most 8 older than e: up to the newest stamped that early. -/
def keepRes (e : Nat) : List ImpRes → List ImpRes
  | [] => []
  | r :: t => if sdiff 48 r.endEpoch e ≤ -8 then [r] else r :: keepRes e t

/-- A result replaces the region (R215); PAGE_SEQ of IMP is its epoch stamp (R390). -/
def State.impPublish (s : State) (n : Ch) (r : ImpRes) : State :=
  (s.modImp n (fun p => { p with prev := keepRes s.ep (p.res :: p.prev), res := r, cap := [] })).seqPage (pgIMP n) r.endEpoch
    (r.grade == 1 || r.grade == 2 || (r.grade == 3 && (s.ch n).pour.deliv.holdover))

/-- The header of a void block, with the tones and the format it used. -/
def voidRes (cause e0 grade : Nat) (limit : Rat) (ntones zres : Nat) : ImpRes :=
  { ImpRes.none with
    status := 2, cause := cause, endEpoch := (e0 + 19999) % 2 ^ 48, startEpoch := e0, grade := grade, limit := toMilli limit
    ntones := ntones, zres := zres }

/-- A block is void. -/
def State.blockVoid (s : State) (n : Ch) (cause : Nat) : State :=
  let p := (s.ch n).imp
  ((s.impPhase n 0 false).impPublish n (voidRes cause p.e0 p.gradeMin p.limit p.ntones p.zres)).raise (pgIMP n) 3

/-- Every epoch of the block has been captured: nothing voids it any more (R213, R214). -/
def ImpS.captured (p : ImpS) : Bool := decide (20000 ≤ p.cap.length)

/-- A block between its lead-in start and its last captured epoch. -/
def State.impRunning (s : State) (n : Ch) : Bool :=
  s.get (F.IMP_STAT_PHASE n) == 1 || (s.get (F.IMP_STAT_PHASE n) == 2 && !(s.ch n).imp.captured)

/-- The delivered epoch lies between the lead-in start and the last epoch of the block. -/
def State.impInBlock (s : State) (n : Ch) : Bool :=
  let b := (s.ch n).pour.deliv
  b.valid && decide (0 ≤ sdiff 48 b.epoch (s.ch n).imp.leadAt) && decide (sdiff 48 b.epoch (s.ch n).imp.e0 < 20000)

/-- The void conditions that the state shows, lowest code first (R213). -/
def State.voidCauses (s : State) (n : Ch) : List Nat :=
  let b := (s.ch n).pour.deliv
  (if s.chState n ≠ stCONNECTED ∨ ¬ (s.mode = mRUN ∨ s.mode = mLIMP) then [1] else [])
  ++ (if s.flag (F.IMP_STAT_THROTTLED n) then [2] else [])
  ++ (if (s.ch n).ctle.refLimited then [3] else [])
  ++ (if s.impInBlock n ∧ !b.ivalid then [4] else [])
  ++ (if s.impInBlock n ∧ b.grade = 3 then [5] else [])

/-- A running block is void, with the lowest code among a cause and those that the state shows (R214). -/
def State.voidBy (s : State) (n : Ch) (cause : Nat) : State :=
  if s.impRunning n then s.blockVoid n ((s.voidCauses n ++ [cause]).foldl min 9) else s

/-- BLOCK_VOID (R213, R214): a void condition arises; a jump in epoch numbers (6) and a takeover (7) are named by the
command, the others show in the state. -/
def execBlockVoid (n : Ch) (cause : Nat) (s : State) : Host.Outcome State Fault Refusal :=
  happen (if s.voidCauses n ≠ [] ∨ cause = 6 ∨ cause = 7 then s.voidBy n (if cause = 7 then 7 else 6) else s)

/-- ABORT (R214): a running block is void with cause ABORT, and so is a due block, which does not start; in PERIODIC
mode the next aligned E0 becomes due. With or after the delivery of its last epoch a block completes. -/
def State.impAbort (s : State) (n : Ch) : State :=
  if s.impRunning n then s.voidBy n 8
  else if s.get (F.IMP_STAT_PHASE n) ≠ 0 then s
  else match (s.ch n).imp.due with
    | none => s
    | some e =>
      let s := s.modImp n (fun p => { p with due := none, minE0 := (e + 20000) % 2 ^ 48 })
      let s := (s.impPublish n (voidRes 8 e 0 (s.impLimit n) (s.get (F.IMP_CTRL_NTONES n)) (s.get (F.IMP_CTRL_ZRES n)))).raise
        (pgIMP n) 3
      s.impResched n

/-! ## Lead-in (R208, R209) -/

/-- The tone set passes R209. -/
def State.tonesOk (s : State) (n : Ch) : Bool :=
  let k := s.get (F.IMP_CTRL_NTONES n)
  let bin (m : Nat) : Nat := s.get (F.IMP_TONE_BIN n m)
  (List.range k).all (fun m => decide (4 ≤ bin m) && decide (bin m ≤ 5000))
    && (List.range (k - 1)).all (fun m => decide (bin m + 2 ≤ bin (m + 1)))
    && decide (s.get (F.IMP_CTRL_TTONE n) < k) && decide (s.get (F.IMP_CTRL_RTONE n) < k)

/-- Every condition of R208 beside the tone set. -/
def State.impMayStart (s : State) (n : Ch) : Bool :=
  let p : Rat := milli (s.reg (R.PROF_CUR_OUT n)).toInt
  s.chState n == stCONNECTED && (s.mode == mRUN || s.mode == mLIMP) && !s.flag (F.IMP_STAT_THROTTLED n)
    && (s.ch n).ctle.injFrom.isNone
    && decide (p + s.impLimit n ≤ s.ilimChg n) && decide (-(s.ilimDis n) ≤ p - s.impLimit n)

/-- IMP_LEADIN_START (R206 to R210): the block starts with the settings of now, or is skipped. -/
def execImpLeadinStart (n : Ch) (s : State) : Host.Outcome State Fault Refusal :=
  happen (
    match (s.ch n).imp.due with
    | none => s
    | some e0 =>
      let lead := s.get (F.IMP_SCHED_LEADIN n)
      if sdiff 48 (s.ep + 1000 * lead) e0 < 0 ∨ s.get (F.IMP_STAT_PHASE n) ≠ 0 then s
      else
        let tones := s.tonesOk n
        let s := if tones then s else s.setRaise (F.IMP_STAT_CFG_ERR n) (pgIMP n) 5
        if tones && s.impMayStart n then
          let k := s.get (F.IMP_CTRL_NTONES n)
          let s := s.modImp n (fun p => { p with
            due := none, lastLead := some s.ep, minE0 := 0, leadAt := s.ep, snrMin := s.get (F.IMP_SCHED_SNR_MIN n)
            e0 := e0, limit := s.impLimit n, ntones := k
            bins := (List.range k).map (fun m => s.get (F.IMP_TONE_BIN n m))
            weights := (List.range k).map (fun m => s.get (F.IMP_TONE_WEIGHT n m))
            ttone := s.get (F.IMP_CTRL_TTONE n), rtone := s.get (F.IMP_CTRL_RTONE n), zres := s.get (F.IMP_CTRL_ZRES n)
            cap := [], gradeMin := 0, temps := [0, 0], socs := [] })
          ((s.modCtle n (fun c => { c with refLimited := false })).impPhase n (if lead = 0 then 2 else 1) true).impResched n
        else
          let s := (s.incSat (F.IMP_STAT_SKIPPED n)).raise (pgIMP n) 4
          (s.modImp n (fun p => { p with due := none, minE0 := (e0 + 20000) % 2 ^ 48 })).impResched n)

/-! ## Capture (R211) -/

/-- The signed value of an ISTR word. -/
def istrOf (b : EpochBuf) : Int := b.istr.toInt

/-- Per-cell sums of the SoC over the block. -/
def State.socSums (s : State) (n : Ch) : List (List Rat) :=
  let old := (s.ch n).imp.socs
  (List.range (s.ch n).est.cells.length).map (fun i =>
    let c := s.estCell n i
    let o := old.getD i [0, 0]
    if c.init then [o.getD 0 0 + c.socPub, o.getD 1 0 + 1] else o)

/-- IMPEDANCE_ACCUMULATION (R211, R212): the delivered epoch joins the block. -/
def execImpedanceAccumulation (n : Ch) (s : State) : Host.Outcome State Fault Refusal :=
  let b := (s.ch n).pour.deliv
  let p := (s.ch n).imp
  happen (
    if !b.valid ∨ s.get (F.IMP_STAT_PHASE n) = 0 ∨ b.epoch ≠ (p.e0 + p.cap.length) % 2 ^ 48 ∨ p.captured then s
    else
      let ts := measured b.temp b.tempQ 16 true
      let s := if s.get (F.IMP_STAT_PHASE n) = 1 then s.put (F.IMP_STAT_PHASE n) 2 else s
      s.modImp n (fun p => { p with
        cap := p.cap ++ [⟨istrOf b, b.cellV, b.cellQ⟩], gradeMin := max p.gradeMin b.grade
        temps := [p.temps.getD 0 0 + sumI ts, p.temps.getD 1 0 + ts.length], socs := s.socSums n }))

/-- IMP_BLOCK_END (R206): epoch E0 + 20,000 begins. -/
def execImpBlockEnd (n : Ch) (s : State) : Host.Outcome State Fault Refusal :=
  let ph := s.get (F.IMP_STAT_PHASE n)
  happen (if (ph = 1 ∨ ph = 2) ∧ 20000 ≤ sdiff 48 s.ep (s.ch n).imp.e0 then s.impPhase n 3 false else s)

/-- Values of one cell over the block, none where the epoch's value is replaced. -/
def cellSeries (cap : List ImpEpoch) (i : Nat) : List (Option Rat) :=
  cap.map (fun e => if e.q.getD i 4 = 0 then some ((nth e.v i : Rat) / 10000) else none)

/-- Linear interpolation between the nearest values, held at the edges (R211): `prev` is the last value and its
distance, `gap` the number of values waiting for the next one. -/
def fillFrom (prev : Option Rat) (gap : Nat) : List (Option Rat) → List Rat
  | [] => List.replicate gap (prev.getD 0)
  | none :: t => fillFrom prev (gap + 1) t
  | some x :: t =>
    (List.range gap).map (fun (k : Nat) => match prev with
      | none => x
      | some y => y + (x - y) * (((k + 1 : Nat) : Rat)) / (((gap + 1 : Nat) : Rat))) ++ x :: fillFrom (some x) 0 t

/-! ## Computation (R212, R216, R217) -/

/-- A complex number. -/
structure Cx where
  re : Rat
  im : Rat
  deriving DecidableEq, Repr

/-- Bin k of a series: 2/N times its sum against exp(-j 2 π k n / N). -/
def dft (k : Nat) (l : List Rat) : Cx :=
  let f := (List.zip (List.range l.length) l).foldl (fun (a : Cx) p =>
    let t : Rat := (k * p.1 : Nat) / 20000
    ⟨a.re + p.2 * Config.cos t, a.im - p.2 * Config.sin t⟩) ⟨0, 0⟩
  ⟨f.re / 10000, f.im / 10000⟩

def Cx.sq (a : Cx) : Rat := a.re * a.re + a.im * a.im
def Cx.div (a b : Cx) : Cx := ⟨(a.re * b.re + a.im * b.im) / b.sq, (a.im * b.re - a.re * b.im) / b.sq⟩

/-- A tone of the block: I, SNR in dB, validity (R212). -/
def toneOf (l : List Rat) (bin snrMin : Nat) : ToneRes :=
  let i := dft bin l
  let noise := ((dft (bin - 1) l).sq + (dft (bin + 1) l).sq) / 2
  let snr := 10 * Config.log10 (i.sq / noise)
  ⟨bin, snr, decide ((snrMin : Rat) ≤ snr), i.re, i.im⟩

/-- The quality code of a cell before SAT (Table 11.1). -/
def cellCode (cap : List ImpEpoch) (i : Nat) : Nat :=
  let q (c : Nat) : Nat := (cap.filter (fun e => e.q.getD i 4 == c)).length
  if 0 < q 4 then 4 else if 0 < q 3 then 3 else if 600 < q 1 + q 2 then 2 else if 0 < q 1 + q 2 then 1 else 0

/-- The unit of the Z array, Ω (Table 11.4). -/
def zUnit (zres : Nat) : Rat := if zres = 0 then 1 / 10000000 else if zres = 1 then 1 / 1000000 else 1 / 100000

/-- A part of Z in its unit, clamped; whether it was clamped (R216). -/
def zPart (u x : Rat) : Int × Bool :=
  let v := roundHalf (x / u)
  (clampI (-32767) 32767 v, decide (v < -32767) || decide (32767 < v))

/-- What a block gives for one cell. -/
structure CellImp where
  code : Nat
  zs : List (Option Cx)
  words : List Word
  tint : Option Rat
  extrap : Bool

/-- Internal temperature from the phase at TTONE (R217); `row` are the eight phases, `tg` the eight temperatures. -/
def tintOf (row tg : List Rat) (th : Rat) : Rat × Bool :=
  let r (j : Nat) : Rat := row.getD j 0
  let t (j : Nat) : Rat := tg.getD j 0
  match (List.range 7).find? (fun j => (decide (r j ≤ th) && decide (th ≤ r (j + 1))) || (decide (r (j + 1) ≤ th) && decide (th ≤ r j))) with
  | some j => (t j + (th - r j) * (t (j + 1) - t j) / (r (j + 1) - r j), false)
  | none => (if absR (th - r 0) ≤ absR (th - r 7) then t 0 else t 7, true)

/-- The mean SoC of a cell over the block. -/
def ImpS.socMean (p : ImpS) (i : Nat) : Option Rat :=
  let o := p.socs.getD i [0, 0]
  if o.getD 1 0 = 0 then none else some (o.getD 0 0 / o.getD 1 0)

/-- A cell's impedance (R212, R216, R217). -/
def State.cellImp (s : State) (n : Ch) (tones : List ToneRes) (match_ : Bool) (i : Nat) : CellImp :=
  let p := (s.ch n).imp
  let code := cellCode p.cap i
  if 1 < code then ⟨code, [], List.replicate 16 0x80008000, none, false⟩
  else
    let v := fillFrom none 0 (cellSeries p.cap i)
    let zs : List (Option Cx) := tones.map (fun t => if t.ok then some ((dft t.bin v).div ⟨t.re, t.im⟩) else none)
    let u := zUnit p.zres
    let sat := zs.any (fun z => match z with | some z => (zPart u z.re).2 || (zPart u z.im).2 | none => false)
    let words := (List.range 16).map (fun m => match (zs.getD m none) with
      | some z => BitVec.ofNat 32 (int16 (zPart u z.im).1 * 65536 + int16 (zPart u z.re).1)
      | none => 0x80008000)
    let ti := match (if match_ then zs.getD p.ttone none else none), p.socMean i with
      | some z, some soc => some (tintOf ((List.range 8).map (fun j => s.chemGrid n 736 soc (s.chemV n (8 + j))))
          ((List.range 8).map (fun j => s.chemV n (8 + j))) (Config.carg z.re z.im))
      | _, _ => none
    ⟨if sat then 5 else code, zs, words, ti.map (·.1), (ti.map (·.2)).getD false⟩

/-- A resistance observation (R218, R230): kR and its envelope, or a rejection. -/
def State.observe (s : State) (n : Ch) (i : Nat) (re soc t imin imax : Rat) : State :=
  let c := s.estCell n i
  let r := re / s.chemGrid n 96 soc t
  if r < 1 / 2 ∨ 3 < r then s.incSat (F.EST_CNT_REJECT n)
  else
    let env : Envel := match c.envR with
      | none => ⟨imin, imax, t, t⟩
      | some e => ⟨minR e.imin imin, maxR e.imax imax, minR e.tmin t, maxR e.tmax t⟩
    s.modEst n (fun e => { e with
      cells := setAt c e.cells i { c with kR := c.kR + (r - c.kR) / 4, envR := some env }, writeDue := true })

/-- BLOCK_DONE (R212, R215 to R218, R230): the results of the block. -/
def State.blockDone (s : State) (n : Ch) : State :=
  let p := (s.ch n).imp
  if s.get (F.IMP_STAT_PHASE n) ≠ 3 ∨ p.cap.length < 20000 then s
  else
    let is := p.cap.map (fun e => (e.istr : Rat) / 1000)
    let tones := p.bins.map (fun b => toneOf is b p.snrMin)
    if tones.all (fun t => !t.ok) then s.blockVoid n 9
    else
      let match_ := toF32 ((nth p.bins p.ttone : Rat) / 20) == mget (s.ch n).est.chem 6
      let ncell := (p.cap.headD ⟨0, [], []⟩).q.length
      let cells := (List.range ncell).map (s.cellImp n tones match_)
      let ok (c : CellImp) : Bool := c.code == 0 || c.code == 1 || c.code == 5
      let mA := p.cap.map (·.istr)
      let imin := mA.foldl min (mA.headD 0)
      let imax := mA.foldl max (mA.headD 0)
      let tm : Option Rat := if p.temps.getD 1 0 = 0 then none else some ((p.temps.getD 0 0 : Rat) / (p.temps.getD 1 0 : Rat))
      let code16 (o : Option Rat) (k : Rat) : Nat := match o with | some x => int16 (clampI (-32767) 32767 (roundHalf (x * k))) | none => 0x8000
      let r : ImpRes :=
        { status := 1, cause := 0, endEpoch := (p.e0 + 19999) % 2 ^ 48, startEpoch := p.e0, grade := p.gradeMin, zres := p.zres
          ntones := p.ntones, imean := roundHalf ((sumI mA : Rat) / 20000), imin := imin, imax := imax
          tmean := code16 tm 1, nok := (cells.filter ok).length, limit := toMilli p.limit, tones := tones
          tint := cells.map (fun c => code16 c.tint 100)
          zq := cells.map (fun c => c.code + (if c.extrap then 8 else 0)), z := cells.map (·.words) }
      let s := ((s.impPublish n r).impPhase n 0 false).putB (F.IMP_STAT_NO_TTONE n) (!match_)
      let s := ((s.incSat (F.IMP_STAT_BLOCKS n)).raise (pgIMP n) 2)
      (List.zip (List.range ncell) cells).foldl (fun t q =>
        match (q.2.zs.getD p.rtone none), p.socMean q.1, q.2.tint.or (tm.map (· / 100)) with
        | some z, some soc, some temp => t.observe n q.1 z.re soc temp ((imin : Rat) / 1000) ((imax : Rat) / 1000)
        | _, _, _ => t) s

def execBlockDone (n : Ch) (s : State) : Host.Outcome State Fault Refusal := happen (s.blockDone n)

/-! ## The region (Table 11.2) -/

/-- A word of the impedance region, at its offset in the channel's window. -/
def impWord (r : ImpRes) (half off : Nat) : Word :=
  let tone (m : Nat) : Option ToneRes := r.tones[m]?
  if off < 0x18000 ∨ 0x1E000 ≤ off then 0
  else if off = 0x18000 then BitVec.ofNat 32 r.endEpoch
  else if off = 0x18004 then BitVec.ofNat 32 (r.status * 2 ^ 30 + r.cause * 2 ^ 26 + r.grade * 2 ^ 24 + r.zres * 2 ^ 22
    + r.ntones * 2 ^ 17 + r.endEpoch / 2 ^ 32 % 65536)
  else if off = 0x18008 then BitVec.ofNat 32 r.startEpoch
  else if off = 0x1800C then intWord r.imean
  else if off = 0x18010 then intWord r.imin
  else if off = 0x18014 then intWord r.imax
  else if off = 0x18018 then BitVec.ofNat 32 (r.tmean * 65536 + r.nok)
  else if off = 0x1801C then intWord r.limit
  else if 0x18040 ≤ off ∧ off < 0x18140 then
    match tone ((off - 0x18040) / 16) with
    | none => 0
    | some t => match (off - 0x18040) / 4 % 4 with
      | 0 => BitVec.ofNat 32 (min 65535 (roundHalf (t.snr * 10)).toNat * 65536 + b2n t.ok * 32768 + t.bin)
      | 1 => toF32 t.re
      | 2 => toF32 t.im
      | _ => 0
  else if 0x18200 ≤ off ∧ off < 0x18540 then
    let w := (off - 0x18200) / 4
    BitVec.ofNat 32 (r.tint.getD (2 * w + 1) 0x8000 * 65536 + r.tint.getD (2 * w) 0x8000)
  else if 0x18600 ≤ off ∧ off < 0x186D0 then
    let none_ : Nat := if r.status = 1 then 4 else 6
    BitVec.ofNat 32 ((List.range 8).foldl (fun a k => a + r.zq.getD (8 * ((off - 0x18600) / 4) + k) none_ * 16 ^ k) 0)
  else if 0x18800 ≤ off ∧ off < 0x1BC00 then
    let w := (off - 0x18800) / 4
    (r.z.getD (w / 8) []).getD (8 * half + w % 8) 0x80008000
  else 0

/-! ## Host writes -/

/-- A write of IMP.CTRL (Table 11.4, R207). -/
def State.doImpCtrl (s : State) (n : Ch) (v : Word) : Res :=
  let k := bitsOf v 20 16
  if k = 0 ∨ 16 < k ∨ bitsOf v 5 4 = 3 ∨ bitsOf v 1 0 = 3 then refuse .range s
  else
    let old := s.get (F.IMP_CTRL_MODE n)
    let s := s.setReg (R.IMP_CTRL n) (v &&& 0xFF1F0133)
    let m := bitsOf v 1 0
    if m = 0 then (.ok, (s.voidBy n 8).modImp n (fun p => { p with due := none }))
    else if m = 1 ∨ m ≠ old then (.ok, s.impDue n)
    else (.ok, s)

/-- A write of IMP.CMD (Table 11.8). -/
def State.doImpCmd (s : State) (n : Ch) (v : Word) : Res :=
  if bit v 0 && bit v 1 then refuse .range s
  else if bit v 0 then
    if s.impMode n ≠ 2 ∨ (s.ch n).imp.due.isSome ∨ s.get (F.IMP_STAT_PHASE n) ≠ 0 then refuse .state s
    else (.ok, s.modImp n (fun p => { p with due := some (s.impAligned n (s.ep + 1)) }))
  else if bit v 1 then (.ok, s.impAbort n)
  else (.ok, s)

def execImpStart (src : Src) (n : Ch) (s : State) : Host.Outcome State Fault Refusal :=
  answer (s.gated src (pgIMP n) 0x070 1 (fun t => t.doImpCmd n 1))
def execImpAbort (src : Src) (n : Ch) (s : State) : Host.Outcome State Fault Refusal :=
  answer (s.gated src (pgIMP n) 0x070 2 (fun t => t.doImpCmd n 2))

end Sys2Proof.Machine
end

