-- ==== Sys2Proof/Machine/Prof.lean ====
section
/-! DEFINITION. Target and limit writes of the profile generator (R190 to R193, R201), the valve trajectory and the
valve axis with its faults, limits and homing (R196 to R204). Positions in microsteps. -/

namespace Sys2Proof.Machine
open Sys2Proof

/-! ## Current target and limits -/

/-- A member of the allocation (R244). -/
def State.member (s : State) (n : Ch) : Bool :=
  s.energised n && s.getBit F.ALLOC_CTRL_CHEN n.val
    && !(s.flag F.ALLOC_STAT_REST_ACT && s.get F.ALLOC_STAT_REST_CH == n.val)

/-- A write of PROF.CUR_TARGET (R193, R242, Table 10.4). -/
def State.doCurTarget (s : State) (src : Src) (n : Ch) (v : Word) : Res :=
  let ok := s.chState n == stPRECHARGE || s.energised n
  if !ok || !s.enabled (pgPROF n) then refuse .state s
  else if src ≠ .unit ∧ s.alloc.modeNow = 1 ∧ s.member n then refuse .state s
  else if v.toInt < -((s.get (F.CTLE_STAGE_IRATED n) : Int) * 1000) ∨ (s.get (F.CTLE_STAGE_IRATED n) : Int) * 1000 < v.toInt
    then refuse .range s
  else (.ok, (s.modCtle n (fun c => { c with
    wrTarget := c.wrTarget ++ [(s.tb, s.reg (R.PROF_CUR_TARGET n))] })).setReg (R.PROF_CUR_TARGET n) v)

/-- The address of a limit register. -/
def limAddr (n : Ch) : LimReg → Nat
  | .curLim => R.PROF_CUR_LIM n
  | .curStop => R.PROF_CUR_STOP n
  | .vlvLim => R.PROF_VLV_LIM n

/-- Every field of a is at most the same field of b (Tables 10.5, 10.6). -/
def fieldsLe (a b : Word) : Bool :=
  bitsOf a 31 20 ≤ bitsOf b 31 20 && bitsOf a 19 10 ≤ bitsOf b 19 10 && bitsOf a 9 0 ≤ bitsOf b 9 0

/-- A write of a limit register (R190, R191, Tables 10.5, 10.6, 10.8). -/
def State.doLimit (s : State) (n : Ch) (r : LimReg) (v : Word) : Res :=
  let zero := bitsOf v 31 20 == 0 || bitsOf v 19 10 == 0 || bitsOf v 9 0 == 0
  let bad := match r with
    | .curLim => !fieldsLe v (s.reg (R.PROF_CUR_STOP n))
    | .curStop => !fieldsLe (s.reg (R.PROF_CUR_LIM n)) v
    | .vlvLim => decide (3125 < bitsOf v 31 20)
  if zero || bad then refuse .range s
  else
    let w := (s.tb, s.reg (limAddr n r))
    let s1 := s.setReg (limAddr n r) v
    (.ok, match r with
      | .vlvLim => s1.modProf n (fun p => { p with vWrL := p.vWrL ++ [w] })
      | .curLim => s1.modCtle n (fun c => { c with wrLim := c.wrLim ++ [w] })
      | .curStop => s1.modCtle n (fun c => { c with wrStop := c.wrStop ++ [w] }))

/-! ## Valve axis -/

/-- The encoder position, microsteps (R198, R204). -/
def State.vpos (s : State) (n : Ch) : Int :=
  let x := (s.ch n).vax
  (x.enc * (s.get (F.VAX_ENC_RATIO n) : Int)).fdiv 256 + x.encOff

/-- The valve limits of PROF.VLV_LIM in force at an evaluation now (Table 10.8, R190). -/
def State.vlvLim (s : State) (n : Ch) : Lim :=
  let w := effWord (s.ch n).prof.vWrL (s.reg (R.PROF_VLV_LIM n)) s.tb
  ⟨(bitsOf w 31 20 : Rat) * 64, (bitsOf w 19 10 : Rat) * 1024, (bitsOf w 9 0 : Rat) * 65536⟩

/-- The valve limits at a homing speed (Table 10.15). -/
def State.homeLim (s : State) (n : Ch) (fast : Bool) : Lim :=
  { s.vlvLim n with v := ((if fast then s.get (F.VAX_HOME_VFAST n) else s.get (F.VAX_HOME_VSLOW n)) : Rat) * 64 }

/-- A valve plan begins; a disabled PROF page holds the present position (Table 4.19). -/
def State.setVlv (s : State) (n : Ch) (pl : Plan) : State :=
  if !s.enabled (pgPROF n) then s else
  (s.modProf n (fun p => { p with vlv := pl })).putB (F.PROF_STAT_VLV_BUSY n) true

/-- The profile takes the encoder position with v = a = 0 (R204). -/
def State.vlvResync (s : State) (n : Ch) : State :=
  (s.vlvHold n (s.vpos n : Rat)).modVax n (fun x => { x with issued := (s.vpos n : Rat), feSince := none, vLast := 0 })

/-- Coils may be energised here: not LOCKOUT, not DECAF or HALT, in BOOT only from step 10, VAX enabled, and the valve
wired to this module (R197, R325, Table 4.19). -/
def State.coilsAllowed (s : State) (n : Ch) : Bool :=
  s.chState n != stLOCKOUT && s.mode != mDECAF && s.mode != mHALT && s.enabled (pgVAX n)
    && (s.mode != mBOOT || s.get F.SYS_STAT_BOOT_STEP == 10)
    && (!s.twinCh n || s.getBit F.TWIN_CHCFG_VLV n.val)

/-- Coils energised under R197: from the encoder position at rest. -/
def State.coilsOn (s : State) (n : Ch) : State :=
  if s.coilsAllowed n ∧ (s.ch n).vax.coilCause = 0 then
    ((s.putB (F.VAX_STAT_ENERGISED n) true).putB (F.VAX_STAT_STANDSTILL n) true).vlvResync n
  else s

/-- What a fault does to the coils and to HOMED (Table 10.2). -/
def State.faultCoils (s : State) (n : Ch) (code : Nat) : State :=
  let s := if code = 2 ∨ code = 3 ∨ code = 4 then s else s.putB (F.VAX_STAT_HOMED n) false
  if 8 ≤ code then (s.coilsOff n).modVax n (fun x => { x with
      coilCause := code, supplyBad := if code = 8 then (x.supplyBad.or (some false)) else x.supplyBad })
  else if s.flag (F.VAX_STAT_ENERGISED n) then s.putB (F.VAX_STAT_STANDSTILL n) true else s

/-- An axis fault of Table 10.2: pulses halt at once. While a fault stands its code stays, and a second fault acts on
the coils and on HOMED (R199, R205). -/
def State.axisFault (s : State) (n : Ch) (code : Nat) : State :=
  if s.get (F.VAX_STAT_FAULT n) ≠ 0 then s.faultCoils n code else
  let s := s.put (F.VAX_STAT_FAULT n) code
  let s := (s.vlvHold n (s.vkin n).p).modVax n (fun x => { x with phase := .none, feSince := none })
  let s := (s.putB (F.VAX_STAT_HOMING n) false).putB (F.VAX_STAT_MOVING n) false
  let s := s.faultCoils n code
  (s.raise (pgVAX n) 3).pageFault (pgVAX n) true

/-- A valve target inside VAX.RANGE (R201). -/
def State.inRange (s : State) (n : Ch) (t : Rat) : Bool :=
  decide ((64 * s.getS (F.VAX_RANGE_PMIN n) : Rat) ≤ t) && decide (t ≤ (64 * s.getS (F.VAX_RANGE_PMAX n) : Rat))

/-- A write of PROF.VLV_TARGET (R199 to R201); with the reference outside VAX.RANGE every target is refused (R204). -/
def State.doVlvTarget (s : State) (n : Ch) (v : Word) : Res :=
  let x := (s.ch n).vax
  if !s.flag (F.VAX_STAT_HOMED n) || s.flag (F.VAX_STAT_HOMING n) || s.get (F.VAX_STAT_FAULT n) != 0
    || !s.enabled (pgPROF n) then refuse .state s
  else if (s.flag (F.VAX_STAT_LIM_LO n) && decide (v.toInt < x.lo.pos))
      || (s.flag (F.VAX_STAT_LIM_HI n) && decide (x.hi.pos < v.toInt)) then refuse .state s
  else if !s.inRange n v.toInt || !s.inRange n x.refPos then refuse .range s
  else (.ok, (s.modProf n (fun p => { p with
    vWrT := p.vWrT ++ [(s.tb, s.reg (R.PROF_VLV_TARGET n))] })).setReg (R.PROF_VLV_TARGET n) v)

/-- PROF.CTRL.STOP (R201): at its evaluation the axis is planned to rest under PROF.VLV_LIM (R190). -/
def State.doStop (s : State) (n : Ch) (v : Word) : Res :=
  if !bit v 0 then (.ok, s)
  else if s.flag (F.VAX_STAT_HOMING n) then refuse .state s
  else (.ok, s.modProf n (fun p => { p with vStop := some s.tb }))

/-- The stop of PROF.CTRL.STOP: the target becomes the stop point. -/
def State.vlvStop (s : State) (n : Ch) (k : Kin) : State :=
  let pl := stopPlan s.tb k (s.vlvLim n)
  (s.setVlv n pl).setReg (R.PROF_VLV_TARGET n) (intWord (roundHalf pl.target))

/-- The limits of the present valve plan: in homing, at the speed of its pass. -/
def State.vlvNow (s : State) (n : Ch) : Lim :=
  if s.flag (F.VAX_STAT_HOMING n) then s.homeLim n (decide ((s.ch n).vax.phase = .fast ∨ (s.ch n).vax.phase = .backoff))
  else s.vlvLim n

/-- R191 for the valve: a limit write. -/
def State.vlvLimitWrite (s : State) (n : Ch) (k : Kin) : State :=
  let L := s.vlvNow n
  let t := (s.ch n).prof.vlv.target
  if stopDist k L ≤ absR (t - k.p) then s.setVlv n (optPlan s.tb k t L)
  else if s.inRange n (stopPoint k L) then
    (s.setVlv n (stopThenReturn s.tb k t L)).setRaise (F.PROF_STAT_OVERSHOOT n) (pgPROF n) 3
  else s.setRaise (F.PROF_STAT_VLV_DEFERRED n) (pgPROF n) 2

/-- The replan of the valve at an evaluation (R190). -/
def State.vlvReplan (s : State) (n : Ch) : State :=
  let pr := (s.ch n).prof
  let k := s.vkin n
  let stop := match pr.vStop with | some t => dueAt t s.tb | none => false
  let s1 :=
    if stop then s.vlvStop n k
    else if anyDue pr.vWrT s.tb then
      (s.setVlv n (optPlan s.tb k (effWord pr.vWrT (s.reg (R.PROF_VLV_TARGET n)) s.tb).toInt (s.vlvLim n))).putB
        (F.PROF_STAT_VLV_DEFERRED n) false
    else if anyDue pr.vWrL s.tb ∧ s.flag (F.PROF_STAT_VLV_BUSY n) then s.vlvLimitWrite n k
    else s
  s1.modProf n (fun p => { p with
    vWrT := notDue p.vWrT s.tb, vWrL := notDue p.vWrL s.tb, vStop := if stop then none else p.vStop })

/-- A valve plan has reached its target (R191, Table 10.20). -/
def State.vlvDone (s : State) (n : Ch) : State :=
  if s.flag (F.PROF_STAT_VLV_BUSY n) ∧ (s.ch n).prof.vlv.doneAt s.tb then
    ((s.putB (F.PROF_STAT_VLV_BUSY n) false).putB (F.PROF_STAT_VLV_DEFERRED n) false).raise (pgVAX n) 4
  else s

/-! ## Homing (R202 to R204, Table 10.3) -/

/-- A stop, then a relative move (the halts of Table 10.3). -/
def haltMove (tb : Nat) (k : Kin) (d : Rat) (L : Lim) : Plan :=
  let st := stopSegs k L
  let p := (k.run st).p
  ⟨tb, k, st ++ optSegs ⟨p, 0, 0⟩ (p + d) L, p + d⟩

/-- The direction of a homing sequence: towards the high limit for SWITCH_HI only. -/
def homeSign (hseq : Nat) : Rat := if hseq = 1 then 1 else -1

/-- A move far towards the limit at a homing speed; the travel is longer than the axis. -/
def State.homeRun (s : State) (n : Ch) (fast : Bool) : State :=
  let k := s.vkin n
  s.setVlv n (optPlan s.tb k (k.p + homeSign (s.get (F.VAX_CTRL_HSEQ n)) * 67108864) (s.homeLim n fast))

/-- Homing starts (R202). -/
def State.homeStart (s : State) (n : Ch) : State :=
  let s := (s.putB (F.VAX_STAT_HOMED n) false).putB (F.VAX_STAT_HOMING n) true
  let s := s.modVax n (fun x => { x with homeAt := s.tb })
  match s.get (F.VAX_CTRL_HSEQ n) with
  | 3 => s.modVax n (fun x => { x with phase := .done })
  | 2 => (s.homeRun n false).modVax n (fun x => { x with phase := .slow })
  | _ => (s.homeRun n true).modVax n (fun x => { x with phase := .fast })

/-- The encoder position p takes the value VAX.HOME_POS (R204); positions latched before follow. -/
def State.homeMap (s : State) (n : Ch) (p : Int) : State :=
  let d := (s.reg (R.VAX_HOME_POS n)).toInt - p
  (s.modVax n (fun x => { x with
    encOff := x.encOff + d, issued := x.issued + d, refPos := p + d
    lo := { x.lo with pos := x.lo.pos + d }, hi := { x.hi with pos := x.hi.pos + d } })).modProf n (fun q =>
    { q with vlv := { q.vlv with k0 := { q.vlv.k0 with p := q.vlv.k0.p + d }, target := q.vlv.target + d } })

/-- HOME_REFERENCE of sequences 0 to 2: the reference is taken, and the axis backs off 1,024 microsteps at VSLOW. -/
def State.homeRef (s : State) (n : Ch) (p : Int) (stall : Bool) : State :=
  let sg := homeSign (s.get (F.VAX_CTRL_HSEQ n))
  let s := s.homeMap n p
  let s := if stall then s.vlvResync n else s
  (s.setVlv n (haltMove s.tb (s.vkin n) (-sg * 1024) (s.homeLim n false))).modVax n (fun x => { x with phase := .away })

/-- An input whose chatter stands has had no transition for 50 ms (R200). -/
def LimS.calm (l : LimS) (tb : Nat) : Bool := !l.chatter || l.edges.all (fun t => decide (50000000 ≤ tb - t))

/-- The profile position is farther from the encoder position than POS_FE_LIM (R183, R198). -/
def State.posFar (s : State) (n : Ch) : Bool := decide (s.coef n 0x088 < absR ((s.vkin n).p - (s.vpos n : Rat)))

/-- The cause of the axis fault has ended (R199, R200, Table 10.2; DEDUCED, log entry 18): a following error when the
position lies within POS_FE_LIM, chatter after 50 ms without a transition, a fault that turned the coils off once
MOTOR24 has recovered; the other causes are momentary. -/
def State.causeEnded (s : State) (n : Ch) : Bool :=
  let x := (s.ch n).vax
  x.lo.calm s.tb && x.hi.calm s.tb && (x.coilCause == 0 || x.supplyBad.isNone)
    && !(s.get (F.VAX_STAT_FAULT n) == 2 && s.posFar n)

/-- CLRFAULT accepted: the fault ends; coils that it turned off are energised again; chatter ends. -/
def State.clrFault (s : State) (n : Ch) : State :=
  let f := s.get (F.VAX_STAT_FAULT n)
  if f = 0 then s else
  let s := (s.put (F.VAX_STAT_FAULT n) 0).pageFault (pgVAX n) false
  let s := s.modVax n (fun x => { x with lo := { x.lo with chatter := false }, hi := { x.hi with chatter := false } })
  let s := (s.putB (F.VAX_STAT_LIM_LO n) (s.ch n).vax.lo.active).putB (F.VAX_STAT_LIM_HI n) (s.ch n).vax.hi.active
  let s := if (s.ch n).vax.coilCause = 0 then s
    else (s.modVax n (fun x => { x with coilCause := 0 })).coilsOn n
  if f = 1 then s.vlvResync n else s

/-- A write of VAX.CTRL (Table 10.12; R199, R202). -/
def State.doVaxCtrl (s : State) (n : Ch) (v : Word) : Res :=
  if bit v 31 && bit v 29 then refuse .range s
  else if bit v 29 && !s.causeEnded n then refuse .state s
  else if bit v 31 && (!s.flag (F.VAX_STAT_ENERGISED n) || s.get (F.VAX_STAT_FAULT n) != 0
      || s.flag (F.PROF_STAT_VLV_BUSY n) || s.flag (F.VAX_STAT_HOMING n)) then refuse .state s
  else
    let s := s.setReg (R.VAX_CTRL n) (v &&& 0x307)
    let s := if bit v 29 then s.clrFault n else s
    (.ok, if bit v 31 then s.homeStart n else s)

/-! ## The drive (R196) -/

/-- The rms current applied, A: none without the coils, IHOLD at standstill, else IRUN (Table 10.13). -/
def State.coilRms (s : State) (n : Ch) : Rat :=
  let w := (s.ch n).vax.drive
  if !s.flag (F.VAX_STAT_ENERGISED n) then 0
  else ((if s.flag (F.VAX_STAT_STANDSTILL n) then bitsOf w 23 16 else bitsOf w 31 24) : Rat) / 100

/-- The setpoints of phases A and B, A: a sine table of 256 microsteps per electrical period, the phases a quarter
apart, scaled to √2 times the rms current. -/
def State.coilSetpoints (s : State) (n : Ch) : Rat × Rat :=
  let k : Nat := ((s.ch n).vax.issued.floor % 256).toNat
  let amp := s.coilRms n * sqrtR 2
  (amp * Config.sin ((k : Rat) / 256), amp * Config.sin (((k + 64 : Nat) : Rat) / 256))

/-- The off-time of the chopper, ns: its part in fast decay and its part in slow decay; a bridge's blanking time. -/
def State.chopOff (s : State) (n : Ch) : Nat × Nat :=
  let w := (s.ch n).vax.drive
  let t := bitsOf w 15 8 * 500
  (t * bitsOf w 3 0 / 8, t - t * bitsOf w 3 0 / 8)
def chopBlank : Nat := 1000

/-! ## The rows of the valve axis -/

/-- The deviation d, microsteps issued less the encoder position, with its display (R198). -/
def State.vdev (s : State) (n : Ch) : Rat := (s.ch n).vax.issued - (s.vpos n : Rat)
def State.devShow (s : State) (n : Ch) : State :=
  s.put (F.VAX_STAT_DEV n) (int16 (clampI (-32767) 32767 (truncR (s.vdev n))))

/-- The steps of the last 100 µs: the profile velocity of the last evaluation plus the position-loop term (R198); IRUN
applies while the axis moves, but in homing sequence 2 (R196, Table 10.3). -/
def State.vlvStep (s : State) (n : Ch) : State :=
  let x := (s.ch n).vax
  let issued := x.issued + (x.vLast + x.rate) / 10000
  let moving := decide (issued.floor ≠ x.issued.floor)
  let s := s.modVax n (fun x => { x with
    issued := issued, vLast := (s.vkin n).v, lastStep := if moving then s.tb else x.lastStep
    feSince := if s.posFar n then (if x.feSince.isNone then some s.tb else x.feSince) else none })
  let s := s.putB (F.VAX_STAT_MOVING n) moving
  if moving ∧ ¬ (s.flag (F.VAX_STAT_HOMING n) ∧ s.get (F.VAX_CTRL_HSEQ n) = 2) then s.putB (F.VAX_STAT_STANDSTILL n) false
  else s

/-- VLV_EVAL (R189, R198): steps, deviation, stall, following-error timer. The drive's settings are those of VAX.DRIVE
from the next off-time on (R196; DESIGN CHOICE, log entry 78: an off-time has passed by the next evaluation). -/
def State.vlvEval (s : State) (n : Ch) (count : Int) : State :=
  let s := s.modVax n (fun x => { x with enc := count, drive := s.reg (R.VAX_DRIVE n) })
  if !s.flag (F.VAX_STAT_ENERGISED n) || s.get (F.VAX_STAT_FAULT n) != 0 then
    ((s.modVax n (fun x => { x with vLast := 0 })).putB (F.VAX_STAT_MOVING n) false).devShow n
  else
    let s := if s.enabled (pgPROF n) then s.vlvReplan n else s
    let s := ((s.vlvStep n).devShow n).vlvDone n
    let d := s.vdev n
    if (s.get (F.VAX_ENC_STALL_WIN n) : Rat) < absR d then
      (if s.flag (F.VAX_STAT_HOMING n) ∧ s.get (F.VAX_CTRL_HSEQ n) = 2 then
        (if (s.ch n).vax.phase = .slow then s.homeRef n (s.vpos n) true else s)
       else s.axisFault n 1)
    else if (s.ch n).vax.phase = .backoff ∧ (s.ch n).prof.vlv.doneAt s.tb ∧ s.enabled (pgPROF n) then
      (s.homeRun n false).modVax n (fun x => { x with phase := .slow })
    else s

def execVlvEval (n : Ch) (count : Int) (s : State) : Host.Outcome State Fault Refusal := happen (s.vlvEval n count)

/-- FE (R183, R199): the position following-error timer has reached POS_FE_TIME. -/
def execFe (n : Ch) (s : State) : Host.Outcome State Fault Refusal :=
  happen (
    match (s.ch n).vax.feSince with
    | some t =>
      if s.coef n 0x08C * 1000000 ≤ ((s.tb - t : Nat) : Rat) then (s.raise (pgCTLE n) 6).axisFault n 2 else s
    | none => s)

/-- ENC (R198): an encoder error; ENC_5V is off in LOCKOUT (R45). -/
def execEnc (n : Ch) (s : State) : Host.Outcome State Fault Refusal :=
  happen (if s.chState n = stLOCKOUT then s else s.axisFault n 7)

/-- COIL (Table 10.2): of energised coils. -/
def execCoil (n : Ch) (s : State) : Host.Outcome State Fault Refusal :=
  happen (if s.flag (F.VAX_STAT_ENERGISED n) then s.axisFault n 8 else s)

/-- MOTOR_SUPPLY_FAULT (R199, R381): MOTOR24 out of range, on every axis that has its coils energised. -/
def execMotorSupplyFault (ov : Bool) (s : State) : Host.Outcome State Fault Refusal :=
  happen (s.eachCh (fun t n =>
    let t := t.modVax n (fun x => { x with supplyBad := some ov })
    if t.flag (F.VAX_STAT_ENERGISED n) then t.axisFault n (if ov then 10 else 9) else t))

/-- MOTOR_SUPPLY_RECOVER (R199): MOTOR24 has read `mv` for 100 ms. -/
def execMotorSupplyRecover (mv : Nat) (s : State) : Host.Outcome State Fault Refusal :=
  happen (s.eachCh (fun t n =>
    match (t.ch n).vax.supplyBad with
    | none => t
    | some ov =>
      if 20000 ≤ mv ∧ (!ov ∨ mv ≤ 32000) then t.modVax n (fun x => { x with supplyBad := none }) else t))

/-- IHOLD_TIMER (R196): 500 ms after the last step. -/
def execIholdTimer (n : Ch) (s : State) : Host.Outcome State Fault Refusal :=
  happen (if s.flag (F.VAX_STAT_ENERGISED n) ∧ s.passedMs (s.ch n).vax.lastStep 500
    then s.putB (F.VAX_STAT_STANDSTILL n) true else s)

/-- A limit input: reading and replacing it. -/
def State.lim (s : State) (n : Ch) (hi : Bool) : LimS := if hi then (s.ch n).vax.hi else (s.ch n).vax.lo
def State.setLim (s : State) (n : Ch) (hi : Bool) (l : LimS) : State :=
  s.modVax n (fun x => if hi then { x with hi := l } else { x with lo := l })

/-- LIMIT_TRANSITION (R200): the 5 ms start again at the encoder position of this transition; more than 4 in 50 ms are
chatter. -/
def execLimitTransition (n : Ch) (hi : Bool) (level : Bool) (s : State) : Host.Outcome State Fault Refusal :=
  let l := s.lim n hi
  let ed := (l.edges ++ [s.tb]).filter (fun t => decide (s.tb - t < 50000000))
  let s := s.setLim n hi { l with raw := level, since := s.tb, pos := s.vpos n, edges := ed }
  happen (
    if 4 < ed.length then
      let s := s.setLim n hi { s.lim n hi with chatter := true }
      (s.putB (if hi then F.VAX_STAT_LIM_HI n else F.VAX_STAT_LIM_LO n) true).axisFault n 4
    else s)

/-- The qualified active edge of a limit (R200, R202, R203). -/
def State.limitEdge (s : State) (n : Ch) (hi : Bool) : State :=
  let l := s.lim n hi
  if s.flag (F.VAX_STAT_HOMING n) then
    if s.get (F.VAX_CTRL_HSEQ n) ≤ 1 ∧ (hi ↔ s.get (F.VAX_CTRL_HSEQ n) = 1) then
      match (s.ch n).vax.phase with
      | .fast =>
        (s.setVlv n (haltMove s.tb (s.vkin n) (-(homeSign (s.get (F.VAX_CTRL_HSEQ n))) * 1024)
          (s.homeLim n true))).modVax n (fun x => { x with phase := .backoff })
      | .slow => s.homeRef n l.pos false
      | _ => s
    else if s.get (F.VAX_CTRL_HSEQ n) ≤ 1 then s.axisFault n 6
    else if s.get (F.VAX_CTRL_HSEQ n) = 2 ∧ hi then s.axisFault n 6
    else if s.get (F.VAX_CTRL_HSEQ n) = 2 ∧ (s.vkin n).v < 0 then s.axisFault n 3
    else s
  else if (hi ∧ 0 < (s.vkin n).v) ∨ (!hi ∧ (s.vkin n).v < 0) then s.axisFault n 3
  else s

/-- LIMIT_QUALIFIED (R200): the input has held its level for 5 ms. -/
def execLimitQualified (n : Ch) (hi : Bool) (s : State) : Host.Outcome State Fault Refusal :=
  let l := s.lim n hi
  let act := l.raw != s.flag (if hi then F.VAX_CTRL_POL_HI n else F.VAX_CTRL_POL_LO n)
  happen (
    if s.passedMs l.since 5 && act != l.active then
      let s := (s.setLim n hi { l with active := act }).putB (if hi then F.VAX_STAT_LIM_HI n else F.VAX_STAT_LIM_LO n)
        (act || l.chatter)
      if act then s.limitEdge n hi else s
    else s)

/-- HOME_COMPLETE (R204): the axis has moved away from the reference, or sequence 3 takes the present position. -/
def execHomeComplete (n : Ch) (s : State) : Host.Outcome State Fault Refusal :=
  let ph := (s.ch n).vax.phase
  happen (
    if s.flag (F.VAX_STAT_HOMING n) ∧ (ph = .done ∨ (ph = .away ∧ (s.ch n).prof.vlv.doneAt s.tb ∧ s.enabled (pgPROF n))) then
      let s := if ph = .done then s.homeMap n (s.vpos n) else s
      let s := (s.vlvResync n).modVax n (fun x => { x with phase := .none })
      ((s.putB (F.VAX_STAT_HOMED n) true).putB (F.VAX_STAT_HOMING n) false).raise (pgVAX n) 2
    else s)

/-- HOME_TMO (R199): not complete within HOME.TMO. -/
def execHomeTmo (n : Ch) (s : State) : Host.Outcome State Fault Refusal :=
  happen (
    if s.flag (F.VAX_STAT_HOMING n) ∧ s.passedMs (s.ch n).vax.homeAt (1000 * s.get (F.VAX_HOME_TMO n))
    then s.axisFault n 5 else s)

/-- The position and the position-loop term at an epoch's sample instant (R175, Table 10.19). -/
def State.vaxSample (s : State) (n : Ch) : State :=
  let e := (s.vkin n).p - (s.vpos n : Rat)
  s.modVax n (fun x => { x with posAt := s.vpos n, rate := if s.flag (F.VAX_STAT_ENERGISED n) then s.coef n 0x084 * e else 0 })

/-- VAX.POS takes an epoch's position (R390). -/
def State.vaxShow (s : State) (n : Ch) (pos : Int) (epoch : Nat) (holdover : Bool) : State :=
  (s.setReg (R.VAX_POS n) (intWord pos)).seqPage (pgVAX n) epoch holdover

end Sys2Proof.Machine
end

