-- ==== Sys2Proof/Machine/Alloc.lean ====
section
/-! DEFINITION. Dispatch and string allocation (R242 to R248). -/

namespace Sys2Proof.Machine
open Sys2Proof

/-! ## Limits (R242, R243) -/

/-- The mode of the next run: a disabled page acts as MODE = OFF (Table 4.19). -/
def State.allocMode (s : State) : Nat := if s.enabled pgALLOC then s.get F.ALLOC_CTRL_MODE else 0

/-- The state-of-power limit of a channel at the selected horizon, A. -/
def State.sopLimit (s : State) (n : Ch) (chg : Bool) : Rat :=
  (nth (s.ch n).est.pub.curLim (s.get F.ALLOC_CTRL_HOR + (if chg then 0 else 3)) : Rat) / 1000

/-- The stage-3 limit of a channel for the sign of P, narrowed for an impedance block (R243). -/
def State.allocLim (s : State) (n : Ch) (chg : Bool) : Rat :=
  let l := if chg then s.ilimChg n else s.ilimDis n
  if s.flag F.ALLOC_CTRL_IMP_RES ∧ s.impMode n ≠ 0 then maxR 0 (l - s.impLimit n) else l

/-! ## The allocation (R244) -/

/-- What a run works with, per member: channel, weight, VSTR in V, limit in A. -/
structure AllocIn where
  ch  : Ch
  w   : Rat
  v   : Rat
  lim : Rat

/-- One pass over the free members: currents, and whether one was clamped. -/
def allocPass (neg : Bool) (rest : Rat) (free : List AllocIn) : List (AllocIn × Rat) × Bool :=
  let w := sumR (free.map (·.w))
  let out := free.map (fun a =>
    let i := rest * a.w / w / a.v
    if a.lim < absR i then (a, if neg then -a.lim else a.lim, true) else (a, i, false))
  (out.map (fun x => (x.1, x.2.1)), out.any (fun x => x.2.2))

/-- The passes of R244; `k` passes are left. -/
def allocPasses (neg : Bool) : Nat → Rat → List AllocIn → List (Ch × Rat)
  | 0, _, free => free.map (fun a => (a.ch, if neg then -a.lim else a.lim))
  | k + 1, rest, free =>
    if free.isEmpty then [] else
    let r := allocPass neg rest free
    if !r.2 then r.1.map (fun x => (x.1.ch, x.2))
    else
      let done := r.1.filter (fun x => decide (absR x.2 = x.1.lim))
      let left := r.1.filter (fun x => !decide (absR x.2 = x.1.lim))
      done.map (fun x => (x.1.ch, x.2))
        ++ allocPasses neg k (rest - sumR (done.map (fun x => x.2 * x.1.v))) (left.map (·.1))

/-- The power command of a run, W: 0 once PCMD_TMO has passed without an accepted write (R246). -/
def State.pcmdLate (s : State) : Bool :=
  s.get F.ALLOC_PCMD_TMO_TMO != 0 && s.passedMs s.alloc.cmdAt (100 * s.get F.ALLOC_PCMD_TMO_TMO)
def State.pcmd (s : State) : Rat := if s.pcmdLate then 0 else ((s.reg R.ALLOC_PCMD).toInt : Rat) * 100

/-- VSTR of a channel's newest epoch, V; where it is invalid, a free value in mV (DESIGN CHOICE, log entry 17). -/
def State.allocV (s : State) (n : Ch) : Rat :=
  let b := (s.ch n).pour.deliv
  let mv := if b.valid ∧ b.vstr ≠ 0xFFFFFFFF then b.vstr else Config.freeWord (s.free + n.val)
  (mv.toNat : Rat) / 1000

/-- What the run takes of a member. -/
def State.allocIn (s : State) (p : Rat) (n : Ch) : AllocIn :=
  ⟨n, if s.flag F.ALLOC_CTRL_SHARE then 1
      else (if 0 < p then ((s.ch n).est.pub.ahChg : Rat) else ((s.ch n).est.pub.ahDis : Rat)) / 100,
    s.allocV n, s.allocLim n (decide (0 < p))⟩

/-- The targets of the members, mA, and the shortfall, W. -/
def State.allocCalc (s : State) (members : List Ch) : List (Ch × Int) × Rat :=
  let p := s.pcmd
  let out := allocPasses (decide (p < 0)) 8 p (members.map (s.allocIn p))
  (out.map (fun x => (x.1, truncR (x.2 * 1000))), absR p - absR (sumR (out.map (fun x => x.2 * s.allocV x.1))))

/-- A run over these members shows a shortfall. -/
def State.allocShort (s : State) (members : List Ch) : Bool := decide (1000 < (s.allocCalc members).2)

/-! ## Rest windows (R247) -/

/-- Members without regard to a rest window, but for the channel named. -/
def State.membersBut (s : State) (n : Ch) : List Ch :=
  allCh.filter (fun k => k != n && s.energised k && s.getBit F.ALLOC_CTRL_CHEN k.val)

/-- The channel of the window. -/
def State.restCh (s : State) : Ch := Fin.ofNat 8 (s.get F.ALLOC_STAT_REST_CH)

/-- A window ends: the channel is a member again from the next run. -/
def State.restEnd (s : State) : State :=
  let s := { (s.putB F.ALLOC_STAT_REST_ACT false) with alloc := { s.alloc with restAt := none } }
  (s.raise pgALLOC 5).logReg pgALLOC 0x02C

/-- The end conditions of a held window. -/
def State.restOver (s : State) : Bool :=
  let n := s.restCh
  !s.flag (F.EST_STAT_REST_NEEDED n) || !s.energised n || s.allocShort (s.membersBut n)
    || (match s.alloc.restAt with | some t => s.passedMs t 1200000 | none => true)

/-- A window starts when one may be offered. -/
def State.restOffer (s : State) : State :=
  if s.flag F.ALLOC_STAT_REST_ACT ∨ !s.flag F.ALLOC_CTRL_REST_EN ∨ s.allocMode ≠ 1 then s
  else match allCh.find? (fun n => s.member n && s.flag (F.EST_STAT_REST_NEEDED n) && !s.allocShort (s.membersBut n)) with
    | none => s
    | some n =>
      let s := (s.putB F.ALLOC_STAT_REST_ACT true).put F.ALLOC_STAT_REST_CH n.val
      let s := { s with alloc := { s.alloc with restAt := some s.tb } }
      ((s.doCurTarget .unit n 0).2).raise pgALLOC 5

/-- REST_WINDOW_END (R247). -/
def execRestWindowEnd (s : State) : Host.Outcome State Fault Refusal :=
  happen (if s.flag F.ALLOC_STAT_REST_ACT && s.restOver then s.restEnd else s)

/-! ## Runs -/

/-- The limits of a run come into force (R242, R243). -/
def State.allocLimits (s : State) : State :=
  { s with alloc := { s.alloc with
      modeNow := s.allocMode
      limChg := allCh.map (fun n => s.sopLimit n true), limDis := allCh.map (fun n => s.sopLimit n false) } }

/-- ALLOC.STAT of a run. -/
def State.allocShow (s : State) (members : List Ch) (short : Rat) : State :=
  let mask := members.foldl (fun a n => a + 2 ^ n.val) 0
  let s := if mask = s.get F.ALLOC_STAT_MEMBERS then s else (s.put F.ALLOC_STAT_MEMBERS mask).raise pgALLOC 4
  let is := decide (1000 < short)
  let was := s.flag F.ALLOC_STAT_SHORT
  let s := (s.putB F.ALLOC_STAT_SHORT is).put F.ALLOC_STAT_UNMET (if is then min 65535 (short / 1000).floor.toNat else 0)
  if is && !was then s.raise pgALLOC 2 else s

/-- A run starts in every epoch with E mod 10 = 0, and in an epoch in which membership has changed or PCMD has been
written (R244). -/
def State.allocDue (s : State) : Bool :=
  s.ep % 10 == 0 || s.alloc.pcmdNew
    || (allCh.filter s.member).foldl (fun a n => a + 2 ^ n.val) 0 != s.get F.ALLOC_STAT_MEMBERS

/-- ALLOC_RUN (R242 to R245, R247). -/
def State.allocRun (s : State) : State :=
  let s := ({ s with alloc := { s.alloc with pcmdNew := false } } : State).allocLimits
  let s := if s.flag F.ALLOC_STAT_REST_ACT && s.restOver then s.restEnd else s
  let s := s.restOffer
  let members := allCh.filter s.member
  if s.alloc.modeNow ≠ 1 then s.allocShow members 0
  else
    let r := s.allocCalc members
    let s1 := r.1.foldl (fun t x =>
      if t.reg (R.PROF_CUR_TARGET x.1) = intWord x.2 then t else (t.doCurTarget .unit x.1 (intWord x.2)).2) s
    { (s1.allocShow members r.2) with free := s1.free + 8 }

/-- ALLOC_RUN; none during a supervisor restart (R368). -/
def execAllocRun (s : State) : Host.Outcome State Fault Refusal :=
  happen (if s.sup.restarting ∨ !s.allocDue then s else s.allocRun)

/-- A write of ALLOC.PCMD (Table 13.2, R246). -/
def State.doPcmd (s : State) (v : Word) : Res :=
  if v.toInt < -200000 ∨ 200000 < v.toInt then refuse .range s
  else (.ok, { (s.setReg R.ALLOC_PCMD v) with alloc := { s.alloc with cmdAt := s.tb, pcmdNew := true, tmoDone := false } })

def execPcmdWrite (src : Src) (v : Word) (s : State) : Host.Outcome State Fault Refusal :=
  answer (s.gated src pgALLOC 0x024 v (fun t => t.doPcmd v))

/-- PCMD_TMO (R246): once for each command that grows too old. -/
def execPcmdTmo (s : State) : Host.Outcome State Fault Refusal :=
  happen (
    if s.pcmdLate ∧ s.alloc.tmoDone = false then
      (({ s with alloc := { s.alloc with tmoDone := true } } : State).putB F.ALLOC_STAT_TMO true |>.raise pgALLOC 3).logReg
        pgALLOC 0x02C
    else s)

/-- A write of ALLOC.CTRL (Table 13.1). -/
def State.doAllocCtrl (s : State) (v : Word) : Res :=
  if bitsOf v 5 4 = 3 ∨ bitsOf v 1 0 = 3 then refuse .range s else (.ok, s.setReg R.ALLOC_CTRL (v &&& 0x00FF0733))

end Sys2Proof.Machine
end

