-- ==== Sys2Proof/Machine/Therm.lean ====
section
/-! DEFINITION. Thermal management (R275 to R283). -/

namespace Sys2Proof.Machine
open Sys2Proof

/-! ## Module temperature (R275 to R278), in 0.1 °C -/

/-- A sample of a sensor fails. -/
def dieBad (o : Option Int) : Bool := match o with | some t => decide (t < -400) || decide (1500 < t) | none => true

/-- The throttle's flags on every channel; a running impedance block is void (R277). -/
def State.throttle (s : State) (on : Bool) : State :=
  s.eachCh (fun t n =>
    let t := (t.putB (F.EST_STAT_THROTTLED n) on).putB (F.IMP_STAT_THROTTLED n) on
    if on then t.voidBy n 2 else t)

/-- Throttle is in force. -/
def ThermS.throttled (th : ThermS) : Bool := th.level.getD 1 false || th.stuck

/-- Whether a level of Table 15.1 is in force: WARN, THROTTLE (R275 can hold it), SHUTDOWN. -/
def ThermS.inForce (th : ThermS) (k : Nat) : Bool := if k = 1 then th.throttled else th.level.getD k false

/-- The level that THERM.STAT shows. -/
def ThermS.shown (th : ThermS) : Nat :=
  if th.level.getD 2 false then 3 else if th.throttled then 2 else if th.level.getD 0 false then 1 else 0

/-- The sensors' runs, DIEk, and the sensors that fail with this sample. -/
def State.dieSensor (s : State) (k : Nat) (o : Option Int) : State :=
  if s.getBit F.THERM_STAT_FAILED k then s
  else
    let run := if dieBad o then nth s.therm.failRun k + 1 else 0
    let s := { s with therm := { s.therm with failRun := setAt 0 s.therm.failRun k run } }
    let s := match o with | some t => s.put (F.THERM_DIE_TEMP k) (int16 t) | none => s
    if run < 3 then s
    else
      let s := (s.putBit F.THERM_STAT_FAILED k true).put (F.THERM_DIE_TEMP k) 0x8000
      ((s.raise pgTHERM 3).logReg pgTHERM 0x024).limp

/-- TMOD and the sensor that gives it: the highest reading of the sensors that have not failed. -/
def State.tmodOf (s : State) (t : List (Option Int)) : Option (Int × Nat) :=
  (List.range 9).foldl (fun (a : Option (Int × Nat)) k =>
    if s.getBit F.THERM_STAT_FAILED k then a
    else match t.getD k none, a with
      | none, _ => a
      | some x, none => some (x, k)
      | some x, some y => if y.1 < x then some (x, k) else a) none

/-- Thresholds and release values of the levels (Table 15.1). -/
def levelUp : List Int := [850, 950, 1050]
def levelDown : List Int := [800, 900]

/-- One level judged on a sample: its counts, and whether it is in force. -/
def ThermS.judge (th : ThermS) (x : Int) (k : Nat) : ThermS :=
  let up := if levelUp.getD k 0 ≤ x then nth th.up k + 1 else 0
  let down := if k < 2 ∧ x ≤ levelDown.getD k 0 then nth th.down k + 1 else 0
  let on := th.level.getD k false
  let on' := if !on && decide (3 ≤ up) then true else if on && decide (3 ≤ down) then false else on
  { th with up := setAt 0 th.up k up, down := setAt 0 th.down k down, level := setAt false th.level k on' }

/-- A confirmed SHUTDOWN (R278, R51): an event in DECAF, the latch during hold-up, else HALT. -/
def State.shutdown (s : State) : State :=
  if s.mode = mDECAF then s
  else if s.sup.holdupAt.isSome then { s with sup := { s.sup with haltLatch := true, haltCause := 1 } }
  else s.enterHalt 1

/-- How many sensors have failed. -/
def State.dieFailed (s : State) : Nat := ((List.range 9).filter (fun k => s.getBit F.THERM_STAT_FAILED k)).length

/-- The levels after a sample, with the lasting throttle of R275. -/
def State.thermNext (s : State) (x : Option (Int × Nat)) : ThermS :=
  let th := match x with
    | some x => (([0, 1, 2] : List Nat).foldl (fun (a : ThermS) k => a.judge x.1 k) s.therm)
    | none => s.therm
  { th with stuck := th.stuck || s.getBit F.THERM_STAT_FAILED 8 || decide (3 ≤ s.dieFailed) }

/-- TMOD and its sensor. -/
def State.tmodShow (s : State) (x : Option (Int × Nat)) : State :=
  match x with
  | some x => (s.put F.THERM_STAT_TMOD (BitVec.ofInt 8 (x.1.fdiv 10)).toNat).put F.THERM_STAT_SRC x.2
  | none => s

/-- The levels entered or left: a source and an event for each (R276). -/
def State.levelEvents (s : State) (old th : ThermS) : State :=
  ([0, 1, 2] : List Nat).foldl (fun t k =>
    if th.inForce k = old.inForce k then t else (t.raise pgTHERM 2).logReg pgTHERM 0x024) s

/-- The change of the levels: THERM.STAT.LEVEL, its sources and events, throttle, shutdown. -/
def State.levelChange (s : State) (old th : ThermS) : State :=
  let s := { s with therm := th }
  let s := s.put F.THERM_STAT_LEVEL th.shown
  let s := s.levelEvents old th
  let s := if th.throttled = old.throttled then s else s.throttle th.throttled
  if th.level.getD 2 false && !(old.level.getD 2 false) then s.shutdown else s

/-- DIE_SAMPLE (R275 to R278): nine readings. -/
def State.dieSample (s : State) (t : List (Option Int)) : State :=
  let s1 := (List.range 9).foldl (fun u k => u.dieSensor k (t.getD k none)) s
  let x := s1.tmodOf t
  (s1.tmodShow x).levelChange s1.therm (s1.thermNext x)

/-- The sensors are sampled in the epochs that are multiples of 10 (R275). -/
def execDieSample (t : List (Option Int)) (s : State) : Host.Outcome State Fault Refusal :=
  happen (if s.ep % 10 = 0 then s.dieSample t else s)

/-- The die temperature of a block, °C, while its sensor has not failed. -/
def State.dieNow (s : State) (k : Nat) : Option Rat :=
  let w := s.get (F.THERM_DIE_TEMP k)
  if s.getBit F.THERM_STAT_FAILED k ∨ w = 0x8000 then none else some ((signed 16 w : Rat) / 10)

/-- A correction moves by at most 0.05 ppm. -/
def compTo (now target : Rat) : Rat := maxR (now - 1 / 20) (minR (now + 1 / 20) target)

/-- COMPENSATION_STEP (R279), every 100 ms: the frequency of the time base moves towards what the host block's die
temperature asks, and each channel's references take what theirs asks; a block whose sensor has failed keeps its last
correction. -/
def execCompensationStep (s : State) : Host.Outcome State Fault Refusal :=
  happen (
    if s.passedMs s.clock.compAt 100 then
      { s with clock := { s.clock with
          comp := match s.dieNow 8 with | some t => compTo s.clock.comp (Config.oscComp t) | none => s.clock.comp
          refComp := (List.range 8).map (fun k =>
            match s.dieNow k with | some t => Config.refComp k t | none => s.clock.refComp.getD k 0)
          compAt := s.tb } }
    else s)

/-! ## Cell temperature limits (R280 to R282) -/

/-- A byte of four axis or map words. -/
def byteOf (l : List Word) (i : Nat) : Nat := bitsOf (l.getD (i / 4) 0) (8 * (i % 4) + 7) (8 * (i % 4))

/-- The axes as numbers: TAX in °C, SAX as a fraction of 100. -/
def taxOf (l : List Word) (i : Nat) : Rat := (signed 8 (byteOf l i) : Rat)
def saxOf (l : List Word) (i : Nat) : Rat := (byteOf l (8 + i) : Rat)

/-- The axes rise strictly. -/
def axesOk (l : List Word) : Bool :=
  (List.range 7).all (fun i => decide (taxOf l i < taxOf l (i + 1)) && decide (saxOf l i < saxOf l (i + 1)))

/-- A cell's percentage from a map (R281). -/
def mapPct (axes mp : List Word) (t soc : Option Rat) : Rat :=
  let e (i j : Nat) : Rat := (byteOf mp (8 * i + j) : Rat)
  let low (l : List Rat) : Rat := l.foldl minR (l.headD 0)
  match t with
  | none => low ((List.range 64).map (fun k => (byteOf mp k : Rat)))
  | some t =>
    let a := knot (taxOf axes) 7 t
    let row (j : Nat) : Rat := e a.1 j + a.2 * (e (a.1 + 1) j - e a.1 j)
    match soc with
    | none => low ((List.range 8).map row)
    | some x =>
      let b := knot (saxOf axes) 7 (x * 100)
      row b.1 + b.2 * (row (b.1 + 1) - row b.1)

/-- Temperature and SoC of the cells of a channel that are not ABSENT. -/
def State.thermCells (s : State) (n : Ch) : List (Option Rat × Option Rat) :=
  let b := (s.ch n).pour.deliv
  ((List.range b.cellQ.length).filter (fun i => b.cellQ.getD i 4 != 4)).map (fun i =>
    let c := s.estCell n i
    ((b.cellTemp i).or c.temp, if c.init then some c.socPub else none))

/-- The limit of a channel from a map, A. -/
def State.mapLimit (s : State) (n : Ch) (axes mp : List Word) : Nat :=
  let p := (s.thermCells n).foldl (fun a c => minR a (mapPct axes mp c.1 c.2)) 100
  (s.irated n * p / 100).floor.toNat

/-- The inhibit of R282 for a channel. -/
def State.inhibitOf (s : State) (n : Ch) : Bool :=
  let was := s.therm.inhibit.getD n.val false
  let lo : Rat := if was then 2 else 0
  let hi : Rat := if was then 43 else 45
  (s.thermCells n).any (fun c => match c.1 with | none => true | some t => decide (t < lo) || decide (hi < t))

/-- A channel's evaluation is due: its newest delivered epoch has E mod 10 = 9 (R280). -/
def State.thermDue (s : State) (n : Ch) : Bool :=
  (s.ch n).pour.deliv.valid && (s.ch n).pour.deliv.epoch % 10 == 9

/-- The limits of one channel. -/
def State.thermLimit (s : State) (axes : List Word) (n : Ch) : State :=
  if !s.thermDue n then s
  else
    let compat := s.flag F.THERM_CTRL_COMPAT
    let inh := compat && s.inhibitOf n
    let words (f : Nat → Nat) : List Word := (List.range 16).map (fun k => s.reg (f k))
    let chg := if compat then (if inh then 0 else s.get (F.CTLE_STAGE_IRATED n)) else s.mapLimit n axes (words R.THERM_CMAP)
    let dis := if compat then s.get (F.CTLE_STAGE_IRATED n) else s.mapLimit n axes (words R.THERM_DMAP)
    let s1 := (s.put (F.THERM_LIM_CHG n.val) chg).put (F.THERM_LIM_DIS n.val) dis
    let s1 := { s1 with therm := { s1.therm with inhibit := setAt false s1.therm.inhibit n.val inh } }
    if s1.getBit F.THERM_STAT_INHIBIT n.val = inh then s1 else (s1.putBit F.THERM_STAT_INHIBIT n.val inh).raise pgTHERM 5

/-- The axes of an evaluation (R281): those that rise are taken, else the last good ones stay, marked in native mode. -/
def State.takeAxes (s : State) : State :=
  let ax := [0, 1, 2, 3].map (fun k => s.reg (R.THERM_AX k))
  if axesOk ax then { s with therm := { s.therm with axes := ax } }
  else if s.flag F.THERM_CTRL_COMPAT then s
  else s.setRaise F.THERM_STAT_CFG_ERR pgTHERM 4

/-- THERM_LIMIT_EVAL (R280 to R282), for the channels that are due. -/
def execThermLimitEval (s : State) : Host.Outcome State Fault Refusal :=
  happen (
    if allCh.all (fun n => !s.thermDue n) then s
    else
      let u := s.takeAxes
      u.eachCh (fun t n => t.thermLimit u.therm.axes n))

end Sys2Proof.Machine
end

