-- ==== Sys2Proof/Machine/Ptp.lean ====
section
/-! DEFINITION. Plant time (R304 to R311): discipline, lock, holdover, slew and step, the best master clock algorithm
and forwarding. -/

namespace Sys2Proof.Machine
open Sys2Proof

/-- Change the clock. -/
def State.modClock (s : State) (f : ClockS → ClockS) : State := { s with clock := f s.clock }

/-- Plant time moved by `d` ns; PTP counts its seconds modulo 2^48. -/
def ClockS.shift (c : ClockS) (d : Int) : Nat := (((c.plant : Int) + d) % (2 ^ 48 * 1000000000)).toNat

/-! ## Ports -/

/-- IEEE 1588 portState codes. -/
abbrev psINITIALIZING : Nat := 1
abbrev psDISABLED : Nat := 3
abbrev psLISTENING : Nat := 4
abbrev psMASTER : Nat := 6
abbrev psPASSIVE : Nat := 7
abbrev psUNCALIBRATED : Nat := 8
abbrev psSLAVE : Nat := 9

/-- The state field and the enable of a port (false A). -/
def ptpState (portB : Bool) : RF := if portB then F.PTP_STAT_STATE_B else F.PTP_STAT_STATE_A
def State.ptpOn (s : State) (portB : Bool) : Bool := s.flag (if portB then F.PTP_CTRL_EN_B else F.PTP_CTRL_EN_A)

/-- The path delay of a port. -/
def ClockS.path (c : ClockS) (portB : Bool) : Option Int := if portB then c.pathB else c.pathA

/-! ## Lock and holdover (R309) -/

/-- The lock is lost: holdover starts. -/
def State.ptpLose (s : State) : State :=
  if !s.locked then s
  else
    let s := (s.putB F.PTP_STAT_LOCKED false).putB F.PTP_STAT_HOLDOVER true
    let s := s.modClock (fun c => { c with lossAt := some s.tb, good := 0, bad := 0, firstOff := none, acted := false })
    (s.incSat F.PTP_CNT_LOSSES).raise pgPTP 3

/-- Lock is declared when its conditions hold, never before a slew or a step has ended (R309, R310). -/
def State.ptpLock (s : State) (portB : Bool) : State :=
  let c := s.clock
  if s.locked ∨ c.good < 8 ∨ (c.path portB).isNone ∨ c.stepBy.isSome ∨ c.slewBy.isSome then s
  else
    let s := ((s.putB F.PTP_STAT_LOCKED true).putB F.PTP_STAT_HOLDOVER false).putB F.PTP_STAT_EVER_LOCKED true
    let s := s.putB F.SEC_STAT_TIME_UNCHECKED false
    (s.modClock (fun c => { c with lossAt := none })).raise pgPTP 2

/-- The action on the offset of the first two used Syncs that agree (R310): a slew, or a step. -/
def State.ptpAct (s : State) (o : Int) : State :=
  let s := s.modClock (fun c => { c with acted := true })
  if o = 0 then s
  else if o.natAbs ≤ 100000 then
    (s.modClock (fun c => { c with slewBy := some (-o), slewAt := s.tb })).putB F.PTP_STAT_SLEWING true
  else s.modClock (fun c => { c with stepBy := some (-o) })

/-- SIDE 1 of a pair whose link is up follows SIDE 0: its PTP clock reports and does not steer (R334). -/
def State.ptpFollows (s : State) : Bool := s.twinConf && s.twin.side == 1 && s.flag F.TWIN_STAT_LINK

/-- The pair that R310 waits for: two used Syncs in a row from one master that agree within 1 µs. -/
def State.ptpPair (s : State) (m : SyncMsg) : State :=
  if s.locked ∨ s.clock.acted ∨ s.ptpFollows then s
  else
    let t := s.modClock (fun c => { c with firstOff := some (m.master, m.offset) })
    match s.clock.firstOff with
    | some (k, o) => if k = m.master ∧ (m.offset - o).natAbs ≤ 1000 then t.ptpAct m.offset else t
    | none => t

/-- A Sync that is used for discipline. -/
def State.ptpUse (s : State) (m : SyncMsg) : State :=
  let o := m.offset
  let s := s.putI F.PTP_OFFSET_NS (clampI (-2147483647) 2147483647 o)
  let s := s.put (ptpState m.portB) psSLAVE
  let s := s.modClock (fun c => { c with
    lastSync := s.tb, syncLog := m.logInt
    good := if o.natAbs ≤ 250 ∧ m.pathOk then c.good + 1 else 0
    bad := if 1000 < o.natAbs then c.bad + 1 else 0 })
  let s := s.ptpPair m
  if 2 ≤ s.clock.bad ∧ s.locked then s.ptpLose else s.ptpLock m.portB

/-- PTP_SYNC (R306, R309, R310): a Sync on an enabled port that is neither MASTER nor PASSIVE; one whose interval lies
outside 1/16 s to 2 s is not used, and the supervisor restart pauses discipline (R308). -/
def execPtpSync (m : SyncMsg) (s : State) : Host.Outcome State Fault Refusal :=
  let st := s.get (ptpState m.portB)
  happen (
    if !s.ptpOn m.portB ∨ st = psMASTER ∨ st = psPASSIVE ∨ s.sup.restarting then s
    else if m.logInt < -4 ∨ 1 < m.logInt then (if st = psSLAVE then s else s.put (ptpState m.portB) psUNCALIBRATED)
    else s.ptpUse m)

/-- Three Sync intervals, ns. -/
def ClockS.syncLimit (c : ClockS) : Nat := (3000000000 * pow2 c.syncLog).floor.toNat

/-- PTP_SYNC_TIMEOUT (R309). -/
def execPtpSyncTimeout (s : State) : Host.Outcome State Fault Refusal :=
  happen (if s.locked ∧ s.clock.syncLimit ≤ s.tb - s.clock.lastSync then s.ptpLose else s)

/-- SLEW_END (R310): the slew of at most 100 ppm has had its time. -/
def execSlewEnd (s : State) : Host.Outcome State Fault Refusal :=
  happen (
    match s.clock.slewBy with
    | none => s
    | some d =>
      if s.tb - s.clock.slewAt < d.natAbs * 10000 then s
      else
        let s := s.modClock (fun c => { c with plant := c.shift d, slewBy := none })
        (s.putB F.PTP_STAT_SLEWING false).ptpLock (s.get F.PTP_STAT_STATE_B == psSLAVE))

/-- The event of a jump (R14, Table 19.2). -/
def State.epochJump (s : State) (before after : Nat) : State :=
  s.log 0x0143 0xF 2 (BitVec.ofNat 32 before) (BitVec.ofNat 32 after)
    (BitVec.ofNat 32 (before / 2 ^ 32 % 65536 * 65536 + after / 2 ^ 32 % 65536))

/-- The epoch of the next sample instant at a plant time. -/
def nextSample (plant : Nat) : Nat := (if plant % 1000000 ≤ 100000 then plant / 1000000 else plant / 1000000 + 1) % 2 ^ 48

/-- STEP (R310, R14): from +500 µs of an epoch the clock steps; the first epoch after the jump is that of the next
sample instant. -/
def execStep (s : State) : Host.Outcome State Fault Refusal :=
  happen (
    match s.clock.stepBy with
    | none => s
    | some d =>
      if s.inEpoch < 500000 then s
      else
        let before := s.ep
        let s := s.modClock (fun c => { c with plant := c.shift d, stepBy := none })
        ((s.incSat F.PTP_CNT_STEPS).raise pgPTP 4).epochJump before (nextSample s.clock.plant))

/-- PTP_PATH_DELAY (R309). -/
def execPtpPathDelay (portB : Bool) (ns : Int) (s : State) : Host.Outcome State Fault Refusal :=
  happen (
    if !s.ptpOn portB then s
    else (s.modClock (fun c => if portB then { c with pathB := some ns } else { c with pathA := some ns })).ptpLock portB)

/-! ## Best master (R307) -/

/-- The data set comparison of IEEE 1588 as far as an Announce states it: smaller is better, in this order. -/
def AnnounceMsg.key (m : AnnounceMsg) : List Nat :=
  [m.prio1, m.clockClass, m.accuracy, m.variance, m.prio2, m.identity]

/-- Lexicographic order of keys of one length. -/
def keyLt : List Nat → List Nat → Bool
  | a :: s, b :: t => decide (a < b) || (a == b && keyLt s t)
  | _, _ => false

/-- The better of two data sets. -/
def better (a b : Option AnnounceMsg) : Option AnnounceMsg :=
  match a, b with
  | none, _ => b
  | _, none => a
  | some x, some y => if keyLt (AnnounceMsg.key y) (AnnounceMsg.key x) then b else a

/-- The module's own data set (R307): class 248; accuracy, variance and identity as IEEE 1588 has them for a clock that
states none (PRESUMED, log entry 25). -/
def State.ownKey (s : State) : List Nat := [s.get F.PTP_CTRL_PRIO1, 248, 0xFE, 0xFFFF, s.get F.PTP_CTRL_PRIO2, 2 ^ 64]

/-- The state that the algorithm decides for a port, from the port's own best and the better of both. -/
def State.ptpPortState (s : State) (portB : Bool) (own best : Option AnnounceMsg) : Nat :=
  let cur := s.get (ptpState portB)
  if !s.ptpOn portB then psDISABLED
  else
    let win := s.get F.PTP_CTRL_ROLE = 1 ∧ (match best with | none => true | some b => keyLt s.ownKey (AnnounceMsg.key b)) = true
    if win then psMASTER
    else match best with
      | none => psLISTENING
      | some b =>
        if own = some b then (if cur = psSLAVE ∨ cur = psUNCALIBRATED then cur else psUNCALIBRATED)
        else if s.get F.PTP_CTRL_ROLE = 1 then psPASSIVE else psLISTENING

/-- The decision for both ports. -/
def State.ptpDecide (s : State) : State :=
  let c := s.clock
  let best := better c.bestA c.bestB
  (s.put F.PTP_STAT_STATE_A (s.ptpPortState false c.bestA best)).put F.PTP_STAT_STATE_B (s.ptpPortState true c.bestB best)

/-- A port's best master after an Announce: the newer data of the same master, or the better one. -/
def bestNext (old : Option AnnounceMsg) (m : AnnounceMsg) : Option AnnounceMsg :=
  match old with
  | none => some m
  | some o => if o.identity = m.identity then some m else better (some o) (some m)

/-- PTP_ANNOUNCE (R307): of the configured domain, on an enabled port. -/
def execPtpAnnounce (m : AnnounceMsg) (s : State) : Host.Outcome State Fault Refusal :=
  happen (
    if !s.ptpOn m.portB ∨ m.domain ≠ s.get F.PTP_CTRL_DOMAIN then s
    else
      let s := s.modClock (fun c =>
        if m.portB then { c with bestB := bestNext c.bestB m } else { c with bestA := bestNext c.bestA m })
      s.ptpDecide)

/-- PTP_MASTER_SYNC (R306, R307): a two-step Sync and its Follow_Up on every port in MASTER. -/
def execPtpMasterSync (s : State) : Host.Outcome State Fault Refusal :=
  happen (
    if s.get F.PTP_CTRL_ROLE ≠ 1 then s
    else
      let s := s.ptpDecide
      [false, true].foldl (fun t b =>
        if t.get (ptpState b) = psMASTER then (t.emit (.ptpSync b false)).emit (.ptpSync b true) else t) s)

/-- PTP_FORWARD (R308): the correctionField takes the residence time and the ingress link delay. -/
def execPtpForward (m : FwdMsg) (s : State) : Host.Outcome State Fault Refusal :=
  happen (
    if s.flag F.PTP_CTRL_TC ∧ s.ptpOn false ∧ s.ptpOn true then
      s.emit (.ptpForward m.fromB (m.correction + m.residence + m.linkDelay))
    else s)

/-! ## Control (Table 17.3) -/

/-- Both port state machines restart; a locked clock counts a loss. -/
def State.ptpRestart (s : State) : State :=
  let s := s.ptpLose
  let s := s.modClock (fun c => { c with
    bestA := none, bestB := none, pathA := none, pathB := none, good := 0, bad := 0, firstOff := none, acted := false })
  (s.put F.PTP_STAT_STATE_A (if s.ptpOn false then psINITIALIZING else psDISABLED)).put F.PTP_STAT_STATE_B
    (if s.ptpOn true then psINITIALIZING else psDISABLED)

/-- A write of PTP.CTRL. -/
def State.doPtpCtrl (s : State) (v : Word) : Res :=
  if 127 < bitsOf v 31 24 ∨ 1 < bitsOf v 7 6 ∨ 1 < bitsOf v 5 4 ∨ (bit v 3 ∧ bitsOf v 7 6 ≠ 1) then refuse .range s
  else (.ok, (s.setReg R.PTP_CTRL (v &&& 0xFFFFFFFE)).ptpRestart)

def execPtpCtrlWrite (src : Src) (v : Word) (s : State) : Host.Outcome State Fault Refusal :=
  answer (s.gated src pgPTP 0x020 v (fun t => t.doPtpCtrl v))

/-- PTP.TIME_S, TIME_SHI, TIME_NS (R305), and HOLD_AGE: seconds since the loss. -/
def State.timeS (s : State) : Word := BitVec.ofNat 32 (s.clock.plant / 1000000000)
def State.timeShi (s : State) : Word := BitVec.ofNat 32 (s.clock.plant / 1000000000 / 2 ^ 32 % 65536)
def State.timeNs (s : State) : Word := BitVec.ofNat 32 (s.clock.plant % 1000000000)
def State.holdAge (s : State) : Nat :=
  match s.clock.lossAt with
  | some t => min 65535 ((s.tb - t) / 1000000000)
  | none => 0

end Sys2Proof.Machine
end

