-- ==== Sys2Proof/Machine/Can.lean ====
section
/-! DEFINITION. The CAN FD port (R312 to R322). -/

namespace Sys2Proof.Machine
open Sys2Proof

def State.modCan (s : State) (f : CanS → CanS) : State := { s with can := f s.can }

/-! ## Frames and buffers (Table 17.10) -/

/-- Length in bytes of a DLC (ISO 11898-1). -/
def canLen (fdf : Bool) (dlc : Nat) : Nat :=
  if dlc ≤ 8 then dlc else if !fdf then 8
  else match dlc with | 9 => 12 | 10 => 16 | 11 => 20 | 12 => 24 | 13 => 32 | 14 => 48 | _ => 64

/-- Word w of buffer k as stored. -/
def txbAddr (k w : Nat) : Nat := if k = 0 then R.CAN_TXB0 w else if k = 1 then R.CAN_TXB1 w else R.CAN_TXB2 w
def State.txb (s : State) (k w : Nat) : Word := s.reg (txbAddr k w)

/-- Length of the frame in buffer k: a remote frame carries no data. -/
def State.txbLen (s : State) (k : Nat) : Nat := canLen (bit (s.txb k 0) 29) (bitsOf (s.txb k 1) 15 12)

/-- Data bytes of a list presented as word w (4 to 19); bytes beyond the length read 0. -/
def dataWord (l : List Byte) (len w : Nat) : Word :=
  bytesWord ((List.range 4).map (fun j => let i := 4 * (w - 4) + j; if i < len then l.getD i 0 else 0))

/-- Word w of buffer k as it reads. -/
def State.readTxb (s : State) (k w : Nat) : Word :=
  if w = 1 then putBits (s.txb k 1) 31 16 (s.txbLen k)
  else if 4 ≤ w then
    bytesWord ((List.range 4).map (fun j => if 4 * (w - 4) + j < s.txbLen k then (wordBytes (s.txb k w)).getD j 0 else 0))
  else s.txb k w

/-- The frame in buffer k. -/
def State.txFrame (s : State) (k : Nat) : CanFrame :=
  let w0 := s.txb k 0
  let w1 := s.txb k 1
  let len := if bit w1 9 then 0 else s.txbLen k
  { ide := bit w0 30, fdf := bit w0 29, brs := bit w1 11, esi := false, rtr := bit w1 9
    id := if bit w0 30 then bitsOf w0 28 0 else bitsOf w0 10 0, dlc := bitsOf w1 15 12
    data := ((List.range 16).flatMap (fun w => wordBytes (s.txb k (4 + w)))).take len }

/-- The content makes the REQ fail (R315). -/
def State.txBad (s : State) (k : Nat) : Bool :=
  let f := s.txFrame k
  (decide (8 < f.dlc) && !f.fdf) || (f.rtr && f.fdf) || (f.brs && !f.fdf)

/-- State of buffer k (Table 17.15): 0 IDLE, 1 PENDING, 2 ACTIVE, 3 SENT, 4 CANCELLED. -/
def State.txState (s : State) (k : Nat) : Nat := bitsOf (s.reg R.CAN_TXSTAT) (4 * k + 3) (4 * k)
def State.setTx (s : State) (k v : Nat) : State :=
  let s1 := s.setReg R.CAN_TXSTAT (putBits (s.reg R.CAN_TXSTAT) (4 * k + 3) (4 * k) v)
  if v = 3 ∨ v = 4 then s1.raise pgCAN 3 else s1

/-- TXB2 is reserved for the status frame (R321). -/
def State.txReserved (s : State) (k : Nat) : Bool := k == 2 && s.flag F.CAN_CTRL_STATUS_EN

/-- A host write of word w of buffer k (R315); the stamp and what Table 17.10 calls read only or receive only stay. -/
def State.doTxb (s : State) (k w : Nat) (v : Word) : Res :=
  if s.txState k = 1 ∨ s.txState k = 2 ∨ s.txReserved k then refuse .state s
  else
    let m : Word := if w = 0 then 0x7FFFFFFF else if w = 1 then 0x0000FA00 else if w < 4 then 0 else 0xFFFFFFFF
    (.ok, s.setReg (txbAddr k w) ((s.txb k w &&& ~~~m) ||| (v &&& m)))

/-! ## Requests and cancels (R315, R317) -/

/-- The buffers of a mask. -/
def bufs (m : Nat) : List Nat := [0, 1, 2].filter (fun k => m.testBit k)

/-- A write of CAN.TXCMD (Table 17.14). -/
def State.doTxcmd (s : State) (v : Word) : Res :=
  let req := bufs (bitsOf v 2 0)
  let can := bufs (bitsOf v 6 4)
  if req.any can.contains then refuse .range s
  else if (req ++ can).any s.txReserved then refuse .state s
  else if req.any s.txBad then refuse .range s
  else
    let s := req.foldl (fun t k => if t.txState k = 2 then t else t.setTx k 1) s
    (.ok, can.foldl (fun t k =>
      if t.txState k = 1 then t.setTx k 4
      else if t.txState k = 2 then t.putBit F.CAN_TXSTAT_CFAIL k true else t) s)

def execCanTxReq (src : Src) (mask : BitVec 3) (s : State) : Host.Outcome State Fault Refusal :=
  let v := BitVec.ofNat 32 mask.toNat
  answer (s.gated src pgCAN 0x030 v (fun t => t.doTxcmd v))
def execCanTxCancel (src : Src) (mask : BitVec 3) (s : State) : Host.Outcome State Fault Refusal :=
  let v := BitVec.ofNat 32 (mask.toNat * 16)
  answer (s.gated src pgCAN 0x030 v (fun t => t.doTxcmd v))

/-! ## Transmission (R316, R318) -/

/-- The controller takes part in the bus. -/
def State.canLive (s : State) : Bool := s.enabled pgCAN && s.can.onBus && decide (s.get F.CAN_ERR_STATE < 2)

/-- Place of buffer k in the bus's identifier order: base identifier, format, extension (R316). -/
def State.idKey (s : State) (k : Nat) : List Nat :=
  let f := s.txFrame k
  if f.ide then [f.id / 2 ^ 18, 1, f.id % 2 ^ 18] else [f.id, 0, 0]

/-- The next buffer to enter arbitration. -/
def State.nextTx (s : State) : Option Nat :=
  let l := [0, 1, 2].filter (fun k => s.txState k == 1)
  if s.flag F.CAN_CTRL_TXPRIO then l.head?
  else l.foldl (fun (a : Option Nat) k => match a with
    | none => some k
    | some j => if keyLt (s.idKey k) (s.idKey j) then some k else some j) none

/-- The stamp of a frame (R313), at its start-of-frame bit. -/
def State.stamp (s : State) (k : Nat) : State :=
  (s.setReg (txbAddr k 2) s.timeS).setReg (txbAddr k 3) s.timeNs

/-- CAN_TX_ARBITRATION (R316). -/
def execCanTxArbitration (s : State) : Host.Outcome State Fault Refusal :=
  happen (
    if !s.canLive ∨ s.flag F.CAN_CTRL_LISTEN ∨ s.can.active.isSome ∨ 255 < s.get F.CAN_ERR_TEC then s
    else match s.nextTx with
      | none => s
      | some k => (((s.setTx k 2).stamp k).modCan (fun c => { c with active := some k })))

/-- CAN.ERR.STATE takes a value; a change is a source. -/
def State.errState (s : State) (v : Nat) : State :=
  if s.get F.CAN_ERR_STATE = v then s else (s.put F.CAN_ERR_STATE v).raise pgCAN 5

/-- Error-active or error-passive, from the counters (ISO 11898-1, R318). -/
def State.errJudge (s : State) : State :=
  if 2 ≤ s.get F.CAN_ERR_STATE then s
  else s.errState (if 128 ≤ s.get F.CAN_ERR_TEC ∨ 128 ≤ s.get F.CAN_ERR_REC then 1 else 0)

/-- The content of the status frame but for its counter (R321): bytes 0 to 6. -/
def State.statusBytes (s : State) : List Nat :=
  let mask (st : Nat) : Nat := allCh.foldl (fun a n => if s.chState n = st then a + 2 ^ n.val else a) 0
  let id := s.get F.SYS_PLANT_ID_ID
  [s.mode, b2n (s.flag F.SYS_STAT_REPLACE_REQUEST) * 128 + b2n (s.flag F.PTP_STAT_HOLDOVER) * 64, id / 256, id % 256,
    mask stTRIPPED, mask stDERATED, mask stLOCKOUT]

/-- Bytes whose change queues a frame: 0, 1 and 4 to 6. -/
def statusKey (l : List Nat) : List Nat := l.take 2 ++ (l.drop 4)

/-- The status frame goes into TXB2; content that arrives while TXB2 is PENDING replaces the content, and the counter
rises with each frame. -/
def State.statusQueue (s : State) : State :=
  let fresh := s.txState 2 != 1
  let ctr := if fresh then (s.can.ctr + 1) % 256 else s.can.ctr
  let b := s.statusBytes ++ [ctr]
  let w (k : Nat) : Word := bytesWord ((List.range 4).map (fun j => BitVec.ofNat 8 (nth b (4 * k + j))))
  let s := s.modCan (fun c => { c with last := s.statusBytes, lastAt := s.tb, ctr := ctr, nextStatus := false })
  let s := (s.setReg (txbAddr 2 0) (BitVec.ofNat 32 (s.get F.CAN_CTRL_STATUS_ID))).setReg (txbAddr 2 1) 0x00008000
  ((s.setReg (txbAddr 2 4) (w 0)).setReg (txbAddr 2 5) (w 1)).setTx 2 1

/-- CAN_STATUS_FRAME (R321): the content has changed, or 1,000 ms have passed; while TXB2 is in arbitration or being
transmitted the new content is sent next. -/
def execCanStatusFrame (s : State) : Host.Outcome State Fault Refusal :=
  happen (
    if !s.flag F.CAN_CTRL_STATUS_EN then s
    else if statusKey s.statusBytes = statusKey s.can.last ∧ !s.passedMs s.can.lastAt 1000 then s
    else if s.txState 2 = 2 then s.modCan (fun c => { c with nextStatus := true })
    else s.statusQueue)

/-- CAN_TX_COMPLETE (R315, R313). -/
def execCanTxComplete (s : State) : Host.Outcome State Fault Refusal :=
  happen (
    match s.can.active with
    | none => s
    | some k =>
      let s := ((s.emit (.can (s.txFrame k))).setTx k 3).modCan (fun c => { c with active := none })
      let s := (s.put F.CAN_ERR_TEC (s.get F.CAN_ERR_TEC - 1)).errJudge
      if k = 2 ∧ s.can.nextStatus ∧ s.flag F.CAN_CTRL_STATUS_EN then s.statusQueue else s)

/-- CAN_TX_ERROR (R315, R317, R318): the frame is PENDING again; an error adds 8 to the transmit counter. -/
def execCanTxError (e : CanTxErr) (s : State) : Host.Outcome State Fault Refusal :=
  happen (
    match s.can.active with
    | none => s
    | some k =>
      let s := (s.setTx k 1).modCan (fun c => { c with active := none })
      match e with
      | .lostArbitration => s
      | .error => (s.put F.CAN_ERR_TEC (min 511 (s.get F.CAN_ERR_TEC + 8))).errJudge)

/-- CAN_BUS_OFF (R318): the transmit counter has passed 255; with ABO recovery starts at once. -/
def execCanBusOff (s : State) : Host.Outcome State Fault Refusal :=
  happen (
    if 2 ≤ s.get F.CAN_ERR_STATE ∨ s.get F.CAN_ERR_TEC ≤ 255 then s
    else s.errState (if s.flag F.CAN_CTRL_ABO then 3 else 2))

/-- A write of CAN.CMD (Table 17.12). -/
def State.doCanCmd (s : State) (v : Word) : Res :=
  (.ok, if bit v 0 ∧ s.get F.CAN_ERR_STATE = 2 then s.errState 3 else s)

def execRecover (src : Src) (s : State) : Host.Outcome State Fault Refusal :=
  answer (s.gated src pgCAN 0x024 1 (fun t => t.doCanCmd 1))

/-- CAN_RECOVERY_DONE (R318). -/
def execCanRecoveryDone (s : State) : Host.Outcome State Fault Refusal :=
  happen (if s.get F.CAN_ERR_STATE = 3 then ((s.put F.CAN_ERR_TEC 0).put F.CAN_ERR_REC 0).errState 0 else s)

/-- CAN_BUS_JOIN (R394). -/
def execCanBusJoin (s : State) : Host.Outcome State Fault Refusal :=
  happen (if s.enabled pgCAN then s.modCan (fun c => { c with onBus := true }) else s)

/-- The page's ENABLE goes to 0 (R394): the controller leaves the bus. -/
def State.canLeave (s : State) : State :=
  let s := match s.can.active with | some k => s.setTx k 1 | none => s
  s.modCan (fun c => { c with onBus := false, active := none })

/-! ## Reception (R318 to R320) -/

/-- CAN.RXSTAT.COUNT and LOCKED follow the FIFO; COUNT newly non-zero is a source. -/
def State.rxShow (s : State) : State :=
  let n := s.can.rx.length
  let was := s.get F.CAN_RXSTAT_COUNT
  let s := (s.put F.CAN_RXSTAT_COUNT n).putB F.CAN_RXSTAT_LOCKED s.can.lock.isSome
  if was = 0 ∧ n ≠ 0 then s.raise pgCAN 2 else s

/-- The receive counter after a valid frame: one less; from above 127 some value of 119 to 127 (ISO 11898-1). -/
def State.recDown (s : State) : State :=
  let r := s.get F.CAN_ERR_REC
  if r ≤ 127 then (s.put F.CAN_ERR_REC (r - 1)).errJudge
  else (s.draw.2.put F.CAN_ERR_REC (119 + s.draw.1.toNat % 9)).errJudge

/-- CAN_RX_FRAME (R313, R319). -/
def execCanRxFrame (f : CanFrame) (s : State) : Host.Outcome State Fault Refusal :=
  happen (
    if !s.canLive then s
    else
      let s := s.recDown
      if 64 ≤ s.can.rx.length then
        ((s.incSat F.CAN_RXSTAT_OVF).modCan (fun c => { c with lost := true })).raise pgCAN 4
      else (s.modCan (fun c => { c with rx := c.rx ++ [(f, s.clock.plant, c.lost)], lost := false })).rxShow)

/-- CAN_RX_ERROR (R318): one more receive error, at most 255. -/
def execCanRxError (s : State) : Host.Outcome State Fault Refusal :=
  happen (if s.canLive then (s.incSat F.CAN_ERR_REC).errJudge else s)

/-- Word w of the frame presented. -/
def rxWord (e : CanFrame × Nat × Bool) (w : Nat) : Word :=
  let f := e.1
  let len := canLen f.fdf f.dlc
  match w with
  | 0 => BitVec.ofNat 32 (2 ^ 31 + b2n f.ide * 2 ^ 30 + b2n f.fdf * 2 ^ 29 + f.id % 2 ^ 29)
  | 1 => BitVec.ofNat 32 (len * 65536 + f.dlc % 16 * 4096 + b2n f.brs * 2048 + b2n f.esi * 1024 + b2n f.rtr * 512
      + b2n e.2.2 * 256)
  | 2 => BitVec.ofNat 32 (e.2.1 / 1000000000)
  | 3 => BitVec.ofNat 32 (e.2.1 % 1000000000)
  | w => dataWord f.data (if f.rtr then 0 else len) w

/-- A read of word w of the receive window (R320). -/
def State.readRxWin (s : State) (src : Src) (w : Nat) : Status × State × Word :=
  match s.can.rx with
  | [] => (.ok, s, 0)
  | e :: t =>
    match s.can.lock with
    | some (o, _) =>
      if o ≠ src then (.owner, s, 0)
      else if w = 19 then (.ok, (s.modCan (fun c => { c with rx := t, lock := none })).rxShow, rxWord e w)
      else (.ok, s, rxWord e w)
    | none =>
      if w = 0 then (.ok, (s.modCan (fun c => { c with lock := some (src, s.tb) })).rxShow, rxWord e w)
      else (.ok, s, rxWord e w)

/-- A read of one word of the receive window as a command. -/
def State.rxRead (s : State) (src : Src) (w : Nat) : Host.Outcome State Fault Refusal :=
  match s.reachable src pgCAN with
  | .ok =>
    let r := s.readRxWin src w
    if r.1 = .ok then .next { r.2.1 with last := ⟨.ok, 1, false, 0, [r.2.2]⟩ } else answer (r.1, r.2.1)
  | st => answer (st, s)

def execCanRxLock (src : Src) (s : State) : Host.Outcome State Fault Refusal := s.rxRead src 0
def execCanRxRelease (src : Src) (s : State) : Host.Outcome State Fault Refusal := s.rxRead src 19

/-- LOCK_TMO (R320). -/
def execLockTmo (s : State) : Host.Outcome State Fault Refusal :=
  happen (
    match s.can.lock with
    | some (_, t) =>
      if s.passedMs t 100 then ((s.modCan (fun c => { c with lock := none })).rxShow).putB F.CAN_RXSTAT_LOCK_TMO true else s
    | none => s)

/-- A write of CAN.CTRL (Table 17.11, R312): rates and LISTEN change only while the page is disabled. -/
def State.doCanCtrl (s : State) (v : Word) : Res :=
  let m : Word := 0x4F
  if s.enabled pgCAN ∧ v &&& m ≠ s.reg R.CAN_CTRL &&& m then refuse .state s
  else (.ok, s.setReg R.CAN_CTRL (v &&& 0x07FF03CF))

end Sys2Proof.Machine
end

