-- ==== Sys2Proof/Machine/Safe.lean ====
section
/-! DEFINITION. The safety logic: judging an epoch, overcurrent, safety inputs, contactors, degradation, resets
(R249 to R270, R395), and Crema's findings (R271 to R273). -/

namespace Sys2Proof.Machine
open Sys2Proof

/-! ## Judging an epoch -/

/-- The cells of a suspect tap (R144). -/
def tapCells (tile tap : Nat) : Nat × Nat := (16 * (tile - 1) + tap - 1, 16 * (tile - 1) + tap)

/-- The WIRE_SUSPECT pairs of a channel (R149, R151). -/
def State.pairs (s : State) (n : Ch) : List (Nat × Nat) := (s.ch n).cdiag.susp.map (fun u => tapCells u.tile u.tap)

/-- The bounds of the pair sum, 100 µV (R151), with a margin m on each cell threshold (R270). -/
def State.pairLo (s : State) (n : Ch) (m : Nat) : Nat := 2 * (s.get (F.SAFE_CELL_UV n) + m)
def State.pairHi (s : State) (n : Ch) (m : Nat) : Int :=
  2 * ((s.get (F.SAFE_CELL_OV n) : Int) - m) - (s.get (F.CDIAG_PAIR_MARGIN n) : Int) * 10

/-- Cell i of an epoch: its voltage code and its validity code. -/
def EpochBuf.v (b : EpochBuf) (i : Nat) : Nat := b.cellV.getD i 0xFFFF
def EpochBuf.q (b : EpochBuf) (i : Nat) : Nat := b.cellQ.getD i 4

/-- Thermistor m of an epoch, 0.01 °C, and its validity. -/
def EpochBuf.t (b : EpochBuf) (m : Nat) : Int := signed 16 (b.temp.getD m 0x8000)
def EpochBuf.tq (b : EpochBuf) (m : Nat) : Nat := b.tempQ.getD m 4

/-- A pair of WIRE_SUSPECT cells with no STALE cell is ruled by its sum (R151). -/
def EpochBuf.pairSum (b : EpochBuf) (p : Nat × Nat) : Option Nat :=
  if b.q p.1 = 3 ∧ b.q p.2 = 3 then some (b.v p.1 + b.v p.2) else none

/-- The demands of path A for a cause on an epoch: the cell indices, lowest first; the pairs are those that the epoch
codes WIRE_SUSPECT (R254, R151). -/
def State.demandsOv (s : State) (n : Ch) (b : EpochBuf) : List Nat :=
  (List.range b.cellV.length).filter (fun i =>
    (b.q i == 0 && decide (s.get (F.SAFE_CELL_OV n) < b.v i))
    || b.pairs.any (fun p => (p.1 == i) && (match b.pairSum p with | some x => decide (s.pairHi n 0 < (x : Int)) | none => false)))
def State.demandsUv (s : State) (n : Ch) (b : EpochBuf) : List Nat :=
  (List.range b.cellV.length).filter (fun i =>
    (b.q i == 0 && decide (b.v i < s.get (F.SAFE_CELL_UV n)))
    || b.pairs.any (fun p => (p.1 == i) && (match b.pairSum p with | some x => decide (x < s.pairLo n 0) | none => false)))

/-- The demands of path B: comparator flags of accepted blocks, of cells neither WIRE_SUSPECT nor ABSENT (R255). -/
def demandsB (b : EpochBuf) (blocks : List TileBlock) (hi : Bool) : List Nat :=
  (List.range b.cellV.length).filter (fun i =>
    b.q i != 3 && b.q i != 4 && blocks.any (fun k => k.addr == i / 16 + 1 && bit k.cmpf (i % 16 + (if hi then 16 else 0))))

/-- The first of the lowest demands of two paths: PATH code and index. -/
def pathOf (a b : List Nat) : Option (Nat × Nat) :=
  match a.head?, b.head? with
  | none, none => none
  | some x, none => some (1, x)
  | none, some y => some (2, y)
  | some x, some y => if x < y then some (1, x) else if y < x then some (2, y) else some (3, x)

/-- A trip cause found on an epoch: cause, path, parameter. -/
abbrev Demand := Nat × Nat × Nat

/-- The cell demands of an epoch (R254, R255). -/
def State.cellDemands (s : State) (n : Ch) (b : EpochBuf) (blocks : List TileBlock) : List Demand :=
  (match pathOf (s.demandsOv n b) (demandsB b blocks true) with | some p => [(0x01, p.1, p.2)] | none => [])
  ++ (match pathOf (s.demandsUv n b) (demandsB b blocks false) with | some p => [(0x02, p.1, p.2)] | none => [])

/-- A cell STALE in 10 consecutive epochs, or a thermistor in 100: the lowest index (R17, R256). -/
def State.staleDue (s : State) (n : Ch) : Option Nat :=
  let p := (s.ch n).pour
  match (List.range p.staleCnt.length).find? (fun i => decide (10 ≤ nth p.staleCnt i)),
      (List.range p.tStale.length).find? (fun m => decide (100 ≤ nth p.tStale m)) with
  | none, none => none
  | some i, none => some i
  | none, some m => some m
  | some i, some m => some (min i m)

/-- A thermistor at or above OT in 100 consecutive MEASURED samples: the lowest index (R256). -/
def State.otDue (s : State) (n : Ch) : Option Nat :=
  let p := (s.ch n).pour
  (List.range p.otCnt.length).find? (fun m => decide (100 ≤ nth p.otCnt m))

/-- A cause that lasts from epoch to epoch: in TRIPPED it is recorded where it arises, and not again while it lasts
(R269; DEDUCED, log entry 75). -/
def State.tripOnce (s : State) (n : Ch) (cause path param : Nat) : State :=
  if s.chState n = stTRIPPED ∧ (s.ch n).safe.present.contains cause then s
  else (s.trip n cause path param).modSafe n (fun f => { f with present := cause :: f.present.filter (· != cause) })

/-- A cause of the counts that the newest closed sweep still shows. -/
def State.lasting (s : State) (n : Ch) (c : Nat) : Bool :=
  (c == 0x04 && (s.staleDue n).isSome) || (c == 0x03 && (s.otDue n).isSome)

/-- The decisions of one round form one trip: the lowest cause (R269). In TRIPPED, causes that the last judged epoch
already showed are not recorded again. -/
def State.decide_ (s : State) (n : Ch) (l : List Demand) : State :=
  let old := (s.ch n).safe.present
  let s1 :=
    if s.chState n = stTRIPPED then
      (l.filter (fun d => !old.contains d.1)).foldl (fun t d => t.trip n d.1 d.2.1 d.2.2) s
    else match l.foldl (fun (a : Option Demand) d => match a with
        | none => some d
        | some x => if d.1 < x.1 then some d else some x) none with
      | some d => s.trip n d.1 d.2.1 d.2.2
      | none => s
  s1.modSafe n (fun f => { f with present := l.map (·.1) ++ old.filter (s.lasting n) })

/-- A line of the safety inputs: A0 to A3, then B0 to B3. -/
def lineIx (input : Fin 4) (lineB : Bool) : Nat := input.val + (if lineB then 4 else 0)

/-- An enabled input x has a low line; both lines of it have failed. -/
def State.siLow (s : State) (n : Ch) (x : Nat) : Bool :=
  s.getBit (F.SAFE_SICFG_EN n) x && (((s.ch n).safe.low.getLsbD x) || ((s.ch n).safe.low.getLsbD (x + 4)))
def State.siBoth (s : State) (n : Ch) (x : Nat) : Bool :=
  s.getBit (F.SAFE_SICFG_EN n) x && s.getBit (F.SAFE_SISTAT_FAULT_A n) x && s.getBit (F.SAFE_SISTAT_FAULT_B n) x

/-- R395: a trip cause is active for a connect request, judged on the newest delivered epoch. -/
def State.tripActive (s : State) (n : Ch) : Bool :=
  let b := (s.ch n).pour.deliv
  !b.valid || b.anyStale || s.demandsOv n b != [] || s.demandsUv n b != []
    || (List.range b.temp.length).any (fun m => b.tq m == 0 && decide ((s.get (F.SAFE_LIMIT_OT n) : Int) * 100 ≤ b.t m))
    || [0, 1, 2, 3].any (fun x => s.siLow n x || s.siBoth n x)

/-- A feedback reports closed. -/
def State.anyFb (s : State) (n : Ch) : Bool :=
  s.flag (F.CONT_STAT_FB_POS n) || s.flag (F.CONT_STAT_FB_NEG n) || s.flag (F.CONT_STAT_FB_PRE n)

/-! ## Connect and disconnect (R263, R264) -/

/-- Every refusal of a connect request (Table 3.4, R50, R168, R169, R177, R223, R263, R268, R292, R323, R369, R381,
R383, R395, Table 4.19). -/
def State.connectRefused (s : State) (n : Ch) : Bool :=
  s.chState n != stISOLATED
    || !(s.mode == mRUN || s.mode == mLIMP) || s.get F.SYS_STAT_OPLVL != 3
    || bitsOf (s.reg (R.CH_CONN n)) 3 0 != 0xF
    || !(s.get (F.RING_STAT_STATE n) == 5 || s.get (F.RING_STAT_STATE n) == 6)
    || (s.ch n).safe.isolating
    || s.anyFb n
    || s.get (F.SAFE_LIMIT_IOC n) == 0 || s.get (F.CTLE_STAGE_L_UH n) == 0 || s.get (F.CTLE_STAGE_IRATED n) == 0
    || !s.flag (F.EST_STAT_CHEM_VALID n)
    || (s.crossFail n (s.bank n)).isSome
    || (s.ch n).ctle.stageFault
    || s.flag (F.SAFE_DEG_STAT_EXPIRED n)
    || !s.enabled (pgCTLE n) || !s.enabled (pgEST n)
    || s.get (F.PERC_STAT_MODE n) == 2
    || (s.ch n).safe.reloading
    || (s.twinCh n && s.flag F.TWIN_STAT_CFG_ERR)
    || s.sup.auxLow || s.sup.fuseAt.isSome || s.sup.holdupAt.isSome
    || s.tripActive n

/-- A connect request (R263, R264): step 1 of Table 14.3. -/
def State.doConnect (s : State) (n : Ch) : Res :=
  if s.connectRefused n then refuse .state s
  else
    let s := ((s.enterState n stPRECHARGE 0).put (F.CONT_STAT_STEP n) 1).putB (F.CONT_STAT_HOLD_NEG n) true
    let s := s.putB (F.CTLE_STAT_PRE_DONE n) false
    let s := (s.modPour n (fun p => { p with preRun := 0 })).modSafe n (fun f => { f with stepAt := s.tb })
    (.ok, s.modCtle n (fun c => { c with irefPre := 0, feSince := none }))

/-- A disconnect (R263): PRECHARGE, CONNECTED and DERATED stop; elsewhere no effect. -/
def State.doDisconnect (s : State) (n : Ch) : Res :=
  (.ok, if s.chState n = stPRECHARGE ∨ s.energised n then s.enterState n stSTOPPING 0x60 else s)

/-- A write of CONT.CMD (Table 14.17). -/
def State.doContCmd (s : State) (n : Ch) (v : Word) : Res :=
  if bit v 0 && bit v 1 then refuse .range s
  else if bit v 0 then s.doConnect n
  else if bit v 1 then s.doDisconnect n
  else (.ok, s)

/-- STOPPING ends in ISOLATED once its HOLD outputs are off and every feedback reports open (R265). -/
def State.isolatedCheck (s : State) (n : Ch) : State :=
  if s.chState n = stSTOPPING ∧ (s.ch n).safe.holdOffAt.isSome ∧ !s.anyFb n then
    ((s.enterState n stISOLATED 0).modSafe n (fun f => { f with holdOffAt := none })).raise (pgCONT n) 3
  else s

/-- All HOLD outputs off; the 100 ms of the feedback check begin (R262). -/
def State.holdsOff (s : State) (n : Ch) : State :=
  (s.hold n false false false).modSafe n (fun f => { f with holdOffAt := some s.tb })

/-- CURRENT_ZERO (R195, R265, R45): the current has counted as zero for 3 epochs. -/
def execCurrentZero (n : Ch) (s : State) : Host.Outcome State Fault Refusal :=
  happen (
    if s.chState n = stSTOPPING ∧ 3 ≤ (s.ch n).pour.zeroRun ∧ (s.ch n).safe.holdOffAt.isNone then
      let s := s.holdsOff n
      let s := s.modSafe n (fun f => if f.isolating then { f with isoWait := true, stepAt := s.tb } else f)
      s.isolatedCheck n
    else s)

/-- STOP_TMO (R195): 5 s after the entry into STOPPING without zero current. -/
def execStopTmo (n : Ch) (s : State) : Host.Outcome State Fault Refusal :=
  happen (
    match (s.ch n).prof.stopAt with
    | some t => if s.chState n = stSTOPPING ∧ s.passedMs t 5000 ∧ (s.ch n).safe.holdOffAt.isNone then s.tripC n 0x14 else s
    | none => s)

/-- The precharge step that a feedback completes (Table 14.3). -/
def State.preStep (s : State) (n : Ch) : State :=
  let go (k : Nat) (t : State) : State := (t.put (F.CONT_STAT_STEP n) k).modSafe n (fun f => { f with stepAt := s.tb })
  if s.chState n ≠ stPRECHARGE then s
  else match s.get (F.CONT_STAT_STEP n) with
    | 1 => if s.flag (F.CONT_STAT_FB_NEG n) then go 2 s else s
    | 3 => if s.flag (F.CONT_STAT_FB_PRE n) then go 4 (s.putB (F.CONT_STAT_HOLD_POS n) true) else s
    | 4 => if s.flag (F.CONT_STAT_FB_POS n) then
        go 5 ((s.putB (F.CONT_STAT_HOLD_PRE n) false).modSafe n (fun f => { f with holdOffAt := some s.tb })) else s
    | 5 => if !s.flag (F.CONT_STAT_FB_PRE n) then go 6 (s.modSafe n (fun f => { f with holdOffAt := none })) else s
    | _ => s

/-- FB_CHANGE (R264, R265): the feedbacks' levels. -/
def execFbChange (n : Ch) (pos neg pre : Bool) (s : State) : Host.Outcome State Fault Refusal :=
  let s := ((s.putB (F.CONT_STAT_FB_POS n) pos).putB (F.CONT_STAT_FB_NEG n) neg).putB (F.CONT_STAT_FB_PRE n) pre
  let s := (s.preStep n).isolatedCheck n
  happen (if !s.anyFb n ∧ s.chState n ≠ stPRECHARGE ∧ s.chState n ≠ stSTOPPING then
    s.modSafe n (fun f => { f with holdOffAt := none }) else s)

/-- FB_CLOSE (Table 14.3): CLOSE_TMO exceeded in step 1, 3 or 4. -/
def execFbClose (n : Ch) (s : State) : Host.Outcome State Fault Refusal :=
  let k := s.get (F.CONT_STAT_STEP n)
  happen (
    if s.chState n = stPRECHARGE ∧ (k = 1 ∨ k = 3 ∨ k = 4)
        ∧ s.passedMs (s.ch n).safe.stepAt (s.get (F.CONT_CFG_CLOSE_TMO n)) then s.tripC n 0x0A else s)

/-- PRE_TMO (Table 14.3): PRE_TMO seconds in step 2. -/
def execPreTmo (n : Ch) (s : State) : Host.Outcome State Fault Refusal :=
  happen (
    if s.chState n = stPRECHARGE ∧ s.get (F.CONT_STAT_STEP n) = 2
        ∧ s.passedMs (s.ch n).safe.stepAt (1000 * s.get (F.CONT_CFG_PRE_TMO n)) then s.tripC n 0x0B else s)

/-- WELD (R46, R262, R265, Table 14.3 step 5): 100 ms after its HOLD went off a feedback still reports closed. -/
def execWeld (n : Ch) (s : State) : Host.Outcome State Fault Refusal :=
  let f := (s.ch n).safe
  let late := (match f.holdOffAt with | some t => s.passedMs t 100 | none => false)
    || (f.isoWait && s.passedMs f.stepAt 100)
  let closed := if s.chState n = stPRECHARGE then s.flag (F.CONT_STAT_FB_PRE n) else s.anyFb n
  happen (
    if late then
      if closed then (s.tripC n 0x09).modSafe n (fun f => { f with holdOffAt := none, isolating := false, isoWait := false })
      else s.isolatedCheck n
    else s)

/-- TRIP_OPEN (R251 step 3): 1.00 ms after the decision. After a trip for WELD no second feedback check begins, so one
welded contactor raises one trip (R46). -/
def execTripOpen (n : Ch) (s : State) : Host.Outcome State Fault Refusal :=
  happen (
    match (s.ch n).safe.tripAt with
    | some t =>
      if s.passedMs t 1 then
        ((s.holdsOff n).putB (F.CONT_STAT_TRIP_ON n) false).modSafe n (fun f =>
          { f with tripAt := none
                   holdOffAt := if s.anyFb n ∧ s.get (F.SAFE_TRIPREC_CAUSE n) ≠ 0x09 then some s.tb else none })
      else s
    | none => s)

/-! ## Overcurrent (R257) -/

/-- OVERCURRENT_DETECT: four outputs above IOC assert the inhibit. -/
def execOvercurrentDetect (n : Ch) (aux : Bool) (mA : Int) (s : State) : Host.Outcome State Fault Refusal :=
  let ioc := s.get (F.SAFE_LIMIT_IOC n)
  let failed := s.flag (if aux then F.CTLE_STAT_IAUX_FAIL n else F.CTLE_STAT_IMAIN_FAIL n)
  happen (
    if s.chState n ≠ stLOCKOUT ∧ ioc ≠ 0 ∧ !failed ∧ ioc * 1000 < ((s.calIn n aux (some mA)).getD mA).natAbs then
      let s := (s.putB (F.CONT_STAT_INHIBIT n) true).pwmOff n
      s.modSafe n (fun f => { f with
        ocAt := if f.ocAt.isNone then some s.tb else f.ocAt
        ocPath := (if f.ocAt.isNone then 0 else f.ocPath) ||| (if aux then 2 else 1) })
    else s)

/-- OVERCURRENT: the decision 30 µs after the inhibit. -/
def execOvercurrent (n : Ch) (s : State) : Host.Outcome State Fault Refusal :=
  happen (
    match (s.ch n).safe.ocAt with
    | some t =>
      if 30000 ≤ s.tb - t then
        (s.trip n 0x05 (s.ch n).safe.ocPath 0).modSafe n (fun f => { f with ocAt := none, ocPath := 0 })
      else s
    | none => s)

/-! ## Safety inputs (R258 to R260) -/

/-- SAFE.SISTAT's A, B and DEMAND follow the lines and the enables (Table 14.11). -/
def State.siShow (s : State) (n : Ch) (x : Nat) : State :=
  s.putBit (F.SAFE_SISTAT_DEMAND n) x (s.siLow n x)

/-- The cause SI_LINE: a failed line of an enabled input; a disabled input raises none (R258, R260). -/
def State.siLineShow (s : State) (n : Ch) : State :=
  s.setCause n 0 ([0, 1, 2, 3].any (fun x => s.getBit (F.SAFE_SICFG_EN n) x &&
    (s.getBit (F.SAFE_SISTAT_FAULT_A n) x || s.getBit (F.SAFE_SISTAT_FAULT_B n) x)))

/-- What follows the enables of SAFE.SICFG: demands shown and SI_LINE (R258). -/
def State.siFollow (s : State) (n : Ch) : State := ([0, 1, 2, 3].foldl (fun t x => t.siShow n x) s).siLineShow n

/-- SI_DEMAND (R258): a line low in 30 consecutive samples. -/
def execSiDemand (n : Ch) (input : Fin 4) (lineB : Bool) (s : State) : Host.Outcome State Fault Refusal :=
  happen (
    if s.chState n ≠ stLOCKOUT ∧ s.getBit (F.SAFE_SICFG_EN n) input.val then
      let s := s.modSafe n (fun f => { f with low := f.low ||| BitVec.ofNat 8 (2 ^ lineIx input lineB) })
      let s := (s.putBit (if lineB then F.SAFE_SISTAT_B n else F.SAFE_SISTAT_A n) input.val false).siShow n input.val
      s.trip n 0x06 (if lineB then 2 else 1) input.val
    else s)

/-- Plant time since the last test pulse of a source began, ns (R259). -/
def State.sincePulse (s : State) (n : Ch) (lineB : Bool) : Nat :=
  (s.clock.plant + 20000000 - (1250000 * n.val + if lineB then 10000000 else 0)) % 20000000

/-- TEST_PULSE_START (R259): a source goes low for its 400 µs; in LOCKOUT it is de-energised. -/
def execTestPulseStart (n : Ch) (lineB : Bool) (s : State) : Host.Outcome State Fault Refusal :=
  happen (if s.chState n = stLOCKOUT ∨ 400000 ≤ s.sincePulse n lineB then s
    else s.modSafe n (fun f => if lineB then { f with pulseB := true } else { f with pulseA := true }))

/-- The check of one line at the end of a pulse (R259, R260). -/
def State.lineCheck (s : State) (n : Ch) (lineB : Bool) (high cross level : BitVec 4) (x : Fin 4) : State :=
  let i := lineIx x lineB
  if !s.getBit (F.SAFE_SICFG_EN n) x.val then s
  else
    let s := if level.getLsbD x.val then
        (s.modSafe n (fun f => { f with low := f.low &&& ~~~BitVec.ofNat 8 (2 ^ i) })).putBit
          (if lineB then F.SAFE_SISTAT_B n else F.SAFE_SISTAT_A n) x.val true else s
    let s := s.siShow n x.val
    if !s.getBit (F.SAFE_SICFG_TPEN n) x.val then s
    else
      let bad := high.getLsbD x.val || cross.getLsbD x.val
      let fr := if bad then nth (s.ch n).safe.lineFail i + 1 else 0
      let pr := if bad then 0 else nth (s.ch n).safe.linePass i + 1
      let s := s.modSafe n (fun f => { f with lineFail := setAt 0 f.lineFail i fr, linePass := setAt 0 f.linePass i pr })
      let fld := if lineB then F.SAFE_SISTAT_FAULT_B n else F.SAFE_SISTAT_FAULT_A n
      if 2 ≤ fr ∧ !s.getBit fld x.val then
        let s := ((s.putBit fld x.val true).raise (pgSAFE n) 5).setCause n 0 true
        if s.siBoth n x.val then s.trip n 0x07 0 x.val else s
      else s

/-- TEST_PULSE (R259): a pulse ends, 400 µs after its start and before the next source's, and its lines are checked. -/
def execTestPulse (n : Ch) (lineB : Bool) (high cross level : BitVec 4) (s : State) : Host.Outcome State Fault Refusal :=
  happen (
    if s.chState n = stLOCKOUT ∨ s.sincePulse n lineB < 400000 ∨ 1250000 ≤ s.sincePulse n lineB then s
    else
      let s := s.modSafe n (fun f => if lineB then { f with pulseB := false } else { f with pulseA := false })
      [0, 1, 2, 3].foldl (fun t x => t.lineCheck n lineB high cross level x) s)

/-- SI_LINE_RESTORE (R260): 50 passed periods while ISOLATED or TRIPPED. -/
def execSiLineRestore (n : Ch) (input : Fin 4) (lineB : Bool) (s : State) : Host.Outcome State Fault Refusal :=
  let fld := if lineB then F.SAFE_SISTAT_FAULT_B n else F.SAFE_SISTAT_FAULT_A n
  happen (
    if s.getBit fld input.val ∧ (s.chState n = stISOLATED ∨ s.chState n = stTRIPPED)
        ∧ 50 ≤ nth (s.ch n).safe.linePass (lineIx input lineB) then
      ((s.putBit fld input.val false).logReg (pgSAFE n) 0x02C).siLineShow n
    else s)

/-! ## Trip reset (R270) and degradation (R267, R268) -/

/-- A cell cause is still present (R270). -/
def State.cellPresent (s : State) (n : Ch) (b : EpochBuf) : Bool :=
  b.anyStale
    || (List.range b.cellV.length).any (fun i => b.q i == 0 &&
      (decide (b.v i < s.get (F.SAFE_CELL_UV n) + 500) || decide (s.get (F.SAFE_CELL_OV n) < b.v i + 500)))
    || b.pairs.any (fun p => match b.pairSum p with
      | some x => decide (x < s.pairLo n 500) || decide (s.pairHi n 500 < (x : Int))
      | none => false)

/-- The cause of the trip is still present (R270; DEDUCED, log entry 19 for the causes that R270 does not name). -/
def State.tripPresent (s : State) (n : Ch) : Bool :=
  let b := (s.ch n).pour.deliv
  let fresh := b.valid && decide (0 < (s.ch n).safe.delivs)
  match s.get (F.SAFE_TRIPREC_CAUSE n) with
  | 0x01 | 0x02 => !fresh || s.cellPresent n b
  | 0x03 => !fresh || (List.range b.temp.length).any (fun m =>
      b.tq m != 4 && decide ((s.get (F.SAFE_LIMIT_OT n) : Int) * 100 - 500 ≤ b.t m))
  | 0x04 => !fresh || b.anyStale || b.tempQ.any (· == 1)
  | 0x06 => s.siLow n (s.get (F.SAFE_TRIPREC_PARAM n))
  | 0x07 => s.siBoth n (s.get (F.SAFE_TRIPREC_PARAM n))
  | 0x08 => bitsOf (s.reg (R.CH_CONN n)) 3 0 != 0xF
  | 0x0D => (s.ch n).ctle.stageFault
  | 0x0E => s.flag (F.CTLE_STAT_NOBUS n)
  | 0x16 | 0x17 => true
  | _ => false

/-- Class S of Table 14.5: the reset needs service privilege. -/
def classS (cause : Nat) : Bool := [0x07, 0x09, 0x12, 0x13, 0x15, 0x19, 0x1A].contains cause

/-- SAFE.CMD.RESET (R270). During BOOT the inhibit stays to its end (Table 3.1). -/
def State.doReset (s : State) (src : Src) (n : Ch) : Res :=
  if s.chState n ≠ stTRIPPED then (.ok, s)
  else if classS (s.get (F.SAFE_TRIPREC_CAUSE n)) && !s.service src then refuse .priv s
  else if !s.passedMs (s.ch n).safe.tripTb 1000 || s.anyFb n || s.tripPresent n || (s.ch n).safe.isolating then
    refuse .state s
  else
    let s := (s.putB (F.CONT_STAT_INHIBIT n) (s.mode == mBOOT)).putB (F.CONT_STAT_TRIP_ON n) true
    let s := s.modSafe n (fun f => { f with tripAt := none, ocAt := none, ocPath := 0, holdOffAt := none })
    (.ok, s.enterState n stISOLATED 0)

/-- SAFE.CMD.DEG_ACK (R268). -/
def State.doDegAck (s : State) (src : Src) (n : Ch) : Res :=
  if !s.service src then refuse .priv s else (.ok, s.putB (F.SAFE_DEG_STAT_EXPIRED n) false)

/-- A write of SAFE.CMD (Table 14.16). -/
def State.doSafeCmd (s : State) (src : Src) (n : Ch) (v : Word) : Res :=
  if bit v 0 && bit v 1 then refuse .range s
  else if bit v 0 then s.doReset src n
  else if bit v 1 then s.doDegAck src n
  else (.ok, s)

/-- DEGRADE_TMAX (R267). -/
def execDegradeTmax (n : Ch) (s : State) : Host.Outcome State Fault Refusal :=
  happen (
    if s.chState n = stDERATED ∧ 60000 * s.get (F.SAFE_DEG_TMAX n) ≤ s.degNow n then
      (((s.putB (F.SAFE_DEG_STAT_EXPIRED n) true).raise (pgSAFE n) 4).logReg (pgSAFE n) 0x034).enterState n stSTOPPING 0x62
    else s)

/-! ## Crema (R250, R271 to R273) -/

/-- A condition of R250 on the channel is not met. -/
def State.condBad (s : State) (n : Ch) : Bool :=
  let dist (a b : Nat) : Nat := if a < b then b - a else a - b
  !s.flag F.HLTH_CTRL_EN
    || [0, 1, 2, 3].any (fun x => s.getBit (F.SAFE_SICFG_EN n) x && !s.getBit (F.SAFE_SICFG_TPEN n) x)
    || s.get (F.CDIAG_CTRL_MODE n) != 0 || !s.enabled (pgCDIAG n)
    || decide (500 < dist (s.get (F.CDIAG_CMP_OV n)) (s.get (F.SAFE_CELL_OV n)))
    || decide (500 < dist (s.get (F.CDIAG_CMP_UV n)) (s.get (F.SAFE_CELL_UV n)))

/-- HLTH.STAT.COND follows the conditions; a bit newly set raises COND (R250, Table 14.22). -/
def State.condUpdate (s : State) : State :=
  let new := allCh.foldl (fun a n => if s.condBad n then a + 2 ^ n.val else a) 0
  let old := s.get F.HLTH_STAT_COND
  let s := if new = old then s else s.put F.HLTH_STAT_COND new
  if new &&& (255 - old) = 0 then s else s.raise pgHLTH 3

/-- A finding: its bit, the channels concerned, FINDING and an event (R271). -/
def State.finding (s : State) (f : Option RF) (chans : List Ch) : State :=
  let s := chans.foldl (fun t n => t.putBit F.HLTH_STAT_CHMASK n.val true) s
  let s := match f with | some f => s.setRaise f pgHLTH 2 | none => s
  s.logReg pgHLTH 0x024

/-- The channels' cause LIMP (Table 14.7). -/
def State.limpChans (s : State) (l : List Ch) : State := l.foldl (fun t n => t.setCause n 3 true) s

/-- A time-base failure (Table 14.7): a twin first stops its claims so that the partner takes over; then HALT. -/
def State.timebaseFail (s : State) : State :=
  let s := if s.twinConf then s.eachCh (fun t n =>
      if t.twinCh n then
        ((t.modTwin n (fun w => { w with claimOut := false, held := false })).putBit F.TWIN_STAT_OWN n.val false).putB
          (F.CONT_STAT_TRIP_ON n) false
      else t) else s
  s.enterHalt 4

/-- A stored word that SECDED corrects: one of its 39 bits has turned over (R141). More than two are taken as the
double-bit error (DESIGN CHOICE, log entry 82). -/
def correctable (m : BitVec 39) : Bool := ((List.range 39).filter (fun i => m.getLsbD i)).length == 1

/-- An error found in a stored FIFO word, by a read or by the scrub (R141): a single bit is corrected, written back and
counted; a double one is counted, raised and recorded, and the word stays wrong. -/
def State.eccFound (s : State) (n : Ch) (x : Nat × BitVec 39) : State :=
  if correctable x.2 then
    (s.incSat (F.FIFO_ECC_CORR n)).modFifo n (fun f => { f with flips := f.flips.filter (fun y => y.1 != x.1) })
  else ((s.incSat (F.FIFO_ECC_UNCORR n)).raise (pgFIFO n) 5).logReg (pgFIFO n) 0x038

/-- The scrub of a channel's FIFO (R141, R271). -/
def State.fifoScrub (s : State) (n : Ch) : State := (s.ch n).fifo.flips.foldl (fun t x => t.eccFound n x) s

/-- CREMA_CHECK (R271, R272, R141): a check has run. The SRAM scrub takes in every FIFO: an
uncorrectable word there is a finding, and otherwise R141 applies. -/
def execCremaCheck (r : CremaResult) (s : State) : Host.Outcome State Fault Refusal :=
  happen (
    if !s.flag F.HLTH_CTRL_EN then s
    else
      match r.kind with
      | .sram =>
        let wrong := allCh.filter (fun n => (s.ch n).fifo.flips.any (fun x => !correctable x.2))
        let s := s.eachCh (fun t n => t.fifoScrub n)
        let s := if wrong = [] then s else s.finding (some F.HLTH_STAT_MEMORY) wrong
        if r.bad then (r.chans.foldl (fun t n => t.tripC n 0x16) (s.finding (some F.HLTH_STAT_MEMORY) r.chans)).limp else s
      | .core => if r.bad then (r.chans.foldl (fun t n => t.tripC n 0x16) (s.finding none r.chans)).limp else s
      | .reference => if r.bad then ((s.finding (some F.HLTH_STAT_REF) r.chans).limp).limpChans r.chans else s
      | .latent => if r.bad then ((s.finding (some F.HLTH_STAT_LATENT) r.chans).limp).limpChans r.chans else s
      | .pourX => if r.bad then s.finding (some F.HLTH_STAT_POUR_X) r.chans else s
      | .timebase => if r.bad then (s.finding (some F.HLTH_STAT_TIMEBASE) r.chans).timebaseFail else s
      | .supercap =>
        if r.bad then ((s.finding (some F.HLTH_STAT_HOLDUP) r.chans).putB F.SYS_STAT_HOLDUP_OK false).limp else s)

/-- The epoch of a channel's TRIP pulse (R271): t mod 10 s = 1.25 s × n, 0.625 s later at end B of a twin pair. -/
def State.tripTestDue (s : State) (n : Ch) : Bool :=
  (s.clock.plant / 1000000 + 10000
    - (1250 * n.val + if s.twinCh n && s.flag (F.RING_CTRL_END n) then 625 else 0)) % 10000 == 0

/-- TRIP_TEST (R271, Table 14.7): the 200 µs pulse and whether the switch opened. -/
def execTripTest (n : Ch) (opened : Bool) (s : State) : Host.Outcome State Fault Refusal :=
  happen (
    if !s.flag F.HLTH_CTRL_EN ∨ opened ∨ s.chState n = stLOCKOUT ∨ !s.tripTestDue n then s
    else
      let s := s.finding (some F.HLTH_STAT_TRIPTEST) [n]
      if s.twinCh n then s.limp else (s.tripC n 0x19).limp)

/-- A write of HLTH.CTRL (R273). -/
def State.doHlthCtrl (s : State) (src : Src) (v : Word) : Res :=
  if !bit v 0 && !s.service src then refuse .priv s
  else
    let s1 := (s.putB F.HLTH_CTRL_EN (bit v 0)).condUpdate
    (.ok, if !bit v 0 && s.flag F.HLTH_CTRL_EN then s1.logReg pgHLTH 0x020 else s1)

/-! ## The commands of SAFE, CONT and HLTH -/

/-- CONNECT: CONT.CMD written with CONNECT. -/
def execConnect (src : Src) (n : Ch) (s : State) : Host.Outcome State Fault Refusal :=
  answer (s.gated src (pgCONT n) 0x020 1 (fun t => t.doConnect n))

/-- DISCONNECT: CONT.CMD written with DISCONNECT. -/
def execDisconnect (src : Src) (n : Ch) (s : State) : Host.Outcome State Fault Refusal :=
  answer (s.gated src (pgCONT n) 0x020 2 (fun t => t.doDisconnect n))

/-- RESET: SAFE.CMD written with RESET. -/
def execReset (src : Src) (n : Ch) (s : State) : Host.Outcome State Fault Refusal :=
  answer (s.gated src (pgSAFE n) 0x040 1 (fun t => t.doReset src n))

/-- DEG_ACK: SAFE.CMD written with DEG_ACK. -/
def execDegAck (src : Src) (n : Ch) (s : State) : Host.Outcome State Fault Refusal :=
  answer (s.gated src (pgSAFE n) 0x040 2 (fun t => t.doDegAck src n))

/-- HLTH_DISABLE: HLTH.CTRL written with EN = 0. -/
def execHlthDisable (src : Src) (s : State) : Host.Outcome State Fault Refusal :=
  answer (s.gated src pgHLTH 0x020 0 (fun t => t.doHlthCtrl src 0))

end Sys2Proof.Machine
end

