-- ==== Sys2Proof/Machine/Pour.lean ====
section
/-! DEFINITION. Pour (R113 to R128): the sample instant, returning ring frames (R90 to R94, R105, R108), the close of
the sweep with its marking (R122), delivery (R124 to R127), the data window (R129, R391), and the steps of the isolate
sequence that wait for delivery (R45). -/

namespace Sys2Proof.Machine
open Sys2Proof

/-! ## Blocks and frames from the ring (Tables 5.2 and 5.4) -/

/-- A 16-bit big-endian number at an offset. -/
def be16 (l : List Byte) (i : Nat) : Nat := beNat ((l.drop i).take 2)

/-- A tile data block whose CRC checks (Table 5.4). -/
def parseBlock (l : List Byte) : Option TileBlock :=
  if l.length = 56 ∧ bytesWord (l.drop 52) = crc32 (l.take 52) then
    let f := (l.getD 1 0).toNat
    some
      { addr := (l.getD 0 0).toNat, missed := f.testBit 7, laneRev := f.testBit 6, wrapped := f.testBit 5
        owtap := f % 32, seq := be16 l 2, cells := (List.range 16).map (fun j => be16 l (4 + 2 * j))
        temps := (List.range 4).map (fun k => be16 l (36 + 2 * k)), die := signed 8 (l.getD 44 0).toNat
        aux := (l.getD 45 0).toNat, tstat := be16 l 46, cmpf := bytesWord ((l.drop 48).take 4) }
  else none

/-- `count` blocks of 56 bytes. -/
def chunks56 : Nat → List Byte → List (List Byte)
  | 0, _ => []
  | k + 1, l => l.take 56 :: chunks56 k (l.drop 56)

/-- Status blocks: tile, RSTAT, and whether the CRC checks. -/
def statusBlocks : Nat → List Byte → List (Nat × Nat × Bool)
  | 0, _ => []
  | k + 1, l =>
    let n := (l.getD 2 0).toNat
    ((l.getD 0 0).toNat, (l.getD 1 0).toNat,
      decide (bytesWord ((l.drop (4 + n)).take 4) = crc32 (l.take (4 + n))) && decide (8 + n ≤ l.length))
      :: statusBlocks k (l.drop (8 + n))

/-- A frame as it returns. -/
structure RxFrame where
  op      : Nat
  addr    : Nat
  payload : List Byte
  blocks  : List Byte
  count   : Nat
  wrap    : Nat
  deriving DecidableEq, Repr

/-- A returned frame whose FCS and END check (Table 5.2, R91). -/
def parseFrame (l : List Byte) : Option RxFrame :=
  let len := (l.getD 5 0).toNat
  let body := (l.drop 3).take (5 + len)
  let e := l.drop (l.length - 4)
  if l.length < 16 + len ∨ l.take 3 ≠ [0x55, 0x55, 0xD5] ∨ bytesWord ((l.drop (8 + len)).take 4) ≠ crc32 body
      ∨ e.headD 0 ≠ 0xFD ∨ e.getD 3 0 ≠ crc8 (body.take 5 ++ [e.getD 1 0, e.getD 2 0]) then none
  else some
    { op := (l.getD 3 0).toNat / 16, addr := (l.getD 4 0).toNat, payload := body.drop 5
      blocks := (l.drop (12 + len)).take (l.length - 16 - len), count := (e.getD 1 0).toNat, wrap := (e.getD 2 0).toNat }

/-- A standby, which has enumerated no tile itself, learns a tile's cells from its blocks (TSTAT, Table 5.4; DEDUCED,
log entry 84). -/
def State.learnPop (s : State) (n : Ch) (b : TileBlock) : State :=
  if s.pop n b.addr ≠ 0 then s
  else
    let s := s.modRing n (fun r => { r with pops := setAt 0 r.pops (b.addr - 1) (b.tstat % 32) })
    s.put (F.RING_STAT_CELLS n) ((s.ch n).ring.pops.foldl (· + ·) 0)

/-- A block of the epoch in progress arrives (R103) and is accepted once (R122). -/
def State.acceptBlock (s : State) (n : Ch) (b : TileBlock) : State :=
  let p := (s.ch n).pour
  if p.sampled && !p.closed && b.seq == p.epoch % 65536 && decide (1 ≤ b.addr) && decide (b.addr ≤ s.tiles n) then
    let s := (s.learnPop n b).modRing n (fun r =>
      { r with arrived := if r.arrived.contains b.addr then r.arrived else r.arrived ++ [b.addr] })
    if b.missed || p.blocks.any (fun k => k.addr == b.addr) then s
    else s.modPour n (fun p => { p with blocks := p.blocks ++ [b] })
  else s

/-- A received data block: accepted, or discarded for its CRC and counted (R91). The partner that masters a segment of
a twin split passes its blocks on to the owner (R110). -/
def State.dataBlock (s : State) (n : Ch) (l : List Byte) : State :=
  match parseBlock l with
  | some b =>
    let s := if !s.masters n && s.twinSplit n then s.ringMsg n 2 (l.map (·.toNat)) else s
    s.acceptBlock n b
  | none => s.incSat (F.RING_ERRCNT_CRC n)

/-- The outcome of a WR_REG frame, reported to the block that asked for it (R105): holds (R101), balancing (R160),
output images (R291), UNWRAP (R112). Failed holds go out again with the next window. For open-wire settings and
comparator thresholds no chapter states a consequence. -/
def State.frameJudge (s : State) (n : Ch) (x : SentFrame) : State :=
  let f := x.frame
  let ok (t : Nat) : Bool := x.oks.contains t
  match f.reg with
  | 0x10 =>
    if ok f.addr then
      s.modRing n (fun r => { r with hold := setAt (0, 0) r.hold (f.addr - 1) (BitVec.toNat (f.words.getD 0 0), BitVec.toNat (f.words.getD 1 0)) })
    else s.modRing n (fun r => { r with retry := r.retry ++ [s.holdFrame n (f.addr - 1)] })
  | 0x30 => (if f.addr = 0xFF then (List.range (s.tiles n)).map (· + 1) else [f.addr]).foldl
      (fun t k => t.balOutcome n k f.words (ok k)) s
  | 0x50 => s.percOutcome n f ok
  | 0x60 => if ok f.addr then s.modRing n (fun r => { r with unwrapOk := r.unwrapOk ++ [f.addr] }) else s.unwrapFail n
  | _ => s

/-- Status blocks whose CRC fails are discarded and counted (R91). -/
def State.statusCrc (s : State) (n : Ch) (r : RxFrame) : State :=
  ((statusBlocks r.count r.blocks).filter (fun b => !b.2.2)).foldl (fun t _ => t.incSat (F.RING_ERRCNT_CRC n)) s

/-- A WR_REG frame returns to one port with its status blocks; the last port's return judges it. -/
def State.writeReturn (s : State) (n : Ch) (r : RxFrame) : State :=
  let st := statusBlocks r.count r.blocks
  let s := s.statusCrc n r
  let oks := (st.filter (fun b => b.2.1 == 0 && b.2.2)).map (·.1)
  match (s.ch n).ring.sent.find? (fun x => x.frame.addr == r.addr && x.frame.payload == r.payload) with
  | none => s
  | some x =>
    let y : SentFrame := { x with left := x.left - 1, oks := x.oks ++ oks }
    if y.left = 0 then (s.modRing n (fun q => { q with sent := q.sent.erase x })).frameJudge n y
    else s.modRing n (fun q => { q with sent := q.sent.map (fun z => if z = x then y else z) })

/-- WRAPADDR of a returning frame locates a break (R108): seen from the port, the tile that wrapped is the last one
reached. -/
def State.wrapSeen (s : State) (n : Ch) (side : Side) (w : Nat) : State :=
  match side with | .a => s.breakSeen n w (w + 1) | .b => s.breakSeen n (w - 1) w

/-- TRIG as it returns: its CRC-8 checks (Table 5.3). -/
def trigOk (l : List Byte) : Bool :=
  l.length == 7 && l.take 3 == [0x55, 0x55, 0xD5] && l.getD 6 0 == crc8 ((l.drop 3).take 3)

/-- After a COLLECT's departure and before the close, a returned frame is the COLLECT's, whole or discarded (R103). -/
def State.collectSeen (s : State) (n : Ch) : State := s.modRing n (fun r => { r with collected := true })

/-- A probe, by its opcode. -/
def isProbe (l : List Byte) : Bool := (l.getD 3 0).toNat / 16 == 7

/-- A module that does not master a twin ring relays every frame that arrives on its ring port into the other lane of
that port, 480 ns after arrival, and reports when a relayed probe left; in single configuration RING_B relays probes
only (R88, R99). -/
def State.relay (s : State) (n : Ch) (side : Side) (l : List Byte) : State :=
  if !s.ringAllowed n then s
  else if s.ringTwin n then
    if s.masters n || s.get (F.RING_STAT_STATE n) == 6 || side != s.endSide n then s
    else
      let s := s.emit (.ringFrame n side l)
      if isProbe l then s.ringMsg n 0 [s.clock.plant + 480] else s
  else if side == .b && isProbe l then s.emit (.ringFrame n side l)
  else s

/-- A frame that returns during a ring start: what fails its CRC is counted (R91). The start's own answers come with
ENUM, MCLOAD_DONE and DELAY_SET_DONE. -/
def State.startReturn (s : State) (n : Ch) (l : List Byte) : State :=
  match parseFrame l with
  | none => s.incSat (F.RING_ERRCNT_CRC n)
  | some r => s.statusCrc n r

/-- FRAME_RETURN (R91, R93, R103, R105, R108). -/
def State.frameReturn (s : State) (n : Ch) (side : Side) (l : List Byte) : State :=
  let st := s.get (F.RING_STAT_STATE n)
  if 2 ≤ st ∧ st ≤ 4 then s.startReturn n l
  else if !s.ringRuns n then s
  else if trigOk l then s
  else match parseFrame l with
    | none => (s.incSat (F.RING_ERRCNT_CRC n)).collectSeen n
    | some r =>
      let s := if r.wrap = 0 then s else s.wrapSeen n side r.wrap
      match r.op with
      | 2 => ((chunks56 r.count r.blocks).foldl (fun t b => t.dataBlock n b) s).collectSeen n
      | 3 => (chunks56 r.count r.blocks).foldl (fun t b => t.dataBlock n b) s
      | 4 => s.writeReturn n r
      | 5 => s.statusCrc n r
      | 8 => s.statusCrc n r
      | _ => s

def execFrameReturn (n : Ch) (side : Side) (bytes : List Byte) (s : State) : Host.Outcome State Fault Refusal :=
  happen ((s.relay n side bytes).frameReturn n side bytes)

/-! ## The isolate sequence's end (R45 steps 4 to 6) -/

/-- Pour stops after the delivery of the epoch in progress (R45, R128). -/
def State.pourStopAfter (s : State) (n : Ch) : State :=
  if (s.ch n).pour.busy then s.modPour n (fun p => { p with stopPending := true }) else s.pourStop n

/-- Every drive of the channel off (R37, R45 step 5). -/
def State.drivesOff (s : State) (n : Ch) : State :=
  let s := ((s.pwmOff n).hold n false false false).coilsOff n
  let s := s.put (F.RING_STAT_STATE n) 0
  let s := (s.modTwin n (fun w => { w with claimOut := false, held := false })).putBit F.TWIN_STAT_OWN n.val false
  s.modSafe n (fun f =>
    { f with pulseA := false, pulseB := false, holdOffAt := none, sdclk := false, enc5v := false, tpOn := false })

/-- The drives of a channel that has left LOCKOUT or BOOT, beside those with a rule of their own; in DECAF SDCLK runs
only for the checks of R56. -/
def State.drivesOn (s : State) (n : Ch) : State :=
  s.modSafe n (fun f => { f with sdclk := s.mode != mDECAF, enc5v := true, tpOn := true, lockAt := none })

/-- Once every feedback reports open: Pour stops, the drives go off, LOCKOUT. -/
def State.isolateGo (s : State) (n : Ch) : State :=
  let f := (s.ch n).safe
  if !(f.isolating && f.isoWait) || s.anyFb n then s
  else if (s.ch n).pour.busy then s.pourStopAfter n
  else
    let s := ((s.pourStop n).drivesOff n).modSafe n (fun f => { f with isolating := false, isoWait := false })
    (s.enterState n stLOCKOUT 0).modSafe n (fun f => { f with lockAt := some s.tb })

/-! ## Marking (R15, R116 to R118, R122) -/

/-- The accepted block of a tile. -/
def blockOf (l : List TileBlock) (tile : Nat) : Option TileBlock := l.find? (fun b => b.addr == tile)

/-- Cells of the epoch: value and code (R122). -/
def State.markCells (s : State) (n : Ch) (susp : List (Nat × Nat)) (blocks : List TileBlock) (old : EpochBuf) :
    List (Nat × Nat) :=
  (List.range (16 * (s.ch n).pour.tiles)).map (fun i =>
    let j := i % 16
    if s.pop n (i / 16 + 1) ≤ j then (0xFFFF, 4)
    else match blockOf blocks (i / 16 + 1) with
      | none => (old.v i, 1)
      | some k =>
        let c := k.cells.getD j 0xFFFF
        if c = 0xFFFF then (old.v i, 1)
        else if susp.any (fun p => p.1 == i || p.2 == i) then (c, 3)
        else if k.owtap = j ∨ k.owtap = j + 1 then (c, 2)
        else (c, 0))

/-- Thermistors of the epoch (R117, R122). -/
def State.markTemps (s : State) (n : Ch) (blocks : List TileBlock) (old : EpochBuf) : List (Nat × Nat) :=
  (List.range (4 * (s.ch n).pour.tiles)).map (fun m =>
    if !(s.ch n).pour.tmask.testBit (m % 4) then (0x8000, 4)
    else match blockOf blocks (m / 4 + 1) with
      | none => (old.temp.getD m 0x8000, 1)
      | some k =>
        let c := k.temps.getD (m % 4) 0x8000
        if c = 0x8000 then (old.temp.getD m 0x8000, 1) else (c, 0))

/-- Tile words: of accepted blocks, else as before (R118). -/
def State.markTiles (s : State) (n : Ch) (blocks : List TileBlock) (old : EpochBuf) : List (Word × Word) :=
  (List.range (s.ch n).pour.tiles).map (fun i => match blockOf blocks (i + 1) with
    | some k => (BitVec.ofNat 32 (int16 k.die % 256 * 2 ^ 24 + k.aux % 256 * 65536 + k.tstat % 65536), k.cmpf)
    | none => old.tileW.getD i (0, 0))

/-! ## String current (R119 to R121) -/

/-- A current input is valid for the epoch. -/
def mainOk (i : SampleIn) : Bool := i.cleanMain && i.iMain.isSome && i.iMainF.isSome
def auxOk (i : SampleIn) : Bool := i.cleanAux && i.iAux.isSome && i.iAuxF.isSome

/-- ISRC (true IAUX) and IVALID of a sample under an ISEL (R121). Pour takes ISEL as it stands at the sample instant,
for the grade and for ISTR (DESIGN CHOICE, log entry 83: the spec does not say when a write of ISEL takes effect). -/
def isrcOf (isel : Nat) (i : SampleIn) : Bool × Bool :=
  let src := match isel with | 0 => !mainOk i | 1 => false | _ => true
  (src, if src then auxOk i else mainOk i)

/-- A value at the sample instant, interpolated between filter outputs k and k + 1 (R119): `edge` is the SDCLK edge of
output k in ns after the sample instant, r the measured round trip, m the modulator delay; outputs follow each other by
64 cycles of 20 MHz. Without a measured round trip in 0 to 2,540 ns the alignment is not stated, and output k stands;
values are rounded to the nearest unit (DESIGN CHOICE, log entry 83). -/
def outAt (y0 y1 edge : Option Int) (r : Option Nat) (m : Nat) : Option Int :=
  match y0, y1, edge, r with
  | some a, some b, some e, some r =>
    if r ≤ 2540 then
      let tOut : Rat := (e : Rat) + ((r : Rat) - (m : Rat)) / 2 - 4725
      some (roundHalf ((a : Rat) + ((b : Rat) - (a : Rat)) * (0 - tOut) / 3200))
    else y0
  | _, _, _, _ => y0

/-- A sample reduced to the sample instant (R119); an input failed under Table 9.3 counts as invalid (R121, R181). -/
def State.reduceIn (s : State) (n : Ch) (i : SampleIn) : SampleIn :=
  let m (k : Nat) : Nat := 10 * bitsOf (s.reg (R.POUR_SDCFG n)) (31 - 8 * k) (24 - 8 * k)
  let at_ (k j : Nat) (y : Option Int) : Option Int := outAt y (i.next.getD j none) (i.edge.getD k none) (i.rtt.getD k none) (m k)
  { i with
    iMain := at_ 0 0 i.iMain, iAux := at_ 1 1 i.iAux, vStr := at_ 2 2 i.vStr, vBus := at_ 3 3 i.vBus
    iMainF := at_ 0 4 i.iMainF, iAuxF := at_ 1 5 i.iAuxF, vStrF := at_ 2 6 i.vStrF, vBusF := at_ 3 7 i.vBusF
    cleanMain := i.cleanMain && !s.flag (F.CTLE_STAT_IMAIN_FAIL n)
    cleanAux := i.cleanAux && !s.flag (F.CTLE_STAT_IAUX_FAIL n) }

/-- A current word in mA, 0x8000_0000 without a value. -/
def curWord (o : Option Int) : Word := match o with | some x => intWord x | none => 0x80000000

/-- A voltage word in mV, 0xFFFF_FFFF without a value; below 0 V reads 0, as a cell does (R116). -/
def voltWord (o : Option Int) : Word := match o with | some x => intWord (max 0 x) | none => 0xFFFFFFFF

/-- µs since the start of an epoch, from the time-base time of its sample instant, +100 µs (R113). -/
def State.sinceEpoch (s : State) (smpTb : Nat) : Nat := min 0xFFFF ((s.tb + 100000 - smpTb) / 1000)

/-- The buffer of the epoch whose sweep closes. DIE_RANGE is judged on every tile's DIE as the tile words hold it, that
of a tile without an accepted block included (DESIGN CHOICE, log entry 83: R116 does not say whether a held DIE
counts). -/
def State.sweepBuf (s : State) (n : Ch) (susp : List (Nat × Nat)) : EpochBuf :=
  let p := (s.ch n).pour
  let i := p.smp
  let cells := s.markCells n susp p.blocks p.fill
  let temps := s.markTemps n p.blocks p.fill
  let tw := s.markTiles n p.blocks p.fill
  let rx := p.blocks.foldl (fun a b => a + 2 ^ (b.addr - 1)) 0
  let q := isrcOf p.isel i
  let cur (main aux : Option Int) : Option Int :=
    if !q.2 then none else if q.1 then s.calIn n true aux else s.calIn n false main
  { valid := true, epoch := p.epoch
    part := decide (p.blocks.length < p.tiles) || cells.any (fun c => c.2 == 1) || !q.2
    holdover := p.holdover, grade := p.grade, split := p.split, late := p.split && s.twinSplit n
    isrc := q.1, ivalid := q.2
    dieRange := tw.any (fun w => let d := signed 8 (bitsOf w.1 31 24); decide (d < -20) || decide (65 < d))
    tiles := p.tiles, tileRx := BitVec.ofNat 32 rx, cellV := cells.map (·.1), cellQ := cells.map (·.2)
    temp := temps.map (·.1), tempQ := temps.map (·.2), tileW := tw, vpos := p.fill.vpos
    istr := curWord (cur i.iMainF i.iAuxF), istrRaw := curWord (cur i.iMain i.iAux)
    iaux := curWord (if auxOk i then s.calIn n true i.iAuxF else none)
    vstr := voltWord i.vStrF, vbus := voltWord i.vBusF, closeUs := s.sinceEpoch p.smpTb, delivUs := 0
    pairs := susp, smpTb := p.smpTb }

/-! ## Publication (R123, R124, R126) -/

/-- POUR.STAT of a delivered epoch. -/
def State.pourShow (s : State) (n : Ch) (b : EpochBuf) : State :=
  let run := (s.ch n).pour.staleCnt.foldl max 0
  s.setReg (R.POUR_STAT n) (BitVec.ofNat 32 (b.grade % 4 * 2 ^ 30 + b2n b.holdover * 2 ^ 29 + b2n b.part * 2 ^ 28
    + b2n b.isrc * 2 ^ 27 + b2n b.ivalid * 2 ^ 26 + b2n b.split * 2 ^ 25 + b2n b.late * 2 ^ 24
    + min 255 run * 65536 + b.delivUs % 65536))

/-- The interrupt sources of a delivery: PARTIAL after COMPLETE, and a current source changed or lost (Table 6.12). -/
def State.pourSources (s : State) (n : Ch) (old b : EpochBuf) : State :=
  let s := if b.part then s.incSat (F.POUR_CNT_PARTIAL n) else s
  let s := if old.valid && !old.part && b.part then s.raise (pgPOUR n) 2 else s
  if (old.valid && old.isrc != b.isrc) || (old.valid && old.ivalid && !b.ivalid) then
    (s.raise (pgPOUR n) 5).logReg (pgPOUR n) 0x024
  else s

/-- The epoch's runs: zero current (R195), precharge window (R174), VLIM plausibility (R182). An epoch with a STALE cell
is no epoch in the precharge window, since its held value is for display only (R16; DEDUCED, log entry 83). -/
def State.pourRuns (s : State) (n : Ch) (b : EpochBuf) : State :=
  let p := (s.curNow n).p
  let zero := b.ivalid && p == 0 && decide ((b.istr.toInt.natAbs : Rat) ≤ s.irated n * 10)
  let vs : Rat := (b.vstr.toNat : Rat) / 1000
  let known := b.vstr != 0xFFFFFFFF
  let pre := known && !b.anyStale && decide (absR (b.vsum - vs) ≤ s.coef n 0x064)
  let off := decide (s.coef n 0x07C < absR (vs - (b.vsum + (b.istr.toInt : Rat) / 1000 * s.coef n 0x080)))
  s.modPour n (fun q => { q with
    zeroRun := if zero then q.zeroRun + 1 else 0
    preRun := if pre then q.preRun + 1 else 0
    vlimRun := if !s.energised n then 0 else if b.anyStale || !b.ivalid || !known then q.vlimRun
      else if off then q.vlimRun + 1 else 0 })

/-- The RO-S registers of a channel that belong to the delivered epoch (Tables 6.8, 8.16, 8.17, 8.19, 10.19, R390). -/
def rosRegs (n : Ch) : List Nat :=
  [R.POUR_STAT n, R.BAL_STAT n, R.BAL_LIMITED n, R.VAX_POS n, R.PAGE_SEQ (pgPOUR n), R.PAGE_SEQ (pgCDIAG n),
    R.PAGE_SEQ (pgBAL n), R.PAGE_SEQ (pgVAX n)] ++ (List.range 26).map (R.BAL_ACT n)

/-- A delivered epoch of a takeover (R338 step 4): it counts when both main feedbacks are closed, no trip cause is
present and the stage has accepted the claim; an open feedback trips. -/
def State.takeCount (s : State) (n : Ch) : State :=
  let w := (s.ch n).twin
  if !w.taking ∨ !w.claimOut then s
  else if !(s.flag (F.CONT_STAT_FB_POS n) && s.flag (F.CONT_STAT_FB_NEG n)) then
    (s.modTwin n (fun w => { w with taking := false })).tripC n 0x0A
  else if s.tripActive n ∨ s.tb - w.claimAt < 40000 then s.modTwin n (fun w => { w with takeN := 0 })
  else s.modTwin n (fun w => { w with takeN := w.takeN + 1 })

/-- Publication: the fill buffer becomes the delivered buffer; its consumers are fed (R124, R125, R128). -/
def State.pourPublish (s : State) (n : Ch) : State :=
  let p := (s.ch n).pour
  if !p.pending then s
  else
    let b := { p.fill with delivUs := s.sinceEpoch p.fill.smpTb }
    let old := (rosRegs n).map (fun a => (a, s.reg a))
    let s := s.modPour n (fun q => { q with
      fill := b, deliv := b, prev := p.deliv, prevRegs := old, pending := false, committed := !s.enabled (pgFIFO n)
      run := p.run + 1 })
    let s := ((s.balClose n b).vaxShow n b.vpos b.epoch b.holdover).pourShow n b
    let s := [pgPOUR n, pgCDIAG n, pgBAL n].foldl (fun t pg => t.seqPage pg b.epoch b.holdover) s
    let s := (s.pourSources n p.deliv b).pourRuns n b
    let s := (s.estFeed n b p.rawMain p.rawAux).percFeed n b
    let s := (s.modSafe n (fun f => { f with delivs := f.delivs + 1 })).takeCount n
    let s := if p.stopPending then s.pourStop n else s
    s.isolateGo n

/-- POUR_PUBLISH (R124). -/
def execPourPublish (n : Ch) (s : State) : Host.Outcome State Fault Refusal := happen (s.pourPublish n)

/-! ## The close of the sweep (R122, R123, R125) -/

/-- STALE counts of cells and thermistors, and the count of R256. -/
def State.pourCounts (s : State) (n : Ch) (b : EpochBuf) : State :=
  let up (l q : List Nat) : List Nat := (List.range q.length).map (fun i => if nth q i = 1 then nth l i + 1 else 0)
  let ot := (s.get (F.SAFE_LIMIT_OT n) : Int) * 100
  s.modPour n (fun p => { p with
    staleCnt := up p.staleCnt b.cellQ
    tStale := up p.tStale b.tempQ
    otCnt := (List.range b.temp.length).map (fun m =>
      if b.tq m = 0 then (if ot ≤ b.t m then nth p.otCnt m + 1 else 0) else nth p.otCnt m) })

/-- Blocks lost in the epoch (R103, Table 5.19). -/
def State.lostBlocks (s : State) (n : Ch) (got : Nat) : State :=
  let k := (s.ch n).pour.tiles - got
  if k = 0 then s
  else (s.put (F.RING_ERRCNT_LOST n) (min 255 (s.get (F.RING_ERRCNT_LOST n) + k))).raise (pgRING n) 6

/-- WR_REG frames that have not returned on every port: failed for the tiles that did not confirm (R105). -/
def State.unreturned (s : State) (n : Ch) : State :=
  let l := (s.ch n).ring.sent
  l.foldl (fun t x => t.frameJudge n x) (s.modRing n (fun r => { r with sent := [] }))

/-- The sweep of the epoch in progress closes. -/
def State.sweepClose (s : State) (n : Ch) : State :=
  if !(s.ch n).pour.sampled ∨ (s.ch n).pour.closed then s
  else
    let s := s.pourPublish n
    let p := (s.ch n).pour
    let before := s.pairs n
    let s := s.owEvalAll n p.blocks p.fill p.epoch
    let b := { s.sweepBuf n (before ++ s.pairs n) with vpos := (s.ch n).vax.posAt }
    let s := s.modPour n (fun q => { q with
      fill := b, closed := true, pending := true, rawMain := if mainOk p.smp then p.smp.iMain else none
      rawAux := if auxOk p.smp then p.smp.iAux else none })
    let s := (s.driftCheck n b).cmpCheck n b p.blocks
    let s := p.blocks.foldl (fun t k => t.endTap n p.fill k) s
    let s := (s.pourCounts n b).lostBlocks n (s.ch n).ring.arrived.length
    let s := s.decide_ n (s.cellDemands n b p.blocks)
    let s := (s.unreturned n).retryQueue n
    ((s.owSchedule n (p.epoch + 2)).probeQueue n).mendCount n p.blocks

/-- SWEEP_CLOSE (R122). -/
def execSweepClose (n : Ch) (s : State) : Host.Outcome State Fault Refusal := happen (s.sweepClose n)

/-- STALE (R17, R256, R269): the lowest index is named. -/
def execStale (n : Ch) (s : State) : Host.Outcome State Fault Refusal :=
  happen (match s.staleDue n with | some i => s.tripOnce n 0x04 1 i | none => s)

/-- CELL_OT (R256, R269). -/
def execCellOt (n : Ch) (s : State) : Host.Outcome State Fault Refusal :=
  happen (match s.otDue n with | some m => s.tripOnce n 0x03 1 m | none => s)

/-! ## The sample instant (R113 to R115, R119, R127, R261) -/

/-- HOLD readback (R261). -/
def State.holdCheck (s : State) (n : Ch) (i : SampleIn) : State :=
  let bad := i.holdPos != s.flag (F.CONT_STAT_HOLD_POS n) || i.holdNeg != s.flag (F.CONT_STAT_HOLD_NEG n)
    || i.holdPre != s.flag (F.CONT_STAT_HOLD_PRE n)
  let k := if bad then (s.ch n).pour.holdMis + 1 else 0
  let s := s.modPour n (fun p => { p with holdMis := k })
  if k = 2 ∨ (2 < k ∧ s.chState n ≠ stTRIPPED) then s.tripC n 0x1A else s

/-- A round trip as POUR.SDRTT shows it (R119): to the nearest 10 ns, halves up (DESIGN CHOICE, log entry 83: the spec
gives the LSB and no rounding). -/
def rttCode (o : Option Nat) : Nat := match o with | some r => if r ≤ 2540 then (r + 5) / 10 else 0xFF | none => 0xFF

/-- The grade of an epoch sampled now (Table 6.2). A SPLIT of a twin ring counts as a twin split while the time bases
are not aligned, one with an empty segment (R111) included (DESIGN CHOICE, log entry 85: R114 does not say whether it
does). -/
def State.gradeOf (s : State) (n : Ch) (i : SampleIn) : Nat :=
  let src := (isrcOf (s.get (F.POUR_CTRL_ISEL n)) i).1
  if s.flag (F.RING_STAT_DELAY_FAULT n) || rttCode (i.rtt.getD (if src then 1 else 0) none) == 0xFF
      || (s.ringTwin n && s.get (F.RING_STAT_STATE n) == 6 && !s.flag F.TWIN_STAT_ALIGNED) then 3
  else if s.locked then 0
  else match s.clock.lossAt with
    | some t => if s.tb - t ≤ 100000000000 then 1 else 2
    | none => 2

/-- The cause I_PATH follows the two current inputs (Table 14.4). -/
def State.iPath (s : State) (n : Ch) (i : SampleIn) : State :=
  s.setCause n 1 (!mainOk i || !auxOk i || s.flag (F.CTLE_STAT_IMAIN_FAIL n) || s.flag (F.CTLE_STAT_IAUX_FAIL n))

/-- Sniffed and mastered data disagree in 3 consecutive epochs (R271, Table 14.21). -/
def State.sniffCheck (s : State) (n : Ch) (ok : Bool) : State :=
  let k := if ok || !s.ringTwin n then 0 else (s.ch n).twin.sniffRun + 1
  let s := s.modTwin n (fun w => { w with sniffRun := k, sniffGood := if ok then w.sniffGood + 1 else 0 })
  if k = 3 ∧ s.flag F.HLTH_CTRL_EN then s.finding (some F.HLTH_STAT_POUR_X) [n] else s

/-- Delivery of the epoch before has not finished (R127): overrun and trip; a sweep still open closes first, so that
both epochs are delivered in order. -/
def State.overrun (s : State) (n : Ch) : State :=
  if (s.ch n).pour.busy then
    let s := s.sweepClose n
    let s := ((s.incSat (F.POUR_CNT_OVERRUN n)).raise (pgPOUR n) 4).logReg (pgPOUR n) 0x030
    s.tripC n 0x13
  else s

/-- The epoch begins: sample, grade, an empty sweep. -/
def State.sampleStart (s : State) (n : Ch) (i : SampleIn) : State :=
  let code (k : Nat) : Nat := rttCode (i.rtt.getD k none)
  let s := s.setReg (R.POUR_SDRTT n) (BitVec.ofNat 32 (code 0 * 2 ^ 24 + code 1 * 65536 + code 2 * 256 + code 3))
  let i := s.reduceIn n i
  let g := s.gradeOf n i
  let s := if g = (s.ch n).pour.lastGrade then s else s.raise (pgPOUR n) 3
  let s := s.modPour n (fun p => { p with
    sampled := true, closed := false, epoch := s.ep, smp := i, grade := g, lastGrade := g, holdover := !s.locked
    split := s.get (F.RING_STAT_STATE n) == 6, tiles := s.tiles n, tmask := s.get (F.POUR_CTRL_TMASK n)
    isel := s.get (F.POUR_CTRL_ISEL n), smpTb := s.tb, blocks := [] })
  let s := s.modRing n (fun r => { r with arrived := [], collected := false, recollectDue := false, reads := 0, readTiles := [] })
  (s.iPath n i).sniffCheck n i.sniffOk

/-- EPOCH_SAMPLE (R113): the sample instant of the present epoch. -/
def State.epochSample (s : State) (n : Ch) (i : SampleIn) : State :=
  let s := s.overrun n
  let s := ((s.holdCheck n i).vaxSample n).balMode n
  if (s.ch n).pour.on && s.ringRuns n then s.sampleStart n i
  else
    ((s.modPour n (fun p => { p with sampled := false })).modEst n (fun e => { e with restT0 := none })).vaxShow n
      (s.ch n).vax.posAt s.ep !s.locked

def execEpochSample (n : Ch) (i : SampleIn) (s : State) : Host.Outcome State Fault Refusal := happen (s.epochSample n i)

/-! ## The data window (R129, R391, Tables 6.4 and 6.5) -/

/-- Cells of a validity code. -/
def EpochBuf.countQ (b : EpochBuf) (c : Nat) : Nat := (b.cellQ.filter (· == c)).length

/-- Word 0x1_0004 (Table 6.5; the frame's word 2). -/
def EpochBuf.flags (b : EpochBuf) : Word :=
  BitVec.ofNat 32 (b2n b.part * 2 ^ 31 + b2n b.holdover * 2 ^ 30 + b.grade % 4 * 2 ^ 28 + b2n b.split * 2 ^ 27
    + b2n b.late * 2 ^ 26 + b2n b.isrc * 2 ^ 25 + b2n b.ivalid * 2 ^ 24 + b2n b.dieRange * 2 ^ 23
    + b.epoch / 2 ^ 32 % 65536)

/-- The epoch header (Table 6.5). -/
def EpochBuf.header (b : EpochBuf) (w : Nat) : Word :=
  match w with
  | 0 => BitVec.ofNat 32 b.epoch
  | 1 => b.flags
  | 2 => b.tileRx
  | 3 => BitVec.ofNat 32 (b.countQ 1 % 512 * 65536 + b.countQ 0 % 512)
  | 4 => BitVec.ofNat 32 (b.countQ 3 % 512 * 65536 + b.countQ 2 % 512)
  | 5 => b.istr
  | 6 => b.istrRaw
  | 7 => b.iaux
  | 8 => b.vstr
  | 9 => b.vbus
  | 10 => BitVec.ofNat 32 (b.closeUs % 65536 * 65536 + b.delivUs % 65536)
  | _ => 0

/-- Eight codes in a word. -/
def codes8 (l : List Nat) (w : Nat) : Word :=
  BitVec.ofNat 32 ((List.range 8).foldl (fun a k => a + l.getD (8 * w + k) 4 % 8 * 8 ^ k) 0)

/-- A word of the Pour region of the window. -/
def EpochBuf.word (b : EpochBuf) (off : Nat) : Word :=
  let w (base : Nat) : Nat := (off - base) / 4
  let two (l : List Nat) (d base : Nat) : Word :=
    BitVec.ofNat 32 (l.getD (2 * w base + 1) d % 65536 * 65536 + l.getD (2 * w base) d % 65536)
  if off < 0x10040 then b.header (w 0x10000)
  else if off < 0x10380 then two b.cellV 0xFFFF 0x10040
  else if off < 0x10450 then codes8 b.cellQ (w 0x10380)
  else if off < 0x10500 then 0
  else if off < 0x105D0 then two b.temp 0x8000 0x10500
  else if off < 0x10600 then 0
  else if off < 0x10634 then codes8 b.tempQ (w 0x10600)
  else if off < 0x10700 then 0
  else if off < 0x107D0 then
    let t := b.tileW.getD (w 0x10700 / 2) (0, 0)
    if w 0x10700 % 2 = 0 then t.1 else t.2
  else if off = 0x1FFFC then BitVec.ofNat 32 b.epoch
  else 0

end Sys2Proof.Machine
end

