-- ==== Sys2Proof/Machine/Fifo.lean ====
section
/-! DEFINITION. Epoch FIFOs (R130 to R143): the epoch frame, commits and overflow, reads, the rewind mark and the
flush. -/

namespace Sys2Proof.Machine
open Sys2Proof

/-- The answer of a command that reads one word. -/
def answerRead (r : Status × State × Word) : Host.Outcome State Fault Refusal :=
  if r.1 = .ok then .next { r.2.1 with last := ⟨.ok, 1, false, 0, [r.2.2]⟩ } else answer (r.1, r.2.1)

/-- A read by a command, behind the checks of who may read the page. -/
def State.readAs (s : State) (src : Src) (pg : PageRef) (f : State → Status × State × Word) :
    Host.Outcome State Fault Refusal :=
  match s.reachable src pg with
  | .ok => answerRead (f s)
  | st => answer (st, s)

/-! ## The frame (Table 7.1) -/

/-- Codes ten to a word, positions beyond `len` 0. -/
def codes10 (l : List Nat) (len w : Nat) : Word :=
  BitVec.ofNat 32 ((List.range 10).foldl (fun a k =>
    if 10 * w + k < len then a + l.getD (10 * w + k) 4 % 8 * 8 ^ k else a) 0)

/-- Values two to a word. -/
def packPairs (l : List Nat) (d words : Nat) : List Word :=
  (List.range words).map (fun w => BitVec.ofNat 32 (l.getD (2 * w + 1) d % 65536 * 65536 + l.getD (2 * w) d % 65536))

/-- The frame of an epoch, its trailer naming the frames dropped before it. -/
def EpochBuf.frame (b : EpochBuf) (temp : Bool) (dropped : Nat) : List Word :=
  let n := b.tiles
  let body := [BitVec.ofNat 32 b.epoch, b.flags, b.tileRx, b.istr, b.istrRaw, b.vstr, b.vbus] ++ packPairs b.cellV 0xFFFF (8 * n)
    ++ (List.range ((16 * n + 9) / 10)).map (codes10 b.cellQ (16 * n))
    ++ (if temp then packPairs b.temp 0x8000 (2 * n) ++ (List.range ((4 * n + 9) / 10)).map (codes10 b.tempQ (4 * n))
        else [])
  let len := body.length + 3
  let all := BitVec.ofNat 32 (0xE5 * 2 ^ 24 + n % 256 * 65536 + len) :: body ++ [BitVec.ofNat 32 (dropped % 65536 * 65536)]
  all ++ [crcWords all]

/-! ## Pointers (R130) -/

def State.wptr (s : State) (n : Ch) : Nat := s.get (F.FIFO_PTR_WPTR n)
def State.rptr (s : State) (n : Ch) : Nat := s.get (F.FIFO_PTR_RPTR n)

/-- The distance of two 16-bit pointers. -/
def ptrDist (a b : Nat) : Nat := (a + 65536 - b) % 65536

/-- A hard mark is valid (R137, R138). -/
def State.hardMark (s : State) (n : Ch) : Bool := s.flag (F.FIFO_STAT_MARK_VALID n) && !s.flag (F.FIFO_CTRL_SOFT_MARK n)

/-- Free words. -/
def State.fifoFree (s : State) (n : Ch) : Nat :=
  32768 - ptrDist (s.wptr n) (if s.hardMark n then s.get (F.FIFO_LEVEL_MARK n) else s.rptr n)

/-- The word at a pointer, and LEN of the frame that begins there. -/
def State.fifoWord (s : State) (n : Ch) (p : Nat) : Word := mget (s.ch n).fifo.mem (p % 32768)
def State.lenAt (s : State) (n : Ch) (p : Nat) : Nat := bitsOf (s.fifoWord n p) 15 0

/-- Whole frames from pointer p to WPTR; `k` bounds the walk. -/
def State.framesFrom (s : State) (n : Ch) : Nat → Nat → Nat
  | 0, _ => 0
  | k + 1, p =>
    if p = s.wptr n ∨ s.lenAt n p = 0 then 0 else 1 + s.framesFrom n k ((p + s.lenAt n p) % 65536)

/-- HEAD_OPEN, NEXT_LEN and FRAMES follow the pointers (Tables 7.5, 7.7). -/
def State.fifoShow (s : State) (n : Ch) : State :=
  let f := (s.ch n).fifo
  let isOpen := decide (f.headLeft ≠ 0)
  let next := if isOpen then f.headLen else if s.rptr n = s.wptr n then 0 else s.lenAt n (s.rptr n)
  let begin_ := if isOpen then (s.rptr n + f.headLeft) % 65536 else s.rptr n
  let s1 := (s.putB (F.FIFO_STAT_HEAD_OPEN n) isOpen).put (F.FIFO_STAT_NEXT_LEN n) next
  s1.put (F.FIFO_LEVEL_FRAMES n) (s.framesFrom n 32768 begin_)

/-! ## Commit (R132, R133) -/

/-- A frame is discarded. -/
def State.fifoDrop (s : State) (n : Ch) : State :=
  ((s.incSat (F.FIFO_CNT_DROPPED n)).modFifo n (fun f => { f with droppedBefore := min 0xFFFF (f.droppedBefore + 1) })).raise
    (pgFIFO n) 3

/-- DROP_OLD: whole unread frames are freed until `len` words fit; `k` bounds the walk. Behind a valid hard mark no
frame can be freed, and RPTR stays (DESIGN CHOICE, log entry 35: R133 does not say whether RPTR still advances). -/
def State.fifoMake (s : State) (n : Ch) (len : Nat) : Nat → State
  | 0 => s
  | k + 1 =>
    if len ≤ s.fifoFree n ∨ (s.ch n).fifo.headLeft ≠ 0 ∨ s.hardMark n ∨ s.rptr n = s.wptr n then s
    else ((s.put (F.FIFO_PTR_RPTR n) ((s.rptr n + s.lenAt n (s.rptr n)) % 65536)).fifoDrop n).fifoMake n len k

/-- The words from a pointer on are written anew: what stood wrong there is gone (R141). -/
def unflip (l : List (Nat × BitVec 39)) (p len : Nat) : List (Nat × BitVec 39) :=
  l.filter (fun x => !decide ((x.1 + 32768 - p % 32768) % 32768 < len))

/-- What stands wrong in the word at a pointer. -/
def FifoS.flipAt (f : FifoS) (p : Nat) : Option (Nat × BitVec 39) := f.flips.find? (fun x => x.1 == p % 32768)

/-- The data bits of a stored word as they read: a correctable word as it was written, any other with its bits turned. -/
def flipped (o : Option (Nat × BitVec 39)) (w : Word) : Word :=
  match o with
  | some x => if correctable x.2 then w else w ^^^ x.2.setWidth 32
  | none => w

/-- The ECC's part in a read of the word at a pointer (R141). -/
def State.eccRead (s : State) (n : Ch) (p : Nat) : State :=
  match (s.ch n).fifo.flipAt p with | some x => s.eccFound n x | none => s

/-- Words written from a pointer on. -/
def fifoStore (m : Mem) (p : Nat) : List Word → Mem
  | [] => m
  | w :: t => fifoStore (mset m (p % 32768) w) (p + 1) t

/-- The frame of the newest delivered epoch is committed, or frames are discarded. `committed` is set where the FIFO
was off at the publication: no frame was begun then (R142). -/
def State.fifoCommit (s : State) (n : Ch) : State :=
  let b := (s.ch n).pour.deliv
  if !b.valid ∨ (s.ch n).pour.committed then s
  else
    let s := s.modPour n (fun p => { p with committed := true })
    let temp := s.flag (F.FIFO_CTRL_TEMP n)
    let len := (b.frame temp 0).length
    let s := if s.flag (F.FIFO_CTRL_OVF n) then s.fifoMake n len 32768 else s
    if s.fifoFree n < len then (s.fifoDrop n).fifoShow n
    else
      let ws := b.frame temp (s.ch n).fifo.droppedBefore
      let w := s.wptr n
      let lost := s.flag (F.FIFO_STAT_MARK_VALID n) && s.flag (F.FIFO_CTRL_SOFT_MARK n)
        && decide (32768 < ptrDist w (s.get (F.FIFO_LEVEL_MARK n)) + len)
      let s := s.modFifo n (fun f =>
        { f with mem := fifoStore f.mem w ws, flips := unflip f.flips w len, droppedBefore := 0 })
      let s := s.put (F.FIFO_PTR_WPTR n) ((w + len) % 65536)
      let s := if lost then
          ((s.putB (F.FIFO_STAT_MARK_VALID n) false).putB (F.FIFO_STAT_MARK_LOST n) true).raise (pgFIFO n) 4
        else s
      s.fifoShow n

/-- Bits of stored words turn over: those of a word add up with what stood wrong there. -/
def State.fifoUpset (s : State) (n : Ch) (x : Nat × BitVec 39) : State :=
  let a := x.1 % 32768
  s.modFifo n (fun f =>
    let old : BitVec 39 := match f.flips.find? (fun y => y.1 == a) with | some y => y.2 | none => 0
    let rest := f.flips.filter (fun y => y.1 != a)
    { f with flips := if old ^^^ x.2 = 0 then rest else rest ++ [(a, old ^^^ x.2)] })

/-- FIFO_COMMIT (R132). -/
def execFifoCommit (c : FifoCommitIn) (s : State) : Host.Outcome State Fault Refusal :=
  happen ((c.flips.foldl (fun t x => t.fifoUpset c.ch x) s).fifoCommit c.ch)

/-! ## Reading (R134, R135) -/

/-- The flush itself (R139). -/
def State.fifoFlushed (s : State) (n : Ch) : State :=
  let s := (s.put (F.FIFO_PTR_RPTR n) (s.wptr n)).putB (F.FIFO_STAT_MARK_VALID n) false
  ((s.putB (F.FIFO_STAT_FLUSH_PEND n) false).modFifo n (fun f => { f with headLeft := 0, headLen := 0 })).fifoShow n

/-- One read of FIFO.DATA. The word passes SECDED (R141); the module's own walk over the frames takes them as written. -/
def State.readFifo (s : State) (n : Ch) : State × Word :=
  let f := (s.ch n).fifo
  let r := s.rptr n
  if r = s.wptr n then ((s.putB (F.FIFO_STAT_UNDERRUN n) true).raise (pgFIFO n) 2, f.lastWord)
  else
    let w := flipped (f.flipAt r) (s.fifoWord n r)
    let len := if f.headLeft = 0 then s.lenAt n r else f.headLen
    let left := (if f.headLeft = 0 then len else f.headLeft) - 1
    let s := ((s.eccRead n r).put (F.FIFO_PTR_RPTR n) ((r + 1) % 65536)).modFifo n (fun f =>
      { f with headLen := len, headLeft := left, lastWord := w })
    (if left = 0 ∧ s.flag (F.FIFO_STAT_FLUSH_PEND n) then s.fifoFlushed n else s.fifoShow n, w)

def execFifoDataRead (src : Src) (n : Ch) (s : State) : Host.Outcome State Fault Refusal :=
  s.readAs src (pgFIFO n) (fun t => (.ok, t.readFifo n))

/-! ## FIFO.CMD (R137 to R140) -/

def State.doMark (s : State) (n : Ch) : Res :=
  if (s.ch n).fifo.headLeft ≠ 0 then refuse .state s
  else (.ok, ((s.put (F.FIFO_LEVEL_MARK n) (s.rptr n)).putB (F.FIFO_STAT_MARK_VALID n) true).putB (F.FIFO_STAT_MARK_LOST n) false)

def State.doRewind (s : State) (n : Ch) : Res :=
  if !s.flag (F.FIFO_STAT_MARK_VALID n) || s.flag (F.FIFO_STAT_MARK_LOST n) || s.flag (F.FIFO_STAT_FLUSH_PEND n) then
    refuse .state s
  else (.ok, ((s.put (F.FIFO_PTR_RPTR n) (s.get (F.FIFO_LEVEL_MARK n))).modFifo n (fun f =>
    { f with headLeft := 0, headLen := 0 })).fifoShow n)

def State.doFlush (s : State) (n : Ch) : Res :=
  (.ok, if (s.ch n).fifo.headLeft = 0 then s.fifoFlushed n else s.putB (F.FIFO_STAT_FLUSH_PEND n) true)

def State.doClrmark (s : State) (n : Ch) : Res := (.ok, s.putB (F.FIFO_STAT_MARK_VALID n) false)

/-- A write of FIFO.CMD (Table 7.4, R140). -/
def State.doFifoCmd (s : State) (n : Ch) (v : Word) : Res :=
  match bitsOf v 3 0 with
  | 0 => (.ok, s)
  | 1 => s.doMark n
  | 2 => s.doRewind n
  | 4 => s.doFlush n
  | 8 => s.doClrmark n
  | _ => refuse .range s

def execMark (src : Src) (n : Ch) (s : State) : Host.Outcome State Fault Refusal :=
  answer (s.gated src (pgFIFO n) 0x024 1 (fun t => t.doFifoCmd n 1))
def execRewind (src : Src) (n : Ch) (s : State) : Host.Outcome State Fault Refusal :=
  answer (s.gated src (pgFIFO n) 0x024 2 (fun t => t.doFifoCmd n 2))
def execFlush (src : Src) (n : Ch) (s : State) : Host.Outcome State Fault Refusal :=
  answer (s.gated src (pgFIFO n) 0x024 4 (fun t => t.doFifoCmd n 4))
def execClrmark (src : Src) (n : Ch) (s : State) : Host.Outcome State Fault Refusal :=
  answer (s.gated src (pgFIFO n) 0x024 8 (fun t => t.doFifoCmd n 8))

/-- A soft reset of FIFO, and BOOT (R142). It counts as a reset for R135 too: an empty read then returns 0 (DESIGN
CHOICE, log entry 35: R142 does not name the word last returned). -/
def State.fifoReset (s : State) (n : Ch) : State :=
  let s := s.modFifo n (fun _ => FifoS.reset)
  [R.FIFO_STAT n, R.FIFO_PTR n, R.FIFO_LEVEL n, R.FIFO_ECC n, R.FIFO_CNT n].foldl (fun t a => t.setReg a 0) s

end Sys2Proof.Machine
end

