-- ==== Sys2Proof/Machine/Snap.lean ====
section
/-! DEFINITION. Snapshots (R20 to R26), and reads of the data windows and of RO-S registers (R129, R390, R391). -/

namespace Sys2Proof.Machine
open Sys2Proof

/-! ## Freeze -/

/-- The selected channel has data: its Pour runs and has delivered (R22). -/
def State.hasData (s : State) (n : Ch) : Bool :=
  let p := (s.ch n).pour
  p.on && s.ringRuns n && p.deliv.valid

/-- The buffer of a channel that holds an epoch: the newest delivered one or the one before it. -/
def State.bufOf (s : State) (n : Ch) (e : Nat) : Option EpochBuf :=
  let p := (s.ch n).pour
  if p.deliv.valid ∧ p.deliv.epoch = e then some p.deliv
  else if p.prev.valid ∧ p.prev.epoch = e then some p.prev else none

/-- The newest epoch that every one of the channels has finished delivering (R21): of the two that the first channel
holds, the newer that all hold. When none is common, the oldest of their newest epochs: a channel that does not hold it
has no data of the frozen epoch. -/
def State.snapEpoch (s : State) (l : List Ch) : Nat :=
  let held : List Nat := match l with
    | [] => []
    | n :: _ => ([(s.ch n).pour.deliv, (s.ch n).pour.prev].filter (·.valid)).map (·.epoch)
  match held.find? (fun e => l.all (fun n => (s.bufOf n e).isSome)) with
  | some e => e
  | none =>
    let e0 := l.foldl (fun (a : Option Nat) n =>
      let e := (s.ch n).pour.deliv.epoch
      match a with | none => some e | some x => if sdiff 48 e x < 0 then some e else some x) none
    e0.getD 0

/-- The newest impedance result whose stamp is not newer than an epoch (R129); none is the region before any block. -/
def ImpS.resAt (p : ImpS) (e : Nat) : ImpRes :=
  ((p.res :: p.prev).find? (fun r => decide (sdiff 48 r.endEpoch e ≤ 0))).getD ImpRes.none

/-- The newest aggregates are not newer than an epoch. -/
def State.aggAt (s : State) (n : Ch) (e : Nat) : Bool := decide (sdiff 48 (s.ch n).est.pub.aggEpoch e ≤ 0)

/-- The RO-S registers that a snapshot of epoch e shows for a channel (R390); a channel without data of e keeps those of
the freeze. -/
def State.frozenRegs (s : State) (n : Ch) (e : Nat) : List (Nat × Word) :=
  let p := (s.ch n).pour
  let est := (s.ch n).est
  let old := p.deliv.epoch != e && (s.bufOf n e).isSome
  let pourRegs := if old then p.prevRegs else (rosRegs n).map (fun a => (a, s.reg a))
  let agg := s.aggAt n e
  pourRegs ++ [(R.EST_STAT n, if agg then s.reg (R.EST_STAT n) else est.prevStat),
    (R.PAGE_SEQ (pgEST n), if agg then s.reg (R.PAGE_SEQ (pgEST n)) else mget est.prevWin 0x11000),
    (R.PAGE_SEQ (pgIMP n), BitVec.ofNat 32 ((s.ch n).imp.resAt e).endEpoch)]

/-- A channel's window at the freeze of epoch e (R22, R129); without data of e its Pour regions read ABSENT. -/
def State.freezeCh (s : State) (n : Ch) (e : Nat) (data : Bool) : State :=
  let win := if s.aggAt n e then s.estWin n else (s.ch n).est.prevWin
  let s := s.modPour n (fun p =>
    { p with frozen := if data then (s.bufOf n e).getD EpochBuf.empty else EpochBuf.empty })
  (s.modEst n (fun x => { x with frozenWin := win })).modImp n (fun p => { p with frozen := p.resAt e })

/-- SNAP.STAT.PARTIAL of the frozen channels. -/
def State.snapPartial (s : State) (data : List Ch) : Nat :=
  data.foldl (fun a n => if (s.ch n).pour.frozen.part then a + 2 ^ n.val else a) 0

/-- A mask of channels. -/
def chMask (l : List Ch) : Nat := l.foldl (fun a n => a + 2 ^ n.val) 0

/-- The highest channel of a selection, and the address SNAP.LAST_ADDR names for it (R391). -/
def lastAddr (sel : List Ch) : Nat := 0x11FFFC + (sel.foldl (fun a n => max a n.val) 0) * 0x20000

/-- The registers of a freeze (Tables 1.4 to 1.6, 1.8). -/
def State.snapShow (s : State) (sel data : List Ch) (e : Nat) : State :=
  let hold := data.any (fun n => (s.ch n).pour.frozen.holdover)
  let grade := data.foldl (fun a n => max a (s.ch n).pour.frozen.grade) 0
  let nodata := chMask (sel.filter (fun n => !data.contains n))
  let s := s.setReg R.SNAP_STAT (BitVec.ofNat 32 (2 ^ 31 + b2n hold * 2 ^ 29 + grade % 4 * 2 ^ 27
    + s.snapPartial data * 65536 + nodata * 256 + chMask sel))
  let s := (s.setReg R.SNAP_EPOCH (BitVec.ofNat 32 e)).setReg R.SNAP_EPOCH_HI (BitVec.ofNat 32 (e / 2 ^ 32 % 65536))
  s.setReg R.SNAP_LAST_ADDR (BitVec.ofNat 32 (lastAddr sel))

/-- Freeze anew for a session (R21 to R23, R25). -/
def State.snapFreeze (s : State) (sid : Nat) (sel : List Ch) : State :=
  let some_ := sel.filter (fun n => s.hasData n)
  let e := s.snapEpoch some_
  let data := some_.filter (fun n => (s.bufOf n e).isSome)
  if data = [] then
    let s := { s with snap := none }
    let s := s.setReg R.SNAP_STAT (BitVec.ofNat 32 (3 * 2 ^ 27 + chMask sel * 256 + chMask sel))
    ((s.setReg R.SNAP_EPOCH 0).setReg R.SNAP_EPOCH_HI 0).setReg R.SNAP_LAST_ADDR 0
  else
    let regs := sel.flatMap (fun n => s.frozenRegs n e)
    let s := sel.foldl (fun t n => t.freezeCh n e (data.contains n)) s
    { (s.snapShow sel data e) with snap := some ⟨sid, s.tb, s.get F.SNAP_TIMEOUT_MS, regs⟩ }

/-! ## Release (R24) -/

/-- A release; in a way other than the owner's read or write it sets EXPIRED, a source of SNAP (Table 3.10). -/
def State.snapRelease (s : State) (expired : Bool) : State :=
  if s.snap.isNone then s
  else
    let s := { (s.putB F.SNAP_STAT_HELD false) with snap := none }
    if expired then s.setRaise F.SNAP_STAT_EXPIRED pgSNAP 2 else s

/-- The session owns the held snapshot. -/
def State.ownsSnap (s : State) (src : Src) : Bool :=
  match s.snap, src with
  | some h, .session i => h.owner == i
  | _, _ => false

/-- A write of SNAP.REQ (R21, R25, R26). -/
def State.doSnapReq (s : State) (src : Src) (v : Word) (join : Bool) : Res :=
  match src with
  | .session i =>
    if s.snap.isSome && !s.ownsSnap src then (.owner, if join then s.collide pgSNAP else s)
    else
      let m := if bitsOf v 7 0 = 0 then 0xFF else bitsOf v 7 0
      (.ok, s.snapFreeze i (allCh.filter (fun n => m.testBit n.val)))
  | _ => refuse .access s

def execSnapReq (src : Src) (v : Word) (join : Bool) (s : State) : Host.Outcome State Fault Refusal :=
  answer (s.gated src pgSNAP 0x020 v (fun t => t.doSnapReq src v join))

/-- A write of SNAP.END (R25, Table 1.3). -/
def State.doSnapEnd (s : State) (src : Src) : Res :=
  if s.snap.isNone then (.ok, s) else if s.ownsSnap src then (.ok, s.snapRelease false) else refuse .owner s

def execSnapEnd (src : Src) (v : Word) (s : State) : Host.Outcome State Fault Refusal :=
  answer (s.gated src pgSNAP 0x024 v (fun t => t.doSnapEnd src))

/-- SNAP_TIMEOUT (R24): the hold limit has passed since the freeze. -/
def execSnapTimeout (s : State) : Host.Outcome State Fault Refusal :=
  happen (
    match s.snap with
    | some h => if s.passedMs h.at_ h.limit then s.snapRelease true else s
    | none => s)

/-! ## Data windows (R129, R391) -/

/-- The held snapshot covers a channel. -/
def State.frozenCh (s : State) (n : Ch) : Bool := s.snap.isSome && s.getBit F.SNAP_STAT_SEL n.val

/-- The word of a channel's window: frozen while a snapshot covers it; ABSENT while its Pour does not run (R22). -/
def State.winWord (s : State) (n : Ch) (off : Nat) : Word :=
  let frozen := s.frozenCh n
  let c := s.ch n
  let buf := if frozen then c.pour.frozen else if s.hasData n then c.pour.deliv else EpochBuf.empty
  if off < 0x11000 ∨ off = 0x1FFFC then buf.word off
  else if off < 0x18000 then (if frozen then mget c.est.frozenWin off else s.estWord n off)
  else if off < 0x1E000 then
    impWord (if frozen then c.imp.frozen else c.imp.res) (s.get (F.IMP_CTRL_HALF n)) off
  else 0

/-- A read of a window word; the owner's read of SNAP.LAST_ADDR releases the snapshot (R24). -/
def State.readWin (s : State) (src : Src) (n : Ch) (off : Nat) : State × Word :=
  let w := s.winWord n off
  if s.ownsSnap src && chBase n + off == s.get F.SNAP_LAST_ADDR_ADDR then (s.snapRelease false, w) else (s, w)

/-- SNAP_LAST_READ: the session reads the word at SNAP.LAST_ADDR. -/
def execSnapLastRead (src : Src) (s : State) : Host.Outcome State Fault Refusal :=
  let a := s.get F.SNAP_LAST_ADDR_ADDR
  match locate a with
  | .window n off => s.readAs src (pgCH n) (fun t => (.ok, t.readWin src n off))
  | _ => answer (.noaddr, s)

/-- The bits of the register at an address that a snapshot freezes (R9). -/
def rosMask (a : Nat) : Word :=
  match locate a with
  | .page pg off => match findReg pg.page off with | some (d, _) => maskOf d (fun x => x == .ros) | none => 0
  | _ => 0

/-- The word of a register as a snapshot shows it: RO-S fields are frozen, the others read their present value (R9,
R390). -/
def State.shownReg (s : State) (a : Nat) : Word :=
  match s.snap with
  | some h => match h.regs.find? (fun p => p.1 == a) with
    | some p => (p.2 &&& rosMask a) ||| (s.reg a &&& ~~~rosMask a)
    | none => s.reg a
  | none => s.reg a

end Sys2Proof.Machine
end

