-- ==== Sys2Proof/Machine/Evt.lean ====
section
/-! DEFINITION. The event recorder's registers, reading, flushing, clearing and persistence (R344 to R354); `record`
itself is in Ops.lean. -/

namespace Sys2Proof.Machine
open Sys2Proof

def State.modEvt (s : State) (f : EvtS → EvtS) : State := { s with evt := f s.evt }

/-! ## Records as words (Table 19.1) -/

/-- Words 0 to 7 of a record, word 3 without its CRC-8. -/
def EventRec.words0 (r : EventRec) : List Word :=
  [r.seq, BitVec.ofNat 32 (r.code % 65536 * 65536 + r.chan % 16 * 4096 + r.sev % 16 * 256 + r.optime / 2 ^ 32 % 256),
    BitVec.ofNat 32 r.optime, BitVec.ofNat 32 (r.pcc % 2 ^ 24 * 256), r.p0, r.p1, r.p2, r.epoch]

/-- The record's CRC-8, over its bytes 0 to 14 and 16 to 31. -/
def EventRec.crc (r : EventRec) : Byte :=
  let b := r.words0.flatMap wordBytes
  crc8 (b.take 15 ++ b.drop 16)

/-- Word k of a record. -/
def EventRec.word (r : EventRec) (k : Nat) : Word :=
  let w := r.words0.getD k 0
  if k = 3 then w ||| r.crc.setWidth 32 else w

/-! ## Cursors (R351) -/

/-- The cursor of a reader; a unit of the module has none. -/
def State.cursorOf (s : State) (src : Src) : Word :=
  match src with
  | .session _ => match s.identOf src with
    | some i => match s.idents.find? (fun x => x.ident == i) with | some x => x.cursor | none => s.evt.first
    | none => s.evt.first
  | .perc n _ => (s.ch n).perc.cursor
  | .unit => s.evt.first

def State.setCursor (s : State) (src : Src) (q : Word) : State :=
  match src with
  | .session _ => match s.identOf src with
    | some i => { s with idents := s.idents.map (fun x => if x.ident = i then { x with cursor := q } else x) }
    | none => s
  | .perc n _ => s.modPerc n (fun p => { p with cursor := q })
  | .unit => s

/-- The record at a reader's cursor. -/
def State.atCursor (s : State) (src : Src) : Option EventRec :=
  (s.evt.stored ++ s.evt.staged).find? (fun r => r.seq == s.cursorOf src)

/-- A read of EVT.WINk. -/
def State.readEvtWin (s : State) (src : Src) (k : Nat) : State × Word :=
  match s.atCursor src with
  | some r => (if k = 7 then s.setCursor src (nextSeqOf r.seq) else s, r.word k)
  | none => (s, 0)

/-- EVT_WIN7_READ (R351). -/
def execEvtWin7Read (src : Src) (s : State) : Host.Outcome State Fault Refusal :=
  s.readAs src pgEVT (fun t => (.ok, t.readEvtWin src 7))

/-- The registers of EVT that follow the recorder (Tables 19.4 to 19.8, 19.10, 19.11). -/
def State.evtReg (s : State) (src : Src) (off : Nat) : Word :=
  let e := s.evt
  match off with
  | 0x020 => BitVec.ofNat 32 (b2n (decide (evtCap ≤ e.count)) * 2 ^ 31 + e.staged.length * 2 ^ 18 + e.count)
  | 0x024 => e.first
  | 0x028 => e.nextSeq
  | 0x02C => BitVec.ofNat 32 e.dropped
  | 0x030 => s.cursorOf src
  | 0x038 => BitVec.ofNat 32 (e.opNow s.tb)
  | 0x03C => BitVec.ofNat 32 (e.pcc % 2 ^ 24 * 256 + e.opNow s.tb / 2 ^ 32 % 256)
  | _ => 0

/-! ## Flush, clear, persist (R349, R353, R346) -/

/-- Staged records go to MRAM while VHOLD lets a write start (R61). -/
def State.evtFlush (s : State) : State := if s.sup.vholdOk then s.modEvt EvtS.flush else s

/-- EVENT_FLUSH (R349). -/
def execEventFlush (s : State) : Host.Outcome State Fault Refusal := happen s.evtFlush

/-- The clear of R353. -/
def State.evtClear (s : State) : State :=
  let e := s.evt
  let s := s.modEvt (fun e => { e with stored := [], staged := [], first := e.nextSeq, nextSaved := e.nextSeq, dropped := 0 })
  s.log 0x0940 0xF 2 e.first (BitVec.ofNat 32 e.count) (BitVec.ofNat 32 e.dropped)

/-- A write of EVT.CMD (Table 19.9). -/
def State.doEvtCmd (s : State) (src : Src) (v : Word) : Res :=
  if bit v 0 && bit v 1 then refuse .range s
  else if bit v 0 then
    if !s.service src then refuse .priv s
    else if s.sup.holdupAt.isSome then refuse .state s
    else (.ok, s.evtClear)
  else if bit v 1 then (.ok, s.evtFlush)
  else (.ok, s)

def execEvtFlush (src : Src) (s : State) : Host.Outcome State Fault Refusal :=
  answer (s.gated src pgEVT 0x034 2 (fun t => t.doEvtCmd src 2))
def execClear (src : Src) (s : State) : Host.Outcome State Fault Refusal :=
  answer (s.gated src pgEVT 0x034 1 (fun t => t.doEvtCmd src 1))

/-- The operating time is persisted. -/
def State.optimeSave (s : State) : State := s.modEvt (fun e => { e with optimeSaved := e.opNow s.tb })

/-- OPTIME_PERSIST (R346): 60 s after the last time. -/
def execOptimePersist (s : State) : Host.Outcome State Fault Refusal :=
  happen (if s.sup.vholdOk ∧ s.evt.optimeSaved + 60000 ≤ s.evt.opNow s.tb then s.optimeSave else s)

/-- The end of a run: a flush, and the clean mark when nothing stays staged (R345). -/
def State.evtRunEnd (s : State) : State :=
  let s := s.evtFlush
  if s.evt.staged = [] then s.modEvt (fun e => { e with clean := true }) else s

/-- BOOT (R345, R346, R351): the numbers skipped, what a lost staging buffer leaves, the Percolators' cursors. The
answer is the count skipped. -/
def State.evtBoot (s : State) : State × Nat :=
  let e := s.evt
  let top := match e.stored.getLast? with | some r => r.seq | none => e.nextSaved - 1
  let jump := top + 1 + 1024
  let next := if e.clean then e.nextSeq else if jump < top + 1 ∨ jump = 0 ∨ top + 1 = 0 then jump + 1 else jump
  let s := s.modEvt (fun e => { e with staged := [], nextSeq := next, nextSaved := next, optime := e.optimeSaved, opBase := s.tb, defer := [] })
  (s.eachCh (fun t n => t.modPerc n (fun p => { p with cursor := e.first })), if e.clean then 0 else 1024)

end Sys2Proof.Machine
end

