-- ==== Sys2Proof/Machine/Pmc.lean ====
section
/-! DEFINITION. Performance counters and precise sampling (R355 to R363). A PMC page is named by its PageRef; PMCS is
the supervisor's. -/

namespace Sys2Proof.Machine
open Sys2Proof

/-- The counters of a page. -/
def State.pmcOf (s : State) (pg : PageRef) : PmcS := if pg.page = .pmcs then s.pmcs else (s.ch pg.ch).pmc
def State.modPmc (s : State) (pg : PageRef) (f : PmcS → PmcS) : State :=
  if pg.page = .pmcs then { s with pmcs := f s.pmcs } else s.modCh pg.ch (fun c => { c with pmc := f c.pmc })

def isPmc (pg : PageRef) : Bool := pg.page == .pmcs || pg.page == .pmc

/-- A counter by core and number. -/
def PmcS.get (p : PmcS) (c k : Nat) : Pmc := p.ctr.getD (6 * c + k) ⟨0, 0, 0⟩
def State.modCtr (s : State) (pg : PageRef) (c k : Nat) (f : Pmc → Pmc) : State :=
  s.modPmc pg (fun p => { p with ctr := setAt ⟨0, 0, 0⟩ p.ctr (6 * c + k) (f (p.get c k)) })

/-- PMC.EVSELck and the fields of a PMC page. -/
def pmcEvsel (pg : PageRef) (c k : Nat) : RF := ⟨hdr pg (0x040 + 0x60 * c + 4 * k), 7, 0⟩
def pmcField (pg : PageRef) (off hi lo : Nat) : RF := ⟨hdr pg off, hi, lo⟩

/-- The event numbers of a core class (Table 20.1, R356). -/
def evselOk (pg : PageRef) (c v : Nat) : Bool :=
  v ≤ 6 || (0x10 ≤ v && v ≤ 0x15) || (pg.page == .pmc && c == 0 && (v == 7 || v == 8))
    || (pg.page == .pmc && c == 1 && (v == 0x20 || v == 0x21))

/-- Who may read a PMC page: user code only while its USER_EN is 1 (R362). -/
def State.pmcReadable (s : State) (src : Src) (pg : PageRef) : Status :=
  match src with
  | .perc _ _ => if isPmc pg && !s.flag (pmcField pg 0x020 9 9) then .access else .ok
  | _ => .ok

/-- How often an event happened in a core's run: SLOTS is the sum of its four classes (R357, Table 20.1). -/
def eventCount (r : IssueSlots) (others : List (Nat × Nat)) (ev : Nat) : Nat :=
  match ev with
  | 0 => 0
  | 1 => r.retired + r.wasted + r.front + r.back
  | 2 => r.retired
  | 3 => r.wasted
  | 4 => r.front
  | 5 => r.back
  | e => ((others.find? (fun x => x.1 == e)).map (·.2)).getD 0

/-- A counter counts; a wrap sets its OVF bit (R360). -/
def State.ctrAdd (s : State) (pg : PageRef) (c k events : Nat) : State :=
  if events = 0 then s
  else
    let v := ((s.pmcOf pg).get c k).val + events
    let s := s.modCtr pg c k (fun x => { x with val := v % 2 ^ 48 })
    if v < 2 ^ 48 then s
    else (s.putB (pmcField pg 0x024 (8 * c + k) (8 * c + k)) true).raise pg 2

/-- OVF (R355, R357, R360): a core has run for an interval; each of its counters adds the events that its EVSEL names. -/
def execOvf (pg : PageRef) (c : Fin 2) (slots : IssueSlots) (others : List (Nat × Nat)) (s : State) :
    Host.Outcome State Fault Refusal :=
  happen (
    if !isPmc pg ∨ !s.enabled pg ∨ !s.flag (pmcField pg 0x020 c.val c.val) then s
    else (List.range 6).foldl (fun t k => t.ctrAdd pg c.val k (eventCount slots others (s.get (pmcEvsel pg c.val k)))) s)

/-- A read of CNTLck (R358): the high half is latched. -/
def State.readCntl (s : State) (pg : PageRef) (c k : Nat) : State × Word :=
  let v := ((s.pmcOf pg).get c k).val
  (s.modCtr pg c k (fun x => { x with latch := v / 2 ^ 32 }), BitVec.ofNat 32 v)

/-- A read of CNTHck. -/
def State.readCnth (s : State) (pg : PageRef) (c k : Nat) : Word := BitVec.ofNat 32 ((s.pmcOf pg).get c k).latch

/-- Writes of CNTHck and CNTLck (R359). -/
def State.doCnth (s : State) (pg : PageRef) (c k : Nat) (v : Word) : Res :=
  (.ok, s.modCtr pg c k (fun x => { x with stagedHi := bitsOf v 15 0 }))
def State.doCntl (s : State) (pg : PageRef) (c k : Nat) (v : Word) : Res :=
  (.ok, s.modCtr pg c k (fun x => { x with val := x.stagedHi % 65536 * 2 ^ 32 + v.toNat }))

/-- A read of a PMC page as a command, behind R362. -/
def State.pmcReadAs (s : State) (src : Src) (pg : PageRef) (f : State → State × Word) : Host.Outcome State Fault Refusal :=
  if !isPmc pg then answer (.noaddr, s)
  else match s.pmcReadable src pg with
    | .ok => s.readAs src pg (fun t => (.ok, f t))
    | st => answer (st, s)

def execPmcCntlRead (src : Src) (pg : PageRef) (c : Fin 2) (k : Fin 6) (s : State) : Host.Outcome State Fault Refusal :=
  s.pmcReadAs src pg (fun t => t.readCntl pg c.val k.val)

/-- Offset of CNTLck. -/
def cntlOff (c k : Nat) : Nat := 0x058 + 0x60 * c + 8 * k

def execPmcCntlWrite (src : Src) (pg : PageRef) (c : Fin 2) (k : Fin 6) (v : Word) (s : State) :
    Host.Outcome State Fault Refusal :=
  answer (if !isPmc pg then refuse .noaddr s
    else s.gated src pg (cntlOff c.val k.val) v (fun t => t.doCntl pg c.val k.val v))

/-! ## Precise sampling (R361) -/

/-- PS_STAT follows the buffer. -/
def State.psShow (s : State) (pg : PageRef) : State :=
  let n := (s.pmcOf pg).ps.length
  s.setReg (hdr pg 0x02C) (BitVec.ofNat 32 (b2n (decide (64 ≤ n)) * 2 ^ 31 + n))

/-- PS_SAMPLE: a sampled instruction is recorded. -/
def execPsSample (pg : PageRef) (e : PsEntry) (s : State) : Host.Outcome State Fault Refusal :=
  happen (
    if !isPmc pg ∨ !s.enabled pg ∨ !s.flag (pmcField pg 0x028 30 30) ∨ 64 ≤ (s.pmcOf pg).ps.length then s
    else
      let s := (s.modPmc pg (fun p => { p with
        ps := p.ps ++ [[e.addr, e.enc, BitVec.ofNat 32 (min 0xFFFFFFFF e.lat), s.ep32]] })).psShow pg
      if (s.pmcOf pg).ps.length = 64 then s.raise pg 3 else s)

/-- A read of PS_DATA. -/
def State.readPs (s : State) (pg : PageRef) : State × Word :=
  let p := s.pmcOf pg
  match p.ps with
  | [] => (s, 0)
  | e :: t =>
    let w := e.getD p.psWord 0
    if 3 ≤ p.psWord then ((s.modPmc pg (fun q => { q with ps := t, psWord := 0 })).psShow pg, w)
    else (s.modPmc pg (fun q => { q with psWord := q.psWord + 1 }), w)

def execPsDataRead (src : Src) (pg : PageRef) (s : State) : Host.Outcome State Fault Refusal :=
  s.pmcReadAs src pg (fun t => t.readPs pg)

/-- A write of PS_CTRL (Table 20.5). -/
def State.doPsCtrl (s : State) (pg : PageRef) (v : Word) : Res :=
  if bitsOf v 15 0 = 0 then refuse .range s
  else if s.flag (pmcField pg 0x028 30 30) && s.flag (pmcField pg 0x028 29 29) != bit v 29 then refuse .state s
  else
    let s := s.setReg (hdr pg 0x028) (v &&& 0x6000FFFF)
    (.ok, if bit v 31 then (s.modPmc pg (fun q => { q with ps := [], psWord := 0 })).psShow pg else s)

def execPsClear (src : Src) (pg : PageRef) (v : Word) (s : State) : Host.Outcome State Fault Refusal :=
  let w := v ||| 0x80000000
  answer (if !isPmc pg then refuse .noaddr s else s.gated src pg 0x028 w (fun t => t.doPsCtrl pg w))

/-- Counters and buffer after BOOT and after an accepted soft reset of the page (R355). -/
def State.pmcReset (s : State) (pg : PageRef) : State := (s.modPmc pg (fun _ => PmcS.reset)).psShow pg

end Sys2Proof.Machine
end

