-- ==== Sys2Proof/Machine/Conn.lean ====
section
/-! DEFINITION. Connectors (R35 to R37), the front panel (R39 to R43), the isolate sequence and the release of LOCKOUT
(R44 to R47). -/

namespace Sys2Proof.Machine
open Sys2Proof

def State.modSup (s : State) (f : SupS → SupS) : State := { s with sup := f s.sup }
def State.modUpd (s : State) (f : UpdS → UpdS) : State := { s with upd := f s.upd }
def State.modPanel (s : State) (f : PanelS → PanelS) : State := { s with panel := f s.panel }

/-- A session ends (R24, R65): its unlocks go with it, and a snapshot that it holds is released as expired. -/
def State.endSession (s : State) (sid : Nat) : State :=
  let s := if s.ownsSnap (.session sid) then s.snapRelease true else s
  { s with sessions := s.sessions.filter (fun x => x.sid != sid) }

/-- Every session of a port ends. -/
def State.endPort (s : State) (p : Port) : State :=
  ((s.sessions.filter (fun x => x.port == p)).map (·.sid)).foldl (fun t i => t.endSession i) s

/-! ## Connectors -/

/-- The presence bit of a connector in CH.CONN (Table 2.6). -/
def connIx : Conn → Nat
  | .ringA => 0 | .ringB => 1 | .ps => 2 | .io => 3

/-- Every connector present. -/
def State.allPlugged (s : State) (n : Ch) : Bool := bitsOf (s.reg (R.CH_CONN n)) 3 0 == 0xF

/-- The entry into LOCKOUT gives way to an unplug that counts in its round (R36): the channel stands as before the
entry, with its drives off. The entry's event and interrupt source stay as recorded (DESIGN CHOICE, log entry 86). -/
def State.lockUndo (s : State) (n : Ch) : State :=
  if s.chState n = stLOCKOUT ∧ (s.ch n).safe.lockAt = some s.tb then
    ((s.put (F.CH_STATE_STATE n) (s.get (F.CH_STATE_PREV n))).putBit F.PANEL_STAT_LOCKOUT n.val false).modSafe n
      (fun f => { f with lockAt := none })
  else s

/-- A qualified result of a detect loop (R35 to R37): the first one after BOOT only sets the presence bit; a change
raises CONN and records CONNECTOR; an unplug outside LOCKOUT trips first, one in the round of the entry into LOCKOUT
included (R36). -/
def State.connSet (s : State) (n : Ch) (i : Nat) (present : Bool) : State :=
  let f : RF := ⟨R.CH_CONN n, i, i⟩
  let u : RF := ⟨R.CH_CONN n, i + 4, i + 4⟩
  if !(s.ch n).qual.getLsbD i then
    ((s.bootShow 5).modCh n (fun c => { c with qual := c.qual ||| BitVec.ofNat 4 (2 ^ i) })).putB f present
  else if s.flag f = present then s
  else
    let s := s.putB f present
    let s := if present then s else s.lockUndo n
    if !present && s.chState n != stLOCKOUT then
      let s := ((s.tripC n 0x08).setRaise u (pgCH n) 3).raise (pgCH n) 4
      s.log 0x8141 n.val 3 (s.reg (R.CH_CONN n)) 0 0
    else (s.raise (pgCH n) 4).log 0x8141 n.val 0 (s.reg (R.CH_CONN n)) 0 0

/-- The port of the ring that the partner's detect loop speaks for: RING_B on the end-A module, RING_A on the end-B
module of a twin channel (R35, R89). -/
def State.remoteConn (s : State) (n : Ch) : Nat := if s.flag (F.RING_CTRL_END n) then 0 else 1

/-- DETECT_LOOP_QUALIFIED (R35): the loop of a capped port of a twin channel is not evaluated, and the result of its own
ring port goes to the partner (R89, Table 18.3). -/
def execDetectLoopQualified (n : Ch) (c : Conn) (present : Bool) (s : State) : Host.Outcome State Fault Refusal :=
  happen (
    if s.twinCh n && connIx c == s.remoteConn n then s
    else
      let s := if s.twinCh n && connIx c == 1 - s.remoteConn n then s.ringMsg n 3 [b2n present] else s
      s.connSet n (connIx c) present)

/-! ## Isolate sequence (R43, R45 to R47) -/

/-- A standby whose partner's channel is energised or stopping: the partner's current has still to be stopped. -/
def State.behindLive (s : State) (n : Ch) : Bool :=
  let w := (s.ch n).twin
  w.standby && [stPRECHARGE, stCONNECTED, stDERATED, stSTOPPING].contains w.pState

/-- A completed hold starts the sequence from the channel's present state (R45). At a standby's panel the sequence begins
with the stop of the owner's current: the standby enters STOPPING, which its heartbeat tells the owner (R44; DESIGN
CHOICE, log entry 86). -/
def State.isolateStart (s : State) (n : Ch) : State :=
  let st := s.chState n
  if st = stLOCKOUT ∨ (s.ch n).safe.isolating then s
  else
    let behind := st = stISOLATED ∧ s.behindLive n
    let late := ¬behind ∧ (st = stISOLATED ∨ st = stTRIPPED) ∨ (st = stSTOPPING ∧ (s.ch n).safe.holdOffAt.isSome)
    let s := s.modSafe n (fun f => { f with isolating := true, isoAt := s.tb, isoWait := decide late, stepAt := s.tb })
    if behind ∨ st = stPRECHARGE ∨ s.energised n then s.enterState n stSTOPPING 0x60 else s

/-- The channel that the panel shows. -/
def State.selected (s : State) : Option Ch :=
  if s.get F.PANEL_STAT_SELCH < 8 then some (Fin.ofNat 8 (s.get F.PANEL_STAT_SELCH)) else none

/-- The keys as PANEL.STAT shows them (Table 2.8): pressed from the completion of a hold to the next panel command, since
no command tells of the release (DESIGN CHOICE, log entry 87). -/
def State.keys (s : State) (ack iso : Bool) : State := (s.putB F.PANEL_STAT_ACK ack).putB F.PANEL_STAT_ISOLATE iso

/-- ISOLATE (R43, R45): a hold of 3 s has completed on the selected channel. A hold is taken as long as the selection
stands, also beyond the 10 s of the procedure under R47 (DESIGN CHOICE, log entry 86: R43 names no limit). -/
def execIsolate (s : State) : Host.Outcome State Fault Refusal :=
  let s := s.keys false true
  happen (match s.selected with | some n => (s.raise pgPANEL 4).isolateStart n | none => s)

/-- ISOLATE_ABANDON (R47): the channel is left unchanged. -/
def execIsolateAbandon (s : State) : Host.Outcome State Fault Refusal := happen (s.keys false false)

/-- ISOLATE_FEEDBACK_OPEN (R45 steps 3 to 6): once every feedback reports open. -/
def execIsolateFeedbackOpen (n : Ch) (s : State) : Host.Outcome State Fault Refusal := happen (s.isolateGo n)

/-- ISOLATE_FAIL (R46): 10 s after the hold completed. -/
def execIsolateFail (n : Ch) (s : State) : Host.Outcome State Fault Refusal :=
  let f := (s.ch n).safe
  happen (if f.isolating ∧ s.passedMs f.isoAt 10000 then s.tripC n 0x18 else s)

/-! ## Panel (R39 to R42) -/

/-- PAD_TOUCH (R39): one pad selects its channel; several select nothing. -/
def execPadTouch (pads : BitVec 8) (s : State) : Host.Outcome State Fault Refusal :=
  let s := (s.keys false false).put F.PANEL_STAT_PAD pads.toNat
  match allCh.filter (fun n => pads.getLsbD n.val) with
  | [] => happen s
  | [n] => happen ((s.put F.PANEL_STAT_SELCH n.val).modPanel (fun _ => ⟨.channel n, s.tb⟩))
  | _ => happen (s.modPanel (fun p => { p with touchAt := s.tb }))

/-- SELECTION_LAPSE (R39): 60 s after the last touch. -/
def execSelectionLapse (s : State) : Host.Outcome State Fault Refusal :=
  happen (
    if s.selected.isSome ∧ s.passedMs s.panel.touchAt 60000 then
      (s.put F.PANEL_STAT_SELCH 0xF).modPanel (fun p => { p with screen := .overview })
    else s)

/-- ACK (R41): every trip indication is acknowledged; no channel state changes. -/
def execAck (s : State) : Host.Outcome State Fault Refusal :=
  happen (((s.keys false false).eachCh (fun t n => t.modSafe n (fun f => { f with acked := f.acked || t.chState n == stTRIPPED }))).raise pgPANEL 3)

/-- A restricted instruction is in effect in some device (R378). -/
def State.restrictedNow (s : State) : Bool := s.upd.ir.any (fun b => [0x03, 0x04, 0x05, 0x20].contains b.toNat)

/-- A channel leaves LOCKOUT (R44, R369, R197): a channel on the old image reloads, the ring restarts, the coils are
energised. In HALT every channel is TRIPPED or in LOCKOUT, and the channel stays; in BOOT the end of the sequence turns
the drives on and releases the inhibit (Table 3.1; DEDUCED, log entry 86). Neither module of a pair claims a twin channel
by its release: both relay until a claim of R326 begins for another reason (DESIGN CHOICE, log entry 86: the spec does
not say which module claims it). -/
def State.lockoutEnd (s : State) (n : Ch) : State :=
  if s.mode = mHALT then s
  else if s.mode = mBOOT then s.enterState n stISOLATED 0
  else
    let s := ((s.drivesOn n).putB (F.CONT_STAT_INHIBIT n) false).putB (F.CONT_STAT_TRIP_ON n) true
    ((s.enterState n stISOLATED 0).ringStart n).coilsOn n

/-- LOCKOUT_RELEASE (R44, R42, R47, R378): the selected channel, with the key switch in SERVICE, every connector present
and no restricted instruction in effect; else the display names the absent connectors and the release is refused. -/
def execLockoutRelease (s : State) : Host.Outcome State Fault Refusal :=
  let s := s.keys true false
  happen (
    match s.selected with
    | none => s
    | some n =>
      if s.chState n ≠ stLOCKOUT ∨ !s.flag F.PANEL_STAT_KEYSW ∨ s.restrictedNow then s
      else if !s.allPlugged n then
        s.modPanel (fun p => { p with screen := .lockoutRefused n (BitVec.ofNat 4 (15 - bitsOf (s.reg (R.CH_CONN n)) 3 0)) })
      else s.lockoutEnd n)

/-! ## What the panel shows (R39, Table 2.7) -/

/-- Colours of Table 2.7. -/
inductive Colour where
  | white | green | amber | red | blue
  deriving DecidableEq, Repr

/-- A lamp that is lit: colour and flashes per second, 0 when steady. -/
structure Lamp where
  colour : Colour
  hz     : Nat
  deriving DecidableEq, Repr

/-- A channel's light bar, and whether its brightness alternates because the channel is selected (Table 2.7). -/
def State.lightBar (s : State) (n : Ch) : Lamp × Bool :=
  let bar : Lamp := match s.chState n with
    | 0 => ⟨.white, 0⟩
    | 1 => ⟨.green, 1⟩
    | 2 => ⟨.green, 0⟩
    | 3 => ⟨.amber, 0⟩
    | 4 => ⟨.amber, 1⟩
    | 5 => ⟨.red, if (s.ch n).safe.acked then 0 else 2⟩
    | _ => ⟨.blue, 0⟩
  (bar, s.selected == some n)

/-- The MODULE lamp; none is off (Table 2.7, R57). -/
def State.moduleLamp (s : State) : Option Lamp :=
  match s.mode with
  | 1 => some ⟨.white, 1⟩
  | 2 => some ⟨.white, 0⟩
  | 3 => some ⟨.green, 0⟩
  | 4 => some ⟨.amber, 0⟩
  | 5 => some ⟨.red, 0⟩
  | _ => none

/-- A channel's summary as the display shows it (R39): state, string voltage and current words, SoC, extremes of the cell
voltages (100 µV) and temperatures (0.01 °C) that have a value, active faults, connectors present. -/
structure Summary where
  state  : Nat
  vstr   : Word
  istr   : Word
  socMin : Nat
  socMean : Nat
  socMax : Nat
  cellMin : Option Nat
  cellMax : Option Nat
  tempMin : Option Int
  tempMax : Option Int
  /-- the trip's cause while TRIPPED, the degradation causes as codes of Table 14.5, and the axis fault of Table 10.2 -/
  trip   : Option Nat
  degraded : List Nat
  axis   : Nat
  conn   : BitVec 4
  deriving DecidableEq, Repr

/-- The extremes of a list. -/
def least {α : Type} (f : α → α → α) : List α → Option α
  | [] => none
  | a :: t => some (t.foldl f a)

/-- The summary of a channel (R39). -/
def State.summary (s : State) (n : Ch) : Summary :=
  let b := (s.ch n).pour.deliv
  let p := (s.ch n).est.pub
  let cells := (b.cellV.zip b.cellQ).filterMap (fun c => if c.2 = 4 ∨ c.1 = 0xFFFF then none else some c.1)
  let temps := (b.temp.zip b.tempQ).filterMap (fun c => if c.2 = 4 ∨ c.1 = 0x8000 then none else some (signed 16 c.1))
  { state := s.chState n, vstr := b.vstr, istr := b.istr, socMin := p.socMin, socMean := p.socMean, socMax := p.socMax
    cellMin := least min cells, cellMax := least max cells, tempMin := least min temps, tempMax := least max temps
    trip := if s.chState n = stTRIPPED then some (s.get (F.SAFE_TRIPREC_CAUSE n)) else none
    degraded := ([0, 1, 2, 3].filter (s.getBit (F.SAFE_DEG_STAT_CAUSES n))).map (0x40 + ·)
    axis := s.get (F.VAX_STAT_FAULT n), conn := BitVec.ofNat 4 (bitsOf (s.reg (R.CH_CONN n)) 3 0) }

/-- What the display shows: the summary of the selected channel, if one is shown (R39). -/
def State.display (s : State) : Screen × Option Summary :=
  (s.panel.screen, match s.panel.screen with | .channel n => some (s.summary n) | _ => none)

/-- The inactive slot (R366). -/
def State.inactive (s : State) : Slot := if s.flag F.UPD_STAT_ACTIVE then s.upd.slotA else s.upd.slotB
def State.setInactive (s : State) (x : Slot) : State :=
  s.modUpd (fun u => if s.flag F.UPD_STAT_ACTIVE then { u with slotA := x } else { u with slotB := x })

/-- UPD.VER shows the versions of the valid slots (Table 21.8). -/
def State.verShow (s : State) : State :=
  let v (x : Slot) : Nat := if x.valid then x.version else 0
  (s.put F.UPD_VER_VER_A (v s.upd.slotA)).put F.UPD_VER_VER_B (v s.upd.slotB)

/-- KEYSW (R42): turning to RUN ends the SERVICE sessions and discards a bundle under transfer. -/
def execKeysw (service : Bool) (s : State) : Host.Outcome State Fault Refusal :=
  happen (
    if s.flag F.PANEL_STAT_KEYSW = service then s
    else
      let s := (s.putB F.PANEL_STAT_KEYSW service).raise pgPANEL 2
      if service then s
      else
        let s := s.endPort .service
        if s.get F.UPD_STAT_STATE = 1 then ((s.setInactive Slot.empty).put F.UPD_STAT_STATE 0).verShow else s)

end Sys2Proof.Machine
end

