-- ==== Sys2Proof/Machine/Twin.lean ====
section
/-! DEFINITION. The twin pair (R323 to R343): claims, heartbeats, notices, the mirror, loss and takeover, the BRIDGE,
return and handover. -/

namespace Sys2Proof.Machine
open Sys2Proof

def State.modPair (s : State) (f : TwinS → TwinS) : State := { s with twin := f s.twin }

/-- A discarded message (R330, R331). -/
def State.twinBad (s : State) : State := s.incSat F.TWIN_CNT_BAD

/-- A channel that this module owns. -/
def State.owns (s : State) (n : Ch) : Bool := s.getBit F.TWIN_STAT_OWN n.val

/-- The partner drives a claim on some channel. -/
def State.partnerClaims (s : State) : Bool := allCh.any (fun n => s.twinCh n && (s.ch n).twin.claimIn)

/-- After BOOT, outside DECAF and HALT: the modes in which channels are carried. -/
def State.carries (s : State) : Bool := s.mode == mSTANDBY || s.mode == mRUN || s.mode == mLIMP

/-! ## Claims (R326) -/

/-- The claim on a channel ends; the module relays again. -/
def State.dropClaim (s : State) (n : Ch) : State :=
  let s := (s.modTwin n (fun w => { w with claimOut := false, held := false, toClaim := false, taking := false })).putBit
    F.TWIN_STAT_OWN n.val false
  ((s.putB (F.RING_STAT_MASTER_B n) false).putB (F.RING_STAT_RELAY n) true).pwmOff n

/-- OWNER_IN_CHANGE (R326): a rival claim in the first 500 µs of a SIDE 1 claim withdraws it; a claim of the partner
makes this module the standby (R329). -/
def execOwnerInChange (n : Ch) (claimed : Bool) (s : State) : Host.Outcome State Fault Refusal :=
  happen (
    if !s.twinCh n ∨ (s.ch n).twin.claimIn = claimed then s
    else
      let s := s.modTwin n (fun w => { w with claimIn := claimed, claimInAt := s.tb })
      if !claimed then s
      else
        let w := (s.ch n).twin
        let s := if w.claimOut ∧ !w.held then s.dropClaim n else s
        if (s.ch n).twin.claimOut ∨ !s.carries then s
        else s.modTwin n (fun w => { w with standby := true, pOwned := true, toClaim := false }))

/-- The Percolator of a survivor (R338 step 5): the mirrored mode with the mirrored retained data, or initial values
and an event when PROG_ID differs. -/
def State.percTake (s : State) (n : Ch) : State :=
  let w := (s.ch n).twin
  let same := s.reg (R.PERC_PROG_ID n) == w.mirrorProg
  let s := s.modPerc n (fun p => { p with retain :=
    (p.info.insts.filter (·.retained)).map (fun i =>
      (i.id, if same then ((w.mirrorRet.find? (fun x => x.1 == i.id)).map (·.2)).getD i.init else i.init)) })
  let s := if same then s else s.logReg (pgPERC n) 0x02C
  if w.full ∧ s.percMayRun n then
    if w.mirrorMode = 1 then s.percRun n
    else if w.mirrorMode = 2 then s.put (F.PERC_STAT_MODE n) 2
    else s
  else s

/-- CLAIM_START (R326, R338): 100 µs without a claim on OWNER_IN; none in LOCKOUT, which keeps OWNER_OUT off (R37). The
SIDE 0 module holds its claim at once. A survivor masters the ring as a SPLIT with an empty segment at its dead end
(R111); a new owner of a ring that does not run starts it. -/
def execClaimStart (n : Ch) (s : State) : Host.Outcome State Fault Refusal :=
  let w := (s.ch n).twin
  happen (
    if !s.twinCh n ∨ s.chState n = stLOCKOUT ∨ !w.toClaim ∨ w.claimIn ∨ w.claimOut ∨ s.tb - w.claimInAt < 100000 ∨ !s.carries then s
    else
      let s := (s.modTwin n (fun w => { w with
        claimOut := true, held := s.twin.side == 0, claimAt := s.tb, toClaim := false, standby := false
        pOwned := false })).putBit F.TWIN_STAT_OWN n.val true
      let s := (s.putB (F.RING_STAT_MASTER_B n) (s.flag (F.RING_CTRL_END n))).putB (F.RING_STAT_RELAY n) false
      let s := if !w.taking then s.putB (F.CONT_STAT_TRIP_ON n) (s.chState n != stTRIPPED && s.chState n != stLOCKOUT) else s
      if s.ringRuns n then
        if w.taking then
          (if s.flag (F.RING_CTRL_END n) then s.linkBreak n 0 1 else s.linkBreak n (s.tiles n) (s.tiles n + 1)).percTake n
        else s
      else (s.ringStart n).percTake n)

/-- CLAIM_WATCH_END (R326): 500 µs without a rival. -/
def execClaimWatchEnd (n : Ch) (s : State) : Host.Outcome State Fault Refusal :=
  let w := (s.ch n).twin
  happen (if w.claimOut ∧ 500000 ≤ s.tb - w.claimAt then s.modTwin n (fun w => { w with held := true }) else s)

/-- The claims at the end of BOOT (R328, R341). -/
def State.bootClaim (s : State) (n : Ch) : State :=
  if !s.twinCh n then s
  else if (s.ch n).twin.claimIn then s.modTwin n (fun w => { w with standby := true, pOwned := true })
  else
    let mine := s.getBit F.TWIN_CHCFG_PREF n.val
    let his := (s.ch n).twin.pPref
    let me := if mine = his then s.twin.side == 0 else mine
    s.modTwin n (fun w => { w with toClaim := !s.twin.everHb || me })

/-! ## Link and heartbeats (R330, R333, R334) -/

/-- TWIN.STAT.LINK changes (Table 18.11). -/
def State.setLink (s : State) (on : Bool) : State :=
  if s.flag F.TWIN_STAT_LINK = on then s else (s.putB F.TWIN_STAT_LINK on).raise pgTWIN 4

/-- TWIN.STAT.ALIGNED: the last 8 offsets all lie within ±50 ns (R334). -/
def State.alignShow (s : State) : State :=
  let l := s.twin.offs
  let on := l.length == 8 && l.all (fun o => decide (o.natAbs ≤ 50))
  if s.flag F.TWIN_STAT_ALIGNED = on then s else (s.putB F.TWIN_STAT_ALIGNED on).raise pgTWIN 6

/-- A channel's part of a HEARTBEAT that leaves: owner, CH.STATE, HOLD intent, BRIDGE, target, SDCLK round trips. -/
def State.hbChan (s : State) (n : Ch) : List Nat :=
  [b2n (s.owns n) + 2 * b2n (s.getBit F.TWIN_CHCFG_PREF n.val), s.chState n, s.get (F.CONT_STAT_HOLD_POS n) + 2 * s.get (F.CONT_STAT_HOLD_NEG n)
    + 4 * s.get (F.CONT_STAT_HOLD_PRE n), b2n (s.getBit F.TWIN_STAT_BRIDGE n.val), (s.reg (R.PROF_CUR_TARGET n)).toNat,
    (s.reg (R.POUR_SDRTT n)).toNat]

/-- HEARTBEAT_SEND (R330): in every epoch; a module in HALT for a time-base fault sends none (Table 14.7). -/
def execHeartbeatSend (s : State) : Host.Outcome State Fault Refusal :=
  happen (
    if !s.twinConf ∨ (s.mode = mHALT ∧ s.sup.haltCause = 4) then s
    else s.twinSend 1 ([s.mode, s.twin.side, b2n s.twin.ready, s.clock.tb, s.twin.lastHb] ++ allCh.flatMap s.hbChan))

/-- What the partner's heartbeat says of a channel: its role, and for a standby the HOLD intent (R329). A channel that
the partner's panel has isolated follows here, an owner's from the standby's STOPPING on, and so does a release (R44).
`iso`: the partner was not in BOOT before, so that a new LOCKOUT comes from its panel and not from R38, which concerns
its own connectors (DEDUCED, log entry 86). -/
def State.hbApply (s : State) (n : Ch) (h : HbChan) (iso : Bool) : State :=
  if !s.twinCh n then s
  else
    let was := (s.ch n).twin.pState
    let s := s.modTwin n (fun w => { w with
      pOwned := h.owner, pPref := h.pref, pState := h.state, pTarget := h.target
      pHold := BitVec.ofNat 3 (b2n h.holdPos + 2 * b2n h.holdNeg + 4 * b2n h.holdPre) })
    let st := s.chState n
    let s := if (s.ch n).twin.standby ∧ st ≠ stTRIPPED ∧ st ≠ stLOCKOUT ∧ !(s.ch n).safe.isoWait then
        s.hold n h.holdPos h.holdNeg h.holdPre else s
    if iso ∧ h.state = stLOCKOUT ∧ was ≠ stLOCKOUT then s.isolateStart n
    else if iso ∧ s.owns n ∧ !h.owner ∧ h.state = stSTOPPING ∧ was ≠ stSTOPPING then s.isolateStart n
    else if h.state ≠ stLOCKOUT ∧ was = stLOCKOUT ∧ st = stLOCKOUT ∧ s.allPlugged n ∧ !s.restrictedNow then s.lockoutEnd n
    else s

/-- The BRIDGE closes while the channel is ISOLATED and the partner reports HALT or DECAF (R336). -/
def State.bridgeDown (s : State) (n : Ch) : State :=
  if s.twinCh n ∧ s.chState n = stISOLATED ∧ s.partnerDown ∧ !s.flag (F.CONT_STAT_BRIDGE_ON n) then s.setBridge n true else s

/-- HEARTBEAT (R323, R329, R334, R335, R341). -/
def State.heartbeat (s : State) (m : HbMsg) : State :=
  if !m.ok then s.twinBad
  else
    let back := s.twin.everHb && !s.flag F.TWIN_STAT_LINK
    let iso := s.twin.everHb && s.get F.TWIN_STAT_PMODE != mBOOT
    let s := s.modPair (fun p => { p with
      lastHb := s.tb, missed := 0, everHb := true, pside := some m.side, offs := (p.offs ++ [m.offset]).drop (p.offs.length + 1 - 8) })
    let s := s.setLink true
    let s := if back then s.twinSend 5 [] else s
    let s := (s.put F.TWIN_STAT_PMODE m.mode).putB F.TWIN_STAT_CFG_ERR (s.twinConf && m.side == s.twin.side)
    let s := (s.setReg R.TWIN_OFFSET (intWord (clampI (-2147483647) 2147483647 m.offset))).alignShow
    let s := if m.ready && !s.flag F.TWIN_STAT_READY then
      (s.raise pgTWIN 5).eachCh (fun t n => if t.owns n ∧ t.flag (F.CONT_STAT_BRIDGE_ON n) then t.setBridge n false else t) else s
    let s := s.putB F.TWIN_STAT_READY m.ready
    let s := (List.zip allCh m.chans).foldl (fun t x => t.hbApply x.1 x.2 iso) s
    s.eachCh (fun t n => t.bridgeDown n)

def execHeartbeat (m : HbMsg) (s : State) : Host.Outcome State Fault Refusal := happen (s.heartbeat m)

/-- HEARTBEAT_MISSED (R333): none has arrived for an epoch. -/
def execHeartbeatMissed (s : State) : Host.Outcome State Fault Refusal :=
  happen (
    if s.twinConf ∧ s.twin.everHb ∧ 1000000 ≤ s.tb - max s.twin.lastHb s.twin.missAt then
      (s.modPair (fun p => { p with missed := p.missed + 1, missAt := s.tb })).incSat F.TWIN_CNT_MISSED
    else s)

/-- The link is down: no heartbeat in the last 3 epochs; what rests on it ends (Table 18.7, R334, R340), and SIDE 1
returns to its PTP discipline. -/
def State.linkDown (s : State) : State :=
  let s := (s.modPair (fun p => { p with offs := [] })).setLink false
  let s := if s.twin.side = 1 then { s with clock := { s.clock with firstOff := none, acted := false } } else s
  ((s.putB F.TWIN_STAT_READY false).alignShow).eachCh (fun t n =>
    let t := t.modTwin n (fun w => { w with segs := [] })
    if t.flag (F.CONT_STAT_BRIDGE_ON n) then t.setBridge n false else t)

/-- LINK (R340): three heartbeats missed while the partner keeps its claims: no loss, no takeover; mirroring stops and
bridging is disabled. -/
def execLink (s : State) : Host.Outcome State Fault Refusal :=
  happen (
    if s.flag F.TWIN_STAT_LINK ∧ 3 ≤ s.twin.missed ∧ s.partnerClaims then (s.linkDown).logReg pgTWIN 0x028 else s)

/-! ## Notices (R331, R370) -/

/-- NOTICE_TRIP (R329, R336): the owner's channel trips with the cause carried. -/
def execNoticeTrip (ch cause path : Nat) (s : State) : Host.Outcome State Fault Refusal :=
  happen (
    if 7 < ch then s.twinBad
    else
      let n : Ch := Fin.ofNat 8 ch
      if !s.twinCh n then s
      else
        let s := s.modTwin n (fun w => { w with pTripAt := some s.tb })
        if s.owns n then s.trip n cause path 0 else s)

/-- NOTICE_RELEASE (R342): the partner's claim ends, and this module may claim the channel. -/
def execNoticeRelease (ch : Nat) (s : State) : Host.Outcome State Fault Refusal :=
  happen (
    if 7 < ch then s.twinBad
    else
      let n : Ch := Fin.ofNat 8 ch
      if !s.twinCh n then s
      else s.modTwin n (fun w => { w with releaseAt := some s.tb, pOwned := false, toClaim := true }))

/-- NOTICE_RESTART (R370). -/
def execNoticeRestart (ch : Nat) (s : State) : Host.Outcome State Fault Refusal :=
  happen (if ch ≠ 0xFF then s.twinBad else s.modPair (fun p => { p with restartAt := some s.tb }))

/-! ## Mirror (R332, R341) -/

/-- The parameter registers of a channel that hold other than their reset words: offset and word. -/
def State.changedParams (s : State) (n : Ch) : List (Nat × Word) :=
  (s.regs.filter (fun x => decide (chBase n ≤ x.1) && decide (x.1 < chBase n + 0x20000) && nvMask x.1 != 0)).map
    (fun x => (x.1 - chBase n, x.2 &&& nvMask x.1))

/-- A rational as it leaves in a record: sign, numerator, denominator; and one that may be absent. -/
def codeRat (x : Rat) : List Nat := [b2n (decide (x < 0)), x.num.natAbs, x.den]
def codeOpt {α : Type} (f : α → List Nat) : Option α → List Nat
  | none => [0]
  | some x => 1 :: f x

/-- An envelope, and an open cycle with the age of its opening. -/
def codeEnvel (e : Envel) : List Nat := [e.imin, e.imax, e.tmin, e.tmax].flatMap codeRat
def State.codeCycle (s : State) (y : Cycle) : List Nat :=
  [y.soc0, y.charge, y.imin, y.imax, y.tmin, y.tmax].flatMap codeRat ++ [s.tb - y.opened]

/-- A cell of the estimator record as it leaves (R239, R332). -/
def State.codeCell (s : State) (c : EstCell) : List Nat :=
  [c.soc, c.v1, c.v2, c.p00, c.p01, c.p02, c.p11, c.p12, c.p22, c.q, c.kR].flatMap codeRat
    ++ codeOpt (fun x => codeRat x.1 ++ codeEnvel x.2) c.qNew ++ codeOpt codeEnvel c.envQ ++ codeOpt codeEnvel c.envR
    ++ codeOpt s.codeCycle c.cycle

/-- The record as it leaves (R332, R239); the spec gives no coding (DESIGN CHOICE, log entry 39). -/
def State.mirrorRecord (s : State) (n : Ch) : List Nat :=
  [n.val, s.get (F.PERC_STAT_MODE n), (s.reg (R.PERC_PROG_ID n)).toNat, (s.reg (R.CONT_STAT n)).toNat % 8,
    (s.evt.nextSeq - 1).toNat, s.get (F.EST_STAT_REST_AGE n)]
  ++ (s.ch n).perc.retain.flatMap (fun x => [x.1.toNat, x.2.toNat])
  ++ (s.changedParams n).flatMap (fun x => [x.1, x.2.toNat])
  ++ (s.ch n).est.cal.flatMap (fun c => [b2n (decide (c.1 < 0)), c.1.natAbs] ++ codeRat c.2)
  ++ (s.ch n).est.calEnv.flatMap (codeOpt (fun r => codeRat r.1 ++ codeRat r.2))
  ++ (s.ch n).est.cells.flatMap s.codeCell

/-- MIRROR_SEND (R330, R340): the owner's record, in each epoch E with E mod 100 = 50, while the link is up. -/
def execMirrorSend (n : Ch) (s : State) : Host.Outcome State Fault Refusal :=
  happen (
    if s.twinCh n ∧ s.owns n ∧ s.flag F.TWIN_STAT_LINK ∧ s.ep % 100 = 50 then s.twinSend 3 (s.mirrorRecord n) else s)

/-- RESYNC (R341): a joining partner asks for a full mirror. -/
def execResync (s : State) : Host.Outcome State Fault Refusal :=
  happen (s.eachCh (fun t n => if t.twinCh n && t.owns n then t.twinSend 3 (t.mirrorRecord n) else t))

/-- A complete record replaces the one before; only its parameter registers are applied (R332), and what depends on
them follows (R250, R258). -/
def State.mirrorStore (s : State) (n : Ch) (l : List MirrorSeg) : State :=
  let params := l.flatMap (·.params)
  let last := l.getLast?
  let s := s.modTwin n (fun w => { w with
    segs := [], full := true, mirror := params, mirrorRet := l.flatMap (·.retain), mirrorCells := l.flatMap (·.cells)
    mirrorMode := (last.map (·.pmode)).getD 0, mirrorProg := (last.map (·.progId)).getD 0
    mirrorSeq := (last.map (·.evtSeq)).getD 0, mirrorIntent := (last.map (·.intent)).getD 0
    mirrorAge := (last.map (·.restAge)).getD 0, mirrorCal := (last.map (·.cal)).getD []
    mirrorCalEnv := (last.map (·.calEnv)).getD [] })
  let s := s.modEst n (fun e => { e with group := [] })
  ((params.foldl (fun t x =>
    let a := chBase n + x.1
    t.setReg a ((t.reg a &&& ~~~nvMask a) ||| (x.2 &&& nvMask a))) s).siFollow n).condUpdate

/-- MIRROR (R332): a segment arrives at the standby. -/
def execMirror (m : MirrorSeg) (s : State) : Host.Outcome State Fault Refusal :=
  happen (
    if !m.ok then s.twinBad
    else if !s.twinCh m.ch ∨ !(s.ch m.ch).twin.standby then s
    else
      let w := (s.ch m.ch).twin
      let l := w.segs.filter (fun x => x.index != m.index) ++ [m]
      if (List.range m.total).all (fun k => l.any (fun x => x.index == k)) then s.mirrorStore m.ch l
      else s.modTwin m.ch (fun w => { w with segs := l, segAt := if w.segs = [] then s.tb else w.segAt }))

/-- MIRROR_FAIL (R332): segments of a record are missing after its 100 ms. -/
def execMirrorFail (n : Ch) (s : State) : Host.Outcome State Fault Refusal :=
  let w := (s.ch n).twin
  happen (
    if w.segs ≠ [] ∧ s.passedMs w.segAt 100 then
      (s.modTwin n (fun w => { w with segs := [] })).incSat F.TWIN_CNT_MIRROR_FAIL
    else s)

/-- RING_MSG (R89, R100, R110, Table 18.3): the partner's departure times enter DELAY_SET_DONE with its operands; tables
and serials are stored; a segment block joins the sweep; a presence result is that of the connector it speaks for. -/
def execRingMsg (m : RingMsg) (s : State) : Host.Outcome State Fault Refusal :=
  happen (
    match m with
    | .bad => s.twinBad
    | .probe _ _ => s
    | .tables n a b d serials =>
      if !s.twinCh n ∨ s.owns n then s
      else
        let s := s.modRing n (fun r => { r with
          topo := true, aTab := a.map (fun (x : Nat) => (x : Rat)), bTab := b.map (fun (x : Nat) => (x : Rat))
          serials := serials, pops := if r.pops.length ≤ serials.length then r.pops else [] })
        let s := (s.put (F.RING_DELAY_D_NS n) d).put (F.RING_STAT_TILES n) serials.length
        let s := s.setRegs (R.RING_TDLY n) ((List.zip a b).map (fun p => BitVec.ofNat 32 (min 0xFFFF p.2 * 65536 + min 0xFFFF p.1)))
        if s.ringRuns n ∨ !s.ringAllowed n then s else ((s.put (F.RING_STAT_STATE n) 5).putB (F.RING_STAT_RELAY n) true).pourStart n
    | .block n bytes => if s.twinCh n then s.dataBlock n bytes else s
    | .presence n p =>
      if !s.twinCh n then s
      else (if s.flag (F.RING_CTRL_END n) then s else s.putB (F.CH_CONN_RING_B_REMOTE n) true).connSet n (s.remoteConn n) p)

/-! ## Loss of the partner and takeover (R335 to R339) -/

/-- A mirrored cell over the survivor's own. -/
def cellOf (tb : Nat) (m : MirrorCell) (c : EstCell) : EstCell :=
  { c with
    init := true, soc := m.soc, v1 := m.v1, v2 := m.v2, p00 := m.p00, p01 := m.p01, p02 := m.p02, p11 := m.p11
    p12 := m.p12, p22 := m.p22, socPub := m.soc, q := m.q, qNew := m.qNew, kR := m.kR, envQ := m.envQ, envR := m.envR
    cycle := m.cycle.map (fun y => { y with opened := tb - y.opened }) }

/-- The mirrored estimator record, loaded (R338 step 2). -/
def State.mirrorLoad (s : State) (n : Ch) : State :=
  let w := (s.ch n).twin
  let fresh := EstCell.fresh (s.cRated n)
  let put (l : List EstCell) (m : MirrorCell) : List EstCell := setAt fresh l m.cell (cellOf s.tb m (l.getD m.cell fresh))
  if !w.full then s
  else
    let s := s.modEst n (fun e => { e with cells := w.mirrorCells.foldl put e.cells })
    ((s.modEst n (fun e => if w.mirrorCal = [] then e else
      { e with cal := w.mirrorCal, calOld := w.mirrorCal, calEnv := w.mirrorCalEnv })).openShow n).put
      (F.EST_STAT_REST_AGE n) w.mirrorAge

/-- The takeover of a channel that the partner owned (R338 steps 1 to 3 and its records). -/
def State.takeover (s : State) (n : Ch) : State :=
  let w := (s.ch n).twin
  let s := s.modTwin n (fun w => { w with toClaim := true, taking := true, takeN := 0, standby := false, pOwned := false })
  let s := s.mirrorLoad n
  let s := if s.chState n = stTRIPPED ∨ s.chState n = stLOCKOUT then s else s.enterState n w.pState 0
  let s := s.setReg (R.PROF_CUR_TARGET n) (if s.energised n then intWord w.pTarget else 0)
  let s := s.disqualify n 5 (fun _ _ => true)
  let s := s.voidBy n 7
  ((s.incSat F.TWIN_CNT_TAKEOVERS).raise pgTWIN 2).log 0x0C40 0xF 3 (BitVec.ofNat 32 (2 ^ n.val)) w.mirrorSeq 0

/-- The conditions of R335: the partner's claim gone for 100 µs without a RELEASE in the last 2 ms; three heartbeats
missed while the partner keeps no claim (R340); a heartbeat with HALT or DECAF. -/
def State.claimGone (s : State) (n : Ch) : Bool :=
  let w := (s.ch n).twin
  w.pOwned && !w.claimIn && decide (100000 ≤ s.tb - w.claimInAt)
    && (match w.releaseAt with | some t => decide (2000000 < s.tb - t) | none => true)
def State.hbGone (s : State) : Bool := s.twin.everHb && decide (3 ≤ s.twin.missed) && !s.partnerClaims

/-- The lost partner had the valve of the channel: an event (R325). -/
def State.valveLost (s : State) (n : Ch) : State :=
  if s.getBit F.TWIN_CHCFG_VLV n.val then s else s.logReg pgTWIN 0x024

/-- LOST (R335, R338, R339): the owner goes on, its partner's relay a break (R111); a survivor takes over, unless the
partner reported HALT or DECAF; an unclaimed channel is claimed (R328). -/
def execLost (n : Ch) (s : State) : Host.Outcome State Fault Refusal :=
  let down := s.partnerDown && s.flag F.TWIN_STAT_LINK
  happen (
    if !s.twinCh n ∨ !s.carries ∨ !(s.claimGone n || s.hbGone || down) then s
    else
      let s := if s.getBit F.TWIN_STAT_LOST n.val then s else ((s.putBit F.TWIN_STAT_LOST n.val true).raise pgTWIN 3).valveLost n
      let s := if s.hbGone then s.linkDown else s
      if s.owns n then
        if s.ringRuns n then
          (if s.flag (F.RING_CTRL_END n) then s.breakSeen n 0 1 else s.breakSeen n (s.tiles n) (s.tiles n + 1))
        else s
      else if (s.ch n).twin.claimOut then s
      else if (s.ch n).twin.pOwned ∧ !down then s.takeover n
      else s.modTwin n (fun w => { w with toClaim := true, standby := false, pOwned := false }))

/-- TAKEOVER_ENABLE (R338 step 4): after 2 delivered epochs that meet the conditions the PWM is enabled at the next
sample. -/
def execTakeoverEnable (n : Ch) (s : State) : Host.Outcome State Fault Refusal :=
  let w := (s.ch n).twin
  happen (
    if w.taking ∧ w.claimOut ∧ 2 ≤ w.takeN then
      (s.modTwin n (fun w => { w with taking := false })).modProf n (fun p => { p with curOn := false })
    else s)

/-- Time of the partner's TRIP test in the last 100 µs, widened by 50 µs (R271, R336). -/
def State.testWindow (s : State) (n : Ch) : Bool :=
  let t := s.clock.plant % 10000000000
  let w := 1250000000 * n.val + (if s.flag (F.RING_CTRL_END n) then 0 else 625000000)
  decide (w ≤ t + 50000) && decide (t ≤ w + 350000)

/-- BRIDGE_CLOSE (R336): 12 V has stood across the BRIDGE for 100 µs. -/
def execBridgeClose (n : Ch) (s : State) : Host.Outcome State Fault Refusal :=
  let held := s.flag (F.CONT_STAT_HOLD_POS n) || s.flag (F.CONT_STAT_HOLD_NEG n) || s.flag (F.CONT_STAT_HOLD_PRE n)
  let noTrip : Bool := match (s.ch n).twin.pTripAt with | some t => decide (2000000 < s.tb - t) | none => true
  happen (
    if s.twinCh n ∧ s.flag (F.CONT_STAT_TRIP_ON n) ∧ held ∧ !s.testWindow n ∧ noTrip ∧ s.twin.everHb
        ∧ s.flag F.TWIN_STAT_LINK ∧ s.tb - s.twin.lastHb ≤ 3100000 then s.setBridge n true
    else s)

/-- READY (R341): a full mirror and 1,000 matching epochs on every standby channel; the module closes its TRIPs. -/
def execReady (s : State) : Host.Outcome State Fault Refusal :=
  let l := allCh.filter (fun n => s.twinCh n && (s.ch n).twin.standby)
  happen (
    if l ≠ [] ∧ l.all (fun n => (s.ch n).twin.full && decide (1000 ≤ (s.ch n).twin.sniffGood)) then
      l.foldl (fun t n => t.putB (F.CONT_STAT_TRIP_ON n) (t.chState n != stTRIPPED && t.chState n != stLOCKOUT))
        (s.modPair (fun p => { p with ready := true }))
    else s)

/-- TWIN.CMD.HANDOVER (R342). -/
def State.doHandover (s : State) (v : Word) : Res :=
  let l := allCh.filter (fun n => bit v n.val)
  if l.all (fun n => s.owns n && s.chState n == stISOLATED && s.flag F.TWIN_STAT_READY) then
    (.ok, l.foldl (fun t n =>
      ((t.twinSend 2 [2, n.val, 0, 0]).dropClaim n).modTwin n (fun w => { w with standby := true })) s)
  else refuse .state s

def execHandover (src : Src) (v : Word) (s : State) : Host.Outcome State Fault Refusal :=
  answer (s.gated src pgTWIN 0x030 v (fun t => t.doHandover v))

end Sys2Proof.Machine
end

