-- ==== Sys2Proof/Machine/Upd.lean ====
section
/-! DEFINITION. Updates (R364 to R372), provisioning (R374, R375), zeroisation and test access (R376 to R378). -/

namespace Sys2Proof.Machine
open Sys2Proof

/-! ## The staged bundle (R364, R365) -/

/-- Bytes lo, lo + 1, ... of a slot. -/
def Slot.bytes (x : Slot) (lo n : Nat) : List Byte :=
  (((mrange x.mem (lo / 4) (n / 4 + 2)).flatMap wordBytes).drop (lo % 4)).take n

/-- A big-endian field of a slot. -/
def Slot.field (x : Slot) (lo n : Nat) : Nat := beNat (x.bytes lo n)

/-- A TOC entry k: type, offset, length. -/
def Slot.toc (x : Slot) (k : Nat) : Nat × Nat × Nat :=
  (x.field (32 + 48 * k) 1, x.field (36 + 48 * k) 4, x.field (40 + 48 * k) 4)

/-- The format rules of R364 hold. -/
def Slot.formatOk (x : Slot) : Bool :=
  let total := x.field 8 4
  let es := [0, 1, 2].map x.toc
  let apart (a b : Nat × Nat × Nat) : Bool := decide (a.2.1 + a.2.2 ≤ b.2.1) || decide (b.2.1 + b.2.2 ≤ a.2.1)
  let e (k : Nat) : Nat × Nat × Nat := es.getD k (0, 0, 0)
  x.field 0 4 == 0x57425831 && x.field 4 2 == 1 && x.field 6 2 == 176 && decide (total ≤ 33554432)
    && x.field 26 6 == 0 && decide (x.field 25 1 < 16) && decide (x.field 24 1 < 4)
    && [0, 1, 2].all (fun k => x.field (33 + 48 * k) 3 == 0 && x.field (44 + 48 * k) 4 == 0)
    && es.all (fun t => decide (176 ≤ t.2.1) && decide (t.2.1 + t.2.2 + 64 ≤ total) && t.2.1 % 4 == 0)
    && [1, 2, 3].all (fun ty => (es.filter (fun t => t.1 == ty)).length == 1)
    && apart (e 0) (e 1) && apart (e 0) (e 2) && apart (e 1) (e 2)

/-- Table 21.2: the first failing check, 0 when all pass. -/
def State.verifyErr (s : State) (x : Slot) : Nat :=
  let key := x.field 24 1
  let rev := x.field 25 1
  let ver := x.field 12 2
  let digestBad (k : Nat) : Bool :=
    let t := x.toc k
    Config.sha256 (x.bytes t.2.1 t.2.2) != BitVec.ofNat 256 (x.field (48 + 48 * k) 32)
  let sup := if s.flag F.UPD_STAT_ACTIVE then s.upd.slotB.version else s.upd.slotA.version
  let peer := x.field 16 2
  if !x.formatOk then 1
  else if s.getBit F.SEC_STAT_REVOKED key || rev.testBit key then 2
  else if !Config.ecdsaVerify key (Config.sha256 (x.bytes 0 176)) (x.bytes (x.field 8 4 - 64) 64) then 3
  else if [0, 1, 2].any digestBad then 4
  else if ver < s.get F.SEC_STAT_FLOOR ∨ ver < x.field 14 2 then 5
  else if !(x.field 20 4).testBit Config.hwRev then 6
  else if sup < peer ∨ allCh.any (fun n => decide (s.chanVersion n < peer))
      ∨ (s.twinConf ∧ s.twin.everHb ∧ (1 < x.field 18 1 ∨ x.field 19 1 < 1)) then 7
  else 0

/-- A write of UPD.STAGE_OFF (R366). -/
def State.doStageOff (s : State) (v : Word) : Res :=
  if v.toNat % 512 ≠ 0 ∨ 33554432 ≤ v.toNat then refuse .range s else (.ok, s.setReg R.UPD_STAGE_OFF v)

/-- The slot word of a window word. -/
def State.stageAt (s : State) (k : Nat) : Nat := (s.reg R.UPD_STAGE_OFF).toNat / 4 + k

/-- A write of UPD.STAGE_WINk (R366). -/
def State.doStageWin (s : State) (src : Src) (k : Nat) (v : Word) : Res :=
  let st := s.get F.UPD_STAT_STATE
  if !s.service src then refuse .priv s
  else if st = 2 ∨ st = 4 ∨ st = 5 then refuse .state s
  else
    let x := s.inactive
    (.ok, ((s.setInactive { x with mem := mset x.mem (s.stageAt k) v, valid := false }).put F.UPD_STAT_STATE 1).verShow)

def execStageWrite (src : Src) (k : Fin 128) (v : Word) (s : State) : Host.Outcome State Fault Refusal :=
  answer (s.gated src pgUPD (0x200 + 4 * k.val) v (fun t => t.doStageWin src k.val v))

/-- A read of UPD.STAGE_WINk. -/
def State.readStageWin (s : State) (k : Nat) : Word := mget s.inactive.mem (s.stageAt k)

/-! ## UPD.CMD (Table 21.6) -/

/-- UPD.CMD.VERIFY. -/
def State.doVerify (s : State) (src : Src) : Res :=
  let st := s.get F.UPD_STAT_STATE
  if !s.service src then refuse .priv s
  else if st = 1 ∨ st = 3 ∨ st = 6 then (.ok, s.put F.UPD_STAT_STATE 2)
  else refuse .state s

/-- Plant time in whole seconds, and the time of UPD.ACT_TIME. -/
def State.plantS (s : State) : Nat := s.clock.plant / 1000000000 % 2 ^ 48
def State.actTime (s : State) : Nat := s.get F.UPD_ACT_TIME_HI_S_HI * 2 ^ 32 + (s.reg R.UPD_ACT_TIME_LO).toNat

/-- UPD.CMD.ARM (R367, R311), protected under R84. -/
def State.doArm (s : State) (src : Src) : Res :=
  if !s.unlocked src pgUPD then refuse .locked s
  else if s.get F.UPD_STAT_STATE ≠ 3 then refuse .state s
  else if 0 ≤ sdiff 48 s.plantS s.actTime then refuse .range s
  else (.ok, (s.put F.UPD_STAT_STATE 4).modUpd (fun u => { u with actAt := some s.actTime }))

/-- The armed time is due (R311). -/
def State.actDue (s : State) : Bool := match s.upd.actAt with | some t => decide (0 ≤ sdiff 48 s.plantS t) | none => false

/-- UPD.CMD.CANCEL (R367): an activation already due proceeds. -/
def State.doCancel (s : State) : Res :=
  if s.get F.UPD_STAT_STATE ≠ 4 ∨ s.actDue then refuse .state s
  else (.ok, (s.put F.UPD_STAT_STATE 3).modUpd (fun u => { u with actAt := none }))

/-- UPD.CMD.ACCEPT (R371). -/
def State.doAccept (s : State) : Res :=
  if s.get F.UPD_STAT_STATE ≠ 5 then refuse .state s else (.ok, s.modUpd (fun u => { u with accepted := true }))

/-- The conditions of a confirmation that the module's state shows (R371). -/
def State.mayConfirm (s : State) : Bool :=
  let u := s.upd
  !s.sup.restarting && (!u.wasLocked || s.locked) && (!s.flag F.UPD_CTRL_CONFIRM_HOST || u.accepted)
    && allCh.all (fun n => !u.reloaded.getLsbD n.val || (s.ringRuns n && decide (1000 ≤ (s.ch n).pour.run)))

/-- Confirmation (R371): CONFIRMED, IDLE, the floor, the revoked slots. -/
def State.doConfirm (s : State) : Res :=
  if s.get F.UPD_STAT_STATE ≠ 5 then refuse .state s
  else if !s.mayConfirm then (.ok, s)
  else
    let x := if s.flag F.UPD_STAT_ACTIVE then s.upd.slotB else s.upd.slotA
    let s := (s.putB F.UPD_STAT_CONFIRMED true).put F.UPD_STAT_STATE 0
    let s := s.put F.SEC_STAT_FLOOR (max (s.get F.SEC_STAT_FLOOR) x.floor)
    let s := s.put F.SEC_STAT_REVOKED (s.get F.SEC_STAT_REVOKED ||| x.revoke)
    (.ok, s.raise pgUPD 5)

/-- A write of UPD.CMD: more than one bit set is refused (Table 21.6). -/
def State.doUpdCmd (s : State) (src : Src) (v : Word) : Res :=
  let m := bitsOf v 4 0
  if bit v 4 ∧ src ≠ .unit then refuse .access s
  else if m = 1 then s.doVerify src
  else if m = 2 then s.doArm src
  else if m = 4 then s.doCancel
  else if m = 8 then s.doAccept
  else if m = 16 then s.doConfirm
  else if m = 0 then (.ok, s)
  else refuse .range s

def State.updCmd (s : State) (src : Src) (v : Word) : Host.Outcome State Fault Refusal :=
  answer (s.gated src pgUPD 0x024 v (fun t => t.doUpdCmd src v))

def execVerify (src : Src) (s : State) : Host.Outcome State Fault Refusal := s.updCmd src 1
def execUpdArm (src : Src) (s : State) : Host.Outcome State Fault Refusal := s.updCmd src 2
def execCancel (src : Src) (s : State) : Host.Outcome State Fault Refusal := s.updCmd src 4
def execAccept (src : Src) (s : State) : Host.Outcome State Fault Refusal := s.updCmd src 8

/-- CONFIRM: written by the running image itself. -/
def execConfirm (s : State) : Host.Outcome State Fault Refusal := s.updCmd .unit 16

/-- VERIFY_DONE (R365, R379). -/
def execVerifyDone (s : State) : Host.Outcome State Fault Refusal :=
  happen (
    if s.get F.UPD_STAT_STATE ≠ 2 then s
    else
      let x := s.inactive
      let e := s.verifyErr x
      let s := s.put F.UPD_STAT_VERR e
      if e = 0 then
        let y : Slot := { x with valid := true, version := x.field 12 2, floor := x.field 14 2, revoke := x.field 25 1 % 16 }
        (((s.setInactive y).put F.UPD_STAT_STATE 3).verShow).raise pgUPD 2
      else (((s.setInactive { x with valid := false }).put F.UPD_STAT_STATE 6).verShow).raise pgUPD 3)

/-- Writes of UPD.CTRL, UPD.ACT_TIME_LO and UPD.ACT_TIME_HI. -/
def State.doUpdCtrl (s : State) (v : Word) : Res :=
  if bitsOf v 11 0 < 60 ∨ 3600 < bitsOf v 11 0 then refuse .range s else (.ok, s.setReg R.UPD_CTRL (v &&& 0x10FFF))
def State.doActTime (s : State) (hi : Bool) (v : Word) : Res :=
  if s.get F.UPD_STAT_STATE = 4 then refuse .state s
  else (.ok, if hi then s.put F.UPD_ACT_TIME_HI_S_HI (bitsOf v 15 0) else s.setReg R.UPD_ACT_TIME_LO v)

/-- UPD.ACT_TIME_HI as read: the whole seconds left in the trial window. -/
def State.readActHi (s : State) : Word :=
  let left := if s.get F.UPD_STAT_STATE = 5 then s.upd.trialLen - (s.tb - s.upd.trialAt) / 1000000000 else 0
  BitVec.ofNat 32 (left * 65536 + s.get F.UPD_ACT_TIME_HI_S_HI)

/-! ## Activation, fallback, hitless restart (R368 to R372) -/

/-- A channel reloads its cores and restarts its ring (R369). -/
def State.reloadNow (s : State) (n : Ch) : State :=
  ((s.modSafe n (fun f => { f with reloading := true })).put (F.RING_STAT_STATE n) 0).pourStop n

/-- The supervisor restarts hitlessly (R368, R370): the partner is told, a held snapshot is released. -/
def State.hitless (s : State) : State :=
  let s := if s.twinConf then s.twinSend 2 [3, 0xFF, 0, 0] else s
  (s.snapRelease true).modSup (fun p => { p with restarting := true })

/-- The channel image changes to the new active slot's: ISOLATED channels reload at once; of the others, those on the
image that is no longer active keep it and show in CH_OLD. -/
def State.imageSwitch (s : State) : State :=
  s.eachCh (fun t n =>
    if t.chState n = stISOLATED then (t.putBit F.UPD_STAT_CH_OLD n.val false).reloadNow n
    else t.putBit F.UPD_STAT_CH_OLD n.val (!t.getBit F.UPD_STAT_CH_OLD n.val))

/-- The activation itself. -/
def State.activate (s : State) : State :=
  let running := allCh.foldl (fun a n => if s.chState n = stISOLATED ∧ s.ringRuns n then a + 2 ^ n.val else a) 0
  let s := s.modUpd (fun u => { u with
    actAt := none, trialAt := s.tb, trialLen := s.get F.UPD_CTRL_TRIAL, accepted := false, wasLocked := s.locked
    reloaded := BitVec.ofNat 8 running })
  let s := (s.putB F.UPD_STAT_ACTIVE (!s.flag F.UPD_STAT_ACTIVE)).put F.UPD_STAT_STATE 5
  ((s.putB F.UPD_STAT_CONFIRMED false).raise pgUPD 4).hitless.imageSwitch

/-- The partner's restart holds an activation that fell due within 2.5 s of its notice, until 5 s after it (R370). -/
def State.actHeld (s : State) : Bool :=
  match s.twin.restartAt, s.upd.actAt with
  | some r, some t =>
    let since := (s.clock.plant : Int) - (t : Int) * 1000000000
    let dueTb := (s.tb : Int) - since
    decide ((r : Int) ≤ dueTb) && decide (dueTb ≤ (r : Int) + 2500000000) && decide (s.tb < r + 5000000000)
  | _, _ => false

/-- ACTIVATED (R367, R368): the armed time has come. -/
def execActivated (s : State) : Host.Outcome State Fault Refusal :=
  happen (
    if s.get F.UPD_STAT_STATE ≠ 4 ∨ !s.actDue ∨ s.actHeld then s
    else if s.carries ∧ s.sup.holdupAt.isNone then s.activate
    else ((s.put F.UPD_STAT_STATE 3).modUpd (fun u => { u with actAt := none })).logReg pgUPD 0x028)

/-- The old slot is active again (R372). -/
def State.fallBack (s : State) : State :=
  let s := (s.putB F.UPD_STAT_ACTIVE (!s.flag F.UPD_STAT_ACTIVE)).put F.UPD_STAT_STATE 3
  let s := (s.putB F.UPD_STAT_CONFIRMED true).putB F.UPD_STAT_FALLBACK true
  (s.raise pgUPD 6).logReg pgUPD 0x028

/-- FALLBACK (R372): the trial window has ended unconfirmed. -/
def execFallback (s : State) : Host.Outcome State Fault Refusal :=
  happen (
    if s.get F.UPD_STAT_STATE = 5 ∧ s.passedMs s.upd.trialAt (1000 * s.upd.trialLen) then s.fallBack.hitless.imageSwitch
    else s)

/-- SUPERVISOR_RESTART_DONE (R368, R355): waiting records are stored with their operating time and epoch, the PCMD_TMO
count begins anew, the counters of PMCS return to 0. -/
def execSupervisorRestartDone (s : State) : Host.Outcome State Fault Refusal :=
  happen (
    if !s.sup.restarting then s
    else
      let l := s.evt.defer
      let s := (s.modSup (fun p => { p with restarting := false })).modEvt (fun e => { e with defer := [] })
      let s := l.foldl (fun t r => (t.stage r).1) s
      { (s.pmcReset pgPMCS) with alloc := { s.alloc with cmdAt := s.tb } })

/-! ## Provisioning (R374, R375) -/

/-- Staged object o as bytes. -/
def State.object (s : State) (o : Nat) : List Byte :=
  ((mrange s.upd.objMem (512 * o) 512).flatMap wordBytes).take (nth s.upd.objLen o)

/-- The PKCS#10 request of the identity key. -/
def State.request (s : State) : List Byte := match s.upd.key with | some k => Config.csr k | none => []

/-- Length of an object as SEC.OBJ_CTRL shows it. -/
def State.objLength (s : State) (o : Nat) : Nat := if o = 0 then min 2048 s.request.length else nth s.upd.objLen o

/-- A write of SEC.OBJ_CTRL (Table 21.15): LEN is the length of the object chosen; object 0 has its own. -/
def State.doObjCtrl (s : State) (v : Word) : Res :=
  let o := bitsOf v 31 28
  let len := bitsOf v 11 0
  if 5 < o ∨ 2048 < len then refuse .range s
  else if o = 0 ∧ len ≠ 0 ∧ len ≠ s.objLength 0 then refuse .access s
  else
    let s := if o = 0 then s else s.modUpd (fun u => { u with objLen := setAt 0 u.objLen o len })
    (.ok, s.setReg R.SEC_OBJ_CTRL (BitVec.ofNat 32 (o * 2 ^ 28 + bitsOf v 25 24 * 2 ^ 24 + s.objLength o)))

/-- SEC.OBJ_WINk: a write, and a read. -/
def State.doObjWin (s : State) (k : Nat) (v : Word) : Res :=
  let o := s.get F.SEC_OBJ_CTRL_OBJ
  if o = 0 then refuse .access s
  else (.ok, s.modUpd (fun u => { u with objMem := mset u.objMem (512 * o + 128 * s.get F.SEC_OBJ_CTRL_BLK + k) v }))
def State.readObjWin (s : State) (k : Nat) : Word :=
  let o := s.get F.SEC_OBJ_CTRL_OBJ
  let w := 128 * s.get F.SEC_OBJ_CTRL_BLK + k
  if o = 0 then bytesWord (((s.request.drop (4 * w)).take 4 ++ [0, 0, 0, 0]).take 4) else mget s.upd.objMem (512 * o + w)

/-- SEC.CMD.COMMIT (R375). -/
def State.doCommit (s : State) : Res :=
  let cert := s.object 1
  let anchors := [2, 3, 4, 5].map s.object
  let good := (match s.upd.key with | some k => Config.certHasKey k cert | none => false)
    && anchors.any (fun a => a != [] && Config.certChains cert a)
  if !good then refuse .range s
  else
    let mask := b2n ((s.object 2) != []) + 2 * b2n ((s.object 3) != []) + 4 * b2n ((s.object 4) != []) + 8 * b2n ((s.object 5) != [])
    let new := s.get F.SEC_STAT_PROV ≠ 1
    let s := ((s.modUpd (fun u => { u with cert := cert, anchors := anchors })).put F.SEC_STAT_ANCHORS mask).put F.SEC_STAT_PROV 1
    (.ok, if new then s.raise pgSEC 3 else s)

/-! ## Zeroisation and test access (R376 to R378) -/

/-- The secrets are overwritten, every session ends, PROV is ZEROISED; the TAP is enabled only then. -/
def State.zeroise (s : State) (tap : Bool) : State :=
  let was := s.get F.SEC_STAT_PROV = 2
  let s := (s.sessions.map (·.sid)).foldl (fun t i => t.endSession i) s
  let s := ((s.modUpd (fun u => { u with key := none })).put F.SEC_STAT_PROV 2).modPanel (fun p => { p with screen := .zeroised })
  let s := if was then s else
    (s.raise pgSEC 2).log (blockByte pgSEC * 256 + 0x7F) 0xF 4 0x20 (s.reg R.SEC_STAT) 0
  if tap then s.putB F.TEST_STAT_TAP_EN true else s

/-- A write of SEC.CMD (Table 21.14). -/
def State.doSecCmd (s : State) (v : Word) : Res :=
  if bit v 0 && bit v 1 then refuse .range s
  else if bit v 0 then s.doCommit
  else if bit v 1 then (.ok, s.zeroise false)
  else (.ok, s)

def execCommit (src : Src) (s : State) : Host.Outcome State Fault Refusal :=
  answer (s.gated src pgSEC 0x024 1 (fun t => t.doSecCmd 1))
def execDeprovision (src : Src) (s : State) : Host.Outcome State Fault Refusal :=
  answer (s.gated src pgSEC 0x024 2 (fun t => t.doSecCmd 2))

/-- A write of TEST.UNLOCK (Table 21.17). -/
def State.doTestUnlock (s : State) (v : Word) : Res :=
  if s.sup.holdupAt.isSome then refuse .state s else (.ok, if bit v 0 then s.zeroise true else s)

def execUnlock (src : Src) (v : Word) (s : State) : Host.Outcome State Fault Refusal :=
  answer (s.gated src pgTEST 0x020 v (fun t => t.doTestUnlock v))

/-- COVER_OPEN (R376). -/
def execCoverOpen (s : State) : Host.Outcome State Fault Refusal :=
  happen ((s.putB F.TEST_STAT_COVER_OPEN true).zeroise true)

/-- IDENTITY_KEYGEN (R376): the cover switch, and a new identity key once the TAP is disabled and the cover closed. -/
def execIdentityKeygen (coverClosed : Bool) (s : State) : Host.Outcome State Fault Refusal :=
  let s := if coverClosed then s.putB F.TEST_STAT_COVER_OPEN false else s
  happen (
    if s.get F.SEC_STAT_PROV = 2 ∧ !s.flag F.TEST_STAT_TAP_EN ∧ !s.flag F.TEST_STAT_COVER_OPEN then
      (s.modUpd (fun u => { u with keyGen := u.keyGen + 1, key := some (Config.genKey (u.keyGen + 1)) })).put F.SEC_STAT_PROV 0
    else s)

/-- RESTRICT_OK (R378). -/
def State.restrictOk (s : State) : Bool :=
  s.mode == mHALT || s.mode == mDECAF || allCh.all (fun n => s.chState n == stLOCKOUT)

/-- TEST.STAT as read. -/
def State.testStat (s : State) : Word :=
  putBits (s.reg R.TEST_STAT) 29 29 (b2n s.restrictOk)

/-- TAP_INSTRUCTION (R377, R378, Table 21.4). -/
def execTapInstruction (dev : Fin 3) (op : Byte) (s : State) : Host.Outcome State Fault Refusal :=
  let load (t : State) (i : Byte) : State := t.modUpd (fun u => { u with ir := setAt 0x01 u.ir dev.val i })
  happen (
    if !s.flag F.TEST_STAT_TAP_EN then s
    else if [0x03, 0x04, 0x05, 0x20].contains op.toNat then
      if s.restrictOk then load s op else (load s 0xFF).putB F.TEST_STAT_REFUSED true
    else if [0x01, 0x02].contains op.toNat then load s op
    else load s 0xFF)

end Sys2Proof.Machine
end

