-- ==== Sys2Proof/Machine/Modes.lean ====
section
/-! DEFINITION. Module modes, start-up, Decaf, HALT commands and power-fail (R48 to R62, R381 to R383). -/

namespace Sys2Proof.Machine
open Sys2Proof

/-! ## Parameter MRAM (R60 step 5; DEDUCED, log entry 20) -/

/-- The parameter registers changed since the last write reach parameter MRAM. Its callers ask for VHOLD (R61). -/
def State.mramSave (s : State) : State :=
  { s with
    mram := s.dirty.foldl (fun m a =>
      sset resetWord m a ((resetWord a &&& ~~~nvMask a) ||| (s.reg a &&& nvMask a))) s.mram
    dirty := [] }

/-- What waits for parameter MRAM is written while VHOLD is at 17 V or above (R61): the parameters, committed chemistry
sets, and the DECAF latch as the mode has it (R55, R56). -/
def State.nvStore (s : State) : State :=
  if s.sup.vholdOk then
    let s := (s.mramSave).eachCh (fun t n => t.chemStore n)
    { s with sup := { s.sup with decafLatch := s.mode == mDECAF } }.putB F.SYS_STAT_DECAF_LATCH (s.mode == mDECAF)
  else s

/-! ## The state a start begins from (R31, R48, R54, R65, R142, R345, R355; DEDUCED, log entry 20) -/

/-- Registers that a start does not clear: the update and provisioning state, and what shows an input's level. -/
def keptRegs : List (Nat × Word) :=
  [(R.UPD_STAT, 0xFFC00000), (R.UPD_VER, 0xFFFFFFFF), (R.SEC_STAT, 0xDFFFFFFF), (R.TEST_STAT, 0x80000000),
    (R.PANEL_STAT, 0x80000000)]
  ++ allCh.flatMap (fun n => [(R.CONT_STAT n, 0x00000038), (R.SAFE_SISTAT n, 0x000000FF)])

/-- What a channel keeps over a start: stored records, programs and chemistry, tile serials, the levels of its inputs,
the encoder's count, and latched suspicions as CDIAG.SUSPECT in parameter MRAM holds them (R150). -/
def State.chanKept (s : State) (n : Ch) (c : Chan) : Chan :=
  let lim (l : LimS) : LimS := { LimS.reset with raw := l.raw, active := l.active }
  let w := sget resetWord s.mram (R.CDIAG_SUSPECT n)
  let susp (k : Nat) : List Susp :=
    let h := bitsOf w (16 * k + 15) (16 * k)
    if h / 256 = 0 then [] else [⟨h / 256, h % 256, true, 0⟩]
  { Chan.reset with
    ring := { RingS.reset with upA := c.ring.upA, upB := c.ring.upB, serials := c.ring.serials }
    est := { EstS.reset with
      chem := c.est.chemNv.getD [], chemOk := c.est.chemNv.isSome, chemNv := c.est.chemNv, copyA := c.est.copyA
      copyB := c.est.copyB, unloaded := true }
    perc := { PercS.reset with retA := c.perc.retA, retB := c.perc.retB, flash := c.perc.flash }
    vax := { VaxS.reset with enc := c.vax.enc, lo := lim c.vax.lo, hi := lim c.vax.hi, supplyBad := c.vax.supplyBad }
    ctle := { CtleS.reset with stageFault := c.ctle.stageFault }
    safe := { SafeS.reset with low := c.safe.low }
    twin := { TwinCh.reset with claimIn := c.twin.claimIn, claimInAt := c.twin.claimInAt }
    cdiag := { CdiagS.reset with susp := susp 0 ++ susp 1 } }

/-- Every volatile part of the module at its reset value; registers of parameter MRAM from their copy; the clock at the
stored time (R304). The display keeps its image (R40). -/
def State.coldReset (s : State) : State :=
  let base : Mem := s.mram.foldl (fun m x =>
    sset resetWord m x.1 ((resetWord x.1 &&& ~~~nvMask x.1) ||| (x.2 &&& nvMask x.1))) []
  let regs := keptRegs.foldl (fun m x => sset resetWord m x.1 ((sget resetWord m x.1 &&& ~~~x.2) ||| (s.reg x.1 &&& x.2))) base
  let side := bitsOf (sget resetWord regs R.TWIN_CFG) 0 0
  { s with
    regs := regs, dirty := []
    chans := Vector.ofFn (fun n => s.chanKept n (s.ch n))
    clock := { ClockS.reset with tb := s.clock.tb, plant := s.clock.storedTime, storedTime := s.clock.storedTime }
    snap := none, sessions := [], idents := [], joined := [], notifies := []
    panel := ⟨s.panel.screen, s.tb⟩
    therm := ThermS.reset, alloc := { AllocS.reset with cmdAt := s.tb }, can := CanS.reset
    twin := { TwinS.reset with side := side }
    sup := { s.sup with holdupAt := none, wakeRun := [], wakeVolt := false, restarting := false, rebootFault := false }
    upd := { s.upd with actAt := none, objMem := [], objLen := [], ir := [0x01, 0x01, 0x01] }
    pmcs := PmcS.reset }

/-- The registers that show the levels kept over a start: stage fault, limit inputs, demands. -/
def State.levelsShow (s : State) (n : Ch) : State :=
  let c := s.ch n
  let s := if c.ctle.stageFault then (s.putB (F.CTLE_STAT_STAGE_FAULT n) true).pageFault (pgCTLE n) true else s
  let s := (s.putB (F.VAX_STAT_LIM_LO n) c.vax.lo.active).putB (F.VAX_STAT_LIM_HI n) c.vax.hi.active
  [0, 1, 2, 3].foldl (fun t x => t.siShow n x) s

/-- BOOT begins with a start cause (R31, R62, R304, R345, R367, R372; Table 19.2): 0 power-on, 1 DECAF wake, 2 RESTART. -/
def State.bootBegin (s : State) (cause : Nat) : State :=
  let old := s.mode
  let s := { s with panel := { s.panel with screen := .overview } }
  let s := if s.get F.UPD_STAT_STATE = 4 then s.put F.UPD_STAT_STATE 3
    else if s.get F.UPD_STAT_STATE = 2 then s.put F.UPD_STAT_STATE 1
    else if s.get F.UPD_STAT_STATE = 5 then s.fallBack
    else s
  let items := s.sup.pfItems
  let r := s.evtBoot
  let s := r.1.modSup (fun p => { p with
    startCause := cause, skipped := r.2, pfItems := 0, bootCfg := s.reg R.SYS_BOOT_CFG
    decafLatch := p.decafLatch && !p.vholdOk })
  let s := s.putB F.SYS_STAT_DECAF_LATCH s.sup.decafLatch
  let s := ((s.put F.SYS_STAT_BOOT_STEP 1).putB F.SYS_STAT_PF_INCOMPLETE (items != 0)).putB F.SYS_STAT_HOLDUP_OK s.sup.vholdOk
  let s := if old = mBOOT then s else
    (s.raise pgSYS 2).log 0x0141 0xF 0 (BitVec.ofNat 32 old) (BitVec.ofNat 32 mBOOT) 0
  let s := if items.testBit 0 then s.logReg pgEVT 0x020 else s
  let s := s.eachCh (fun t n => if items.testBit (n.val + 1) then t.logReg (pgEST n) 0x024 else t)
  let s := if items.testBit 9 then s.logReg pgSYS 0x030 else s
  let s := s.eachCh (fun t n => (((t.estBoot n).percBoot n).suspShow n).levelsShow n)
  (s.ptpRestart).verShow

/-- A start without a power loss: as every start, but a channel in LOCKOUT stays there, since only the panel releases
it (R44; DEDUCED, log entry 21). -/
def State.rebootFrom (s : State) (cause : Nat) : State :=
  let locked := allCh.filter (fun n => s.chState n == stLOCKOUT)
  let old := s.reg R.SYS_STAT
  let t := s.coldReset
  let t := t.setReg R.SYS_STAT ((t.reg R.SYS_STAT &&& ~~~(0xF : Word)) ||| (old &&& 0xF))
  let t := locked.foldl (fun u n => (u.put (F.CH_STATE_STATE n) stLOCKOUT).putBit F.PANEL_STAT_LOCKOUT n.val true) t
  (t.bootBegin cause).put F.SYS_STAT_MODE mBOOT

/-! ## Power-on and BOOT -/

/-- POWER_ON (Table 3.2, R58, R346): LOGIC24 has stood at or above 18 V for 100 ms after an absence. -/
def execPowerOn (absentMs : Nat) (s : State) : Host.Outcome State Fault Refusal :=
  happen (
    if s.sup.holdupAt.isSome then s
    else
      let s := s.coldReset
      let s := (s.modSup (fun p => { p with haltLatch := p.haltLatch && decide (absentMs < 1000), vholdOk := false })).modEvt
        (fun e => { e with pcc := satInc 0xFFFFFF e.pcc })
      if s.sup.haltLatch then (((s.evtBoot).1.verShow).enterHalt s.sup.haltCause).condUpdate
      else if s.sup.decafLatch then
        let s := ((s.evtBoot).1.verShow).modPanel (fun p => { p with screen := .final mDECAF 0 })
        ((s.putB F.SYS_STAT_DECAF_LATCH true).setMode mDECAF).condUpdate
      else s.bootBegin 0)

/-- A slot from which BOOT may run: valid, its signature verifies, its version not below the floor (Table 3.3 step 2,
R365). -/
def State.slotOk (s : State) (x : Slot) (sig : Bool) : Bool := x.valid && sig && decide (s.get F.SEC_STAT_FLOOR ≤ x.version)

/-- Step 3: parameter defaults (Table 3.3). -/
def State.paramDefaults (s : State) : State :=
  let s := { s with regs := s.regs.foldl (fun (m : Mem) (x : Nat × Word) =>
    sset resetWord m x.1 ((x.2 &&& ~~~nvMask x.1) ||| (resetWord x.1 &&& nvMask x.1))) [] }
  (s.modSup (fun p => { p with bootCfg := s.reg R.SYS_BOOT_CFG })).logReg pgSYS 0x030

/-- Steps 4 and 5 on a channel: the core self-test, then LOCKOUT when a connector is absent (R38), from any state (Table
3.4), the TRIPPED of a failed self-test included. -/
def State.bootChannel (s : State) (r : BootResult) (n : Ch) : State :=
  let s := if r.core.getD n.val true then s else (s.modSup (fun p => { p with rebootFault := true })).tripC n 0x16
  if s.allPlugged n then s else (s.drivesOff n).enterState n stLOCKOUT 0

/-- Step 10 and the channel's outputs (R197, R207, R295, R328): TRIP closed and the inhibit off, except on a channel
that is TRIPPED, in LOCKOUT or joins as standby. -/
def State.bootReady (s : State) (n : Ch) : State :=
  let s := s.bootClaim n
  let out := s.chState n = stTRIPPED ∨ s.chState n = stLOCKOUT
  let s := if s.chState n = stLOCKOUT then s else s.drivesOn n
  let s := if out then s else
    (s.putB (F.CONT_STAT_INHIBIT n) false).putB (F.CONT_STAT_TRIP_ON n) (!(s.ch n).twin.standby)
  let s := if s.chState n ≠ stLOCKOUT ∧ s.get (F.RING_STAT_STATE n) = 0 then s.ringStart n else s
  let s := (s.pourStart n).coilsOn n
  let s := (s.percAuto n).impDue n
  if s.flag (F.VAX_CTRL_AUTOHOME n) ∧ s.flag (F.VAX_STAT_ENERGISED n) ∧ s.get (F.VAX_STAT_FAULT n) = 0 then s.homeStart n else s

/-- BOOT ends in LIMP after a masked fault, in RUN with AUTORUN, else in STANDBY (Table 3.2, R57). -/
def State.bootMode (s : State) : State :=
  let run := bit s.sup.bootCfg 0
  let s := (s.put F.SYS_STAT_BOOT_STEP 0).put F.SYS_STAT_OPLVL (if run then 3 else 2)
  if s.sup.rebootFault then
    (((s.modSup (fun p => { p with rebootFault := false })).setRaise F.SYS_STAT_REPLACE_REQUEST pgSYS 4).setMode mLIMP)
  else s.setMode (if run then mRUN else mSTANDBY)

/-- The steps of BOOT after the image is chosen. -/
def State.bootRest (s : State) (r : BootResult) : State :=
  let s := s.log 0x0140 0xF 0 (BitVec.ofNat 32 s.sup.startCause) (BitVec.ofNat 32 (s.get F.UPD_STAT_ACTIVE))
    (BitVec.ofNat 32 s.sup.skipped)
  let s := if r.params then s else s.paramDefaults
  let s := s.eachCh (fun t n => t.bootChannel r n)
  let s := if bit s.sup.bootCfg 1 ∧ !s.locked then s.logReg pgSYS 0x038 else s
  let s := s.bootShow 10
  let s := s.eachCh (fun t n => t.bootReady n)
  let s := if allCh.any (fun n => (s.ch n).twin.standby) then s.twinSend 5 [] else s
  (s.bootMode).condUpdate

/-- BOOT_END (Table 3.3, R54): the sequence is complete, or its 15 s have passed. -/
def execBootEnd (r : BootResult) (s : State) : Host.Outcome State Fault Refusal :=
  happen (
    if s.mode ≠ mBOOT ∨ s.sup.holdupAt.isSome then s
    else if !r.selftest then (s.enterHalt 3).condUpdate
    else if r.hot then (s.enterHalt 1).condUpdate
    else
      let b := s.flag F.UPD_STAT_ACTIVE
      let okA := s.slotOk s.upd.slotA r.sigA
      let okB := s.slotOk s.upd.slotB r.sigB
      if if b then okB else okA then s.bootRest r
      else if if b then okA else okB then
        let s := ((s.putB F.UPD_STAT_ACTIVE (!b)).modSup (fun p => { p with rebootFault := true })).logReg pgUPD 0x028
        s.bootRest r
      else (s.enterHalt 2).condUpdate)

/-! ## SYS.CMD (Table 3.8) -/

/-- SYS.CMD = STANDBY (R50). -/
def State.doStandby (s : State) : Res :=
  if s.mode ≠ mRUN ∧ s.mode ≠ mLIMP then refuse .state s
  else
    let s := s.setOplvl 2
    let s := s.eachCh (fun t n => if t.chState n = stPRECHARGE ∨ t.energised n then t.enterState n stSTOPPING 0x61 else t)
    (.ok, s.standbyCheck)

/-- SYS.CMD = RUN (R50). -/
def State.doRun (s : State) : Res :=
  if s.mode ≠ mSTANDBY ∧ s.mode ≠ mLIMP then refuse .state s
  else
    let s := s.setOplvl 3
    (.ok, if s.mode = mSTANDBY then s.setMode mRUN else s)

/-- Every tile into deep sleep (R55), zero duties before it (R155): from every master port of a ring that is up. -/
def State.ringSleep (s : State) (n : Ch) : State :=
  let s := if s.ringRuns n then (s.ports n).foldl (fun t p =>
    (t.sendFrame n p 4 0xFF zeroDutyFrame.payload).sendFrame n p 0xB 0xFF []) s else s
  s.put (F.RING_STAT_STATE n) 0

/-- SYS.CMD = DECAF (R55, R155, R345). Without 17 V on VHOLD what goes to parameter MRAM waits for it (R61). -/
def State.doDecaf (s : State) : Res :=
  let ready := s.mode = mSTANDBY ∨ (s.mode = mLIMP ∧ s.get F.SYS_STAT_OPLVL = 2)
  if ¬ready ∨ !allCh.all (fun n => s.chState n == stISOLATED || s.chState n == stLOCKOUT) ∨ s.sup.holdupAt.isSome then
    refuse .state s
  else
    let s := s.modPanel (fun p => { p with screen := .final mDECAF 0 })
    let s := s.eachCh (fun t n => ((((((t.ringSleep n).balZero n).pourStop n).percStop n 4).coilsOff n).modSafe n
      (fun f => { f with sdclk := false })))
    let s := s.modSup (fun p => { p with wakeRun := [], wakeVolt := false })
    (.ok, ((s.setMode mDECAF).evtRunEnd).nvStore)

/-- DECAF ends in BOOT, or the confirmation is refused and recorded (R56). -/
def State.wakeTry (s : State) (ok : Bool) : Res :=
  if ok then (.ok, s.rebootFrom 1) else (.state, s.logReg pgSYS 0x034)

/-- SYS.CMD = WAKE (R56). -/
def State.doWake (s : State) : Res :=
  if s.mode ≠ mDECAF ∨ s.sup.holdupAt.isSome then refuse .state s else s.wakeTry s.sup.wakeVolt

/-- SYS.CMD = RESTART (R58, R278, R345). -/
def State.doRestart (s : State) (src : Src) : Res :=
  if s.mode ≠ mHALT ∨ s.sup.holdupAt.isSome then refuse .state s
  else if !s.service src then refuse .priv s
  else if s.get F.SYS_STAT_HALT_CAUSE = 1 then refuse .state s
  else (.ok, ((s.evtRunEnd.nvStore).modSup (fun p => { p with haltLatch := false })).rebootFrom 2)

/-- SYS.CMD = HALT (R58). -/
def State.doHalt (s : State) : Res := if s.mode = mDECAF then refuse .state s else (.ok, s.enterHalt 5)

/-- The command of a value of SYS.CMD (Table 3.8). -/
def State.sysCmdOf (s : State) (src : Src) (v : Word) : Res :=
  match bitsOf v 3 0 with
  | 1 => s.doStandby
  | 2 => s.doRun
  | 3 => s.doDecaf
  | 4 => s.doWake
  | 5 => s.doRestart src
  | 6 => s.doHalt
  | _ => refuse .range s

/-- A power-fail hold-up or a HALT cause has come in this instant: both go before a SYS.CMD write of the round (R51). -/
def State.preempted (s : State) : Bool := s.sup.haltAt == some s.tb || s.sup.holdupAt == some s.tb

/-- A write of SYS.CMD. One refused because a higher-ranked event of the round left a mode that does not admit it is
recorded (R51). -/
def State.doSysCmd (s : State) (src : Src) (v : Word) : Res :=
  let r := s.sysCmdOf src v
  if r.1 = .state ∧ s.preempted then (.state, r.2.logReg pgSYS 0x034) else r

def State.sysCmd (s : State) (src : Src) (v : Word) : Host.Outcome State Fault Refusal :=
  answer (s.gated src pgSYS 0x034 v (fun t => t.doSysCmd src v))

def execStandby (src : Src) (s : State) : Host.Outcome State Fault Refusal := s.sysCmd src 1
def execRun (src : Src) (s : State) : Host.Outcome State Fault Refusal := s.sysCmd src 2
def execDecaf (src : Src) (s : State) : Host.Outcome State Fault Refusal := s.sysCmd src 3
def execWake (src : Src) (s : State) : Host.Outcome State Fault Refusal := s.sysCmd src 4
def execRestart (src : Src) (s : State) : Host.Outcome State Fault Refusal := s.sysCmd src 5
def execHalt (src : Src) (s : State) : Host.Outcome State Fault Refusal := s.sysCmd src 6

/-- A write of SYS.BOOT_CFG (Table 3.9). -/
def State.doBootCfg (s : State) (v : Word) : Res :=
  if bitsOf v 11 8 = 0 ∨ 6 < bitsOf v 11 8 then refuse .range s else (.ok, s.setReg R.SYS_BOOT_CFG (v &&& 0xF03))

/-! ## Decaf (R56) -/

/-- WAKE_VOLTAGE_CHECK: the bus voltages of the channels, in mV; a channel in LOCKOUT is not checked. -/
def execWakeVoltageCheck (mv : List Nat) (s : State) : Host.Outcome State Fault Refusal :=
  let run := allCh.map (fun n =>
    if s.chState n ≠ stLOCKOUT ∧ 50000 ≤ nth mv n.val then nth s.sup.wakeRun n.val + 1 else 0)
  happen (if s.mode = mDECAF then s.modSup (fun p => { p with wakeRun := run, wakeVolt := run.any (fun k => decide (2 ≤ k)) }) else s)

/-- PANEL_WAKE_CONFIRM: an ACK hold of 3 s with the key switch in SERVICE. -/
def execPanelWakeConfirm (s : State) : Host.Outcome State Fault Refusal :=
  happen (
    if s.mode ≠ mDECAF ∨ !s.flag F.PANEL_STAT_KEYSW ∨ s.sup.holdupAt.isSome then s
    else (s.wakeTry (s.sup.wakeVolt || allCh.all (fun n => s.chState n == stLOCKOUT))).2)

/-! ## Supplies (R59 to R61, R381 to R383) -/

/-- LOGIC24_LOW (R59). -/
def execLogic24Low (mv : Nat) (s : State) : Host.Outcome State Fault Refusal :=
  happen (if mv < 18000 then (s.raise pgSYS 5).logNone pgSYS else s)

/-- LOGIC24_HIGH (Table 22.2). -/
def execLogic24High (s : State) : Host.Outcome State Fault Refusal := happen (s.logNone pgSYS)

/-- AUX24_LOW and AUX24_RESTORED (R381): connect requests are refused in between. -/
def execAux24Low (s : State) : Host.Outcome State Fault Refusal :=
  happen (((s.modSup (fun p => { p with auxLow := true })).raise pgSYS 5).logNone pgSYS)
def execAux24Restored (s : State) : Host.Outcome State Fault Refusal :=
  happen (s.modSup (fun p => { p with auxLow := false }))

/-- AUX_FUSE_OPEN (R383): the outputs lose their supply; R261 judges the HOLD readbacks. -/
def execAuxFuseOpen (s : State) : Host.Outcome State Fault Refusal :=
  happen (
    if s.sup.fuseAt.isSome then s
    else ((s.modSup (fun p => { p with fuseAt := some s.tb })).eachCh
      (fun t n => t.modSafe n (fun f => { f with pulseA := false, pulseB := false }))).logNone pgSYS)

/-- A HOLD output is commanded on. -/
def State.anyHold (s : State) : Bool :=
  allCh.any (fun n => s.flag (F.CONT_STAT_HOLD_POS n) || s.flag (F.CONT_STAT_HOLD_NEG n) || s.flag (F.CONT_STAT_HOLD_PRE n))

/-- AUX_FUSE_RECLOSE (R383). -/
def execAuxFuseReclose (s : State) : Host.Outcome State Fault Refusal :=
  happen (
    match s.sup.fuseAt with
    | some t => if s.passedMs t 1000 ∧ !s.anyHold then s.modSup (fun p => { p with fuseAt := none }) else s
    | none => s)

/-- VHOLD_CHARGED (R382): HOLDUP_OK reads 1 unless Crema has found the capacitor too small; what has waited for VHOLD is
written (R61). -/
def execVholdCharged (s : State) : Host.Outcome State Fault Refusal :=
  happen (((s.modSup (fun p => { p with vholdOk := true })).putB F.SYS_STAT_HOLDUP_OK (!s.flag F.HLTH_STAT_HOLDUP)).nvStore)

/-- The items that hold-up left unwritten, as `SupS.pfItems` numbers them. -/
def HoldupOutcome.missing (o : HoldupOutcome) : Nat :=
  b2n (!o.events) + allCh.foldl (fun a n => a + (if o.est.getD n.val true then 0 else 2 ^ (n.val + 1))) 0
    + (if o.params then 0 else 512)

/-- Steps 3 to 5 of R60, as far as VHOLD allowed (R61): events, estimators that have been loaded since the start,
parameters with committed chemistry, the retained data, the operating time and the time of day. -/
def State.holdupStore (s : State) (o : HoldupOutcome) : State :=
  let s := s.modSup (fun p => { p with vholdOk := true })
  let s := if o.events then s.evtRunEnd else s
  let s := s.eachCh (fun t n => if o.est.getD n.val true && !(t.ch n).est.unloaded then t.estWrite n else t)
  let s := if o.params then
    let t := (s.mramSave.eachCh (fun t n => (t.chemStore n).retainSave n)).optimeSave
    { t with clock := { t.clock with storedTime := t.clock.plant } } else s
  s.modSup (fun p => { p with vholdOk := false, pfItems := HoldupOutcome.missing o })

/-- HOLDUP_START (R60): the PWM is inhibited, the coils go off (R197), zero duties are sent (R155), TRIP opens 1 ms later (TRIP_OPEN), and steps 3
to 5 store what they can. -/
def execHoldupStart (o : HoldupOutcome) (s : State) : Host.Outcome State Fault Refusal :=
  happen (
    if s.sup.holdupAt.isSome then s
    else
      let s := (s.modSup (fun p => { p with holdupAt := some s.tb })).modPanel (fun p => { p with screen := .final s.mode 0 })
      let s := (s.raise pgSYS 3).log 0x0142 0xF 2 (BitVec.ofNat 32 o.mv) 0 0
      let s := s.eachCh (fun t n =>
        ((((t.putB (F.CONT_STAT_INHIBIT n) true).pwmOff n).coilsOff n).balZero n).modSafe n (fun f => { f with tripAt := some t.tb }))
      s.holdupStore o)

/-- HOLDUP_RESET (R60): 60 ms after the start the module resets, to start as at power-on. -/
def execHoldupReset (s : State) : Host.Outcome State Fault Refusal :=
  happen (
    match s.sup.holdupAt with
    | some t => if s.passedMs t 60 then s.coldReset else s
    | none => s)

end Sys2Proof.Machine
end

