-- ==== Sys2Proof/Machine/Operands.lean ====
section
/-! DEFINITION. The ranges of the registers that only keep their value (the access column and descriptions of the
register tables; R163, R165): a write outside is refused with RANGE. -/

namespace Sys2Proof.Machine
open Sys2Proof

/-- lo ≤ field ≤ hi. -/
def within (v : Word) (hi lo a b : Nat) : Bool := a ≤ bitsOf v hi lo && bitsOf v hi lo ≤ b

/-- Every byte is at most m. -/
def bytesLe (v : Word) (m : Nat) : Bool := [0, 8, 16, 24].all (fun b => decide (bitsOf v (b + 7) b ≤ m))

/-- Every byte, read as signed, lies in lo to hi. -/
def bytesIn (v : Word) (lo hi : Int) : Bool :=
  [0, 8, 16, 24].all (fun b => decide (lo ≤ signed 8 (bitsOf v (b + 7) b)) && decide (signed 8 (bitsOf v (b + 7) b) ≤ hi))

/-- CTLE.CTRL (Table 9.5, R163, R165). -/
def ctleCtrlOk (v : Word) : Bool :=
  let m := bitsOf v 5 0
  within v 29 16 50 2000 && within v 13 12 1 3 && within v 9 8 0 2 && [5, 8, 10, 16, 20, 25, 32, 40].contains m
    && decide (10 * 2 ^ bitsOf v 9 8 ≤ 2 * m)

/-- A pair of cell bounds, OV over UV (Table 8.6, SAFE.CELL). -/
def boundsOk (v : Word) : Bool := bitsOf v 31 16 ≤ 0xAFC8 && decide (bitsOf v 15 0 < bitsOf v 31 16)

/-- The range of element k of a register without behaviour of its own. -/
def State.rangeOk (s : State) (pg : PageRef) (off k : Nat) (v : Word) : Bool :=
  match pg.page with
  | .sys => if off = 0x020 then within v 9 0 0 999 else true
  | .snap => if off = 0x034 then within v 13 0 1 10000 else true
  | .ring => if off = 0x028 then
      within v 4 0 1 26 && within v 24 16 (4 * bitsOf v 4 0) (16 * bitsOf v 4 0) else true
  | .pour => if off = 0x020 then within v 5 4 0 2 else true
  | .cdiag => match off with
    | 0x020 => within v 1 0 0 1
    | 0x024 => within v 31 24 5 100 && within v 23 16 10 200 && within v 8 0 20 500
    | 0x028 => within v 9 0 0 1000
    | 0x02C => boundsOk v
    | _ => true
  | .bal => match off with
    | 0x020 => within v 15 8 10 150 && within v 1 0 0 2
    | 0x024 => within v 31 16 60 65535 && within v 15 0 0 1000
    | 0x02C => within v 11 0 1 3600
    | _ => true
  | .ctle => match off with
    | 0x020 => ctleCtrlOk v
    | 0x024 => within v 31 16 1 65535 && within v 15 0 1 2000
    | _ => true
  | .vax => match off with
    | 0x024 => within v 31 24 1 150 && within v 23 16 0 (bitsOf v 31 24) && within v 15 8 4 80 && within v 3 0 0 8
    | 0x028 => within v 31 16 0x40 0x4000 && within v 15 0 16 4096
    | 0x02C => within v 31 20 1 3125 && within v 19 8 1 (bitsOf v 31 20) && within v 7 0 1 255
    | 0x034 => decide (signed 16 (bitsOf v 15 0) < signed 16 (bitsOf v 31 16))
    | _ => true
  | .imp => match off with
    | 0x024 => within v 31 16 1 65535 && within v 15 8 0 60 && within v 4 0 0 20
    | 0x028 => within v 15 0 1 400
    | 0x030 => within v 19 16 1 15 && within v 12 0 0 5000
    | _ => true
  | .est => match off with
    | 0x038 => within v 31 24 10 255 && within v 23 12 1 4095 && within v 11 0 1 4095
    | 0x03C => within v 31 24 1 64 && within v 23 16 0 100 && within v 15 8 0 20
    | 0x040 => within v 23 16 1 255
    | _ => true
  | .alloc => if off = 0x028 then within v 12 0 0 6000 else true
  | .therm => match off with
    | 0x070 => if k ≤ 1 then bytesIn v (-40) 80 else bytesLe v 100
    | 0x080 | 0x0C0 => bytesLe v 100
    | _ => true
  | .safe => match off with
    | 0x020 => boundsOk v
    | 0x024 => within v 31 16 (s.get (F.CTLE_STAGE_IRATED pg.ch) + 1) 2500 && within v 15 8 20 90
    | 0x030 => within v 31 16 30 4320
    | _ => true
  | .cont => if off = 0x024 then within v 31 24 1 60 && within v 15 0 20 500 else true
  | .pmc | .pmcs =>
    if off = 0x040 then evselOk pg 0 (bitsOf v 7 0) else if off = 0x0A0 then evselOk pg 1 (bitsOf v 7 0) else true
  | .host | .panel | .ptp | .can | .evt | .upd | .sec | .twin | .hlth | .test | .ch | .cbk0 | .cbk1 | .prof | .perc
  | .fifo => true

end Sys2Proof.Machine
end

