-- ==== Sys2Proof/Machine/Access.lean ====
section
/-! DEFINITION. Register access (R9, R10, R72, R76 to R84, R296, R392 to R394): what a read of an address answers and
what a write does, the page header, soft reset and block enable. -/

namespace Sys2Proof.Machine
open Sys2Proof

/-- Table 4.3. -/
def Status.code (st : Status) : Nat :=
  match st with
  | .ok => 0x00 | .access => 0x01 | .noaddr => 0x02 | .align => 0x03 | .range => 0x04 | .state => 0x05
  | .locked => 0x06 | .owner => 0x07 | .oldseq => 0x08 | .toobig => 0x09 | .badop => 0x0A | .aborted => 0x0B
  | .priv => 0x0C | .aliasRead => 0x0D | .bcastPartial => 0x0E

/-! ## Reading -/

/-- The block runs: PAGE_STAT.READY (Table 4.7, R325; DEDUCED, log entry 57). -/
def State.ready (s : State) (pg : PageRef) : Bool :=
  s.enabled pg && (match pg.page with
    | .sys | .host => s.mode != mBOOT
    | .pour => s.carries && (s.ch pg.ch).pour.on
    | .vax => s.carries && (!s.twinCh pg.ch || s.getBit F.TWIN_CHCFG_VLV pg.ch.val)
    | _ => s.carries)

/-- The kept identity of a source. -/
def State.idState (s : State) (src : Src) : Option IdState :=
  match s.identOf src with
  | some i => s.idents.find? (fun x => x.ident == i)
  | none => none

/-- PAGE_STAT as a source reads it (Table 4.7, R84); the other header registers as stored. -/
def State.headerWord (s : State) (src : Src) (pg : PageRef) (off : Nat) (w : Word) : Word :=
  if off = 0x008 then
    BitVec.ofNat 32 (b2n (s.flag (F.HOLDOVER pg)) * 16
      + b2n (match src with | .session _ => !s.unlocked src pg | _ => true) * 8
      + b2n (s.flag (F.COLLIDE pg)) * 4 + b2n (s.flag (F.FAULT pg)) * 2 + b2n (s.ready pg))
  else w

/-- HOST registers of the reading identity (R30, R80). -/
def State.hostWord (s : State) (src : Src) (off : Nat) (w : Word) : Word :=
  match s.idState src, off with
  | some x, 0x020 => x.lastHseq
  | some x, 0x024 => x.dseq
  | some x, 0x02C => x.bcast
  | _, 0x028 => w
  | _, _ => 0

/-- LIMIT of R210 as IMP.AMP shows it, 10 mA/LSB. -/
def State.impAmp (s : State) (n : Ch) (w : Word) : Word := putBits w 31 16 (roundHalf (s.impLimit n * 100)).toNat

/-- A read of element k of a block register, its stored word being w. -/
def State.readBlock (s : State) (src : Src) (pg : PageRef) (off k : Nat) (w : Word) : Status × State × Word :=
  let n := pg.ch
  let plain : Status × State × Word := (.ok, s, w)
  let get (r : State × Word) : Status × State × Word := (.ok, r.1, r.2)
  match pg.page with
  | .host => (.ok, s, s.hostWord src off w)
  | .ptp => match off with
    | 0x024 => (.ok, s, putBits w 15 0 s.holdAge)
    | 0x030 => (.ok, s, s.timeS)
    | 0x034 => (.ok, s, s.timeShi)
    | 0x038 => (.ok, s, s.timeNs)
    | _ => plain
  | .can => match off with
    | 0x100 => s.readRxWin src k
    | 0x200 => (.ok, s, s.readTxb 0 k)
    | 0x280 => (.ok, s, s.readTxb 1 k)
    | 0x300 => (.ok, s, s.readTxb 2 k)
    | _ => plain
  | .evt => if off = 0x040 then get (s.readEvtWin src k) else (.ok, s, s.evtReg src off)
  | .upd => match off with
    | 0x034 => (.ok, s, s.readActHi)
    | 0x200 => (.ok, s, s.readStageWin k)
    | _ => plain
  | .sec => if off = 0x200 then (.ok, s, s.readObjWin k) else plain
  | .test => if off = 0x024 then (.ok, s, s.testStat) else plain
  | .ctle => match off with
    | 0x040 | 0x044 => (.ok, s, s.presentWord pg off)
    | 0x058 => s.readCapData n
    | _ => plain
  | .imp => if off = 0x028 then (.ok, s, s.impAmp n w) else plain
  | .est => if off = 0x02C then get (s.readChemData n) else plain
  | .safe => if off = 0x030 then (.ok, s, putBits w 15 0 (min 65535 (s.degNow n / 60000))) else plain
  | .perc => if off = 0x030 then get (s.readProgData n) else plain
  | .fifo => if off = 0x034 then get (s.readFifo n) else plain
  | .pmc | .pmcs => match off with
    | 0x030 => get (s.readPs pg)
    | 0x058 => get (s.readCntl pg 0 k)
    | 0x0B8 => get (s.readCntl pg 1 k)
    | 0x05C => (.ok, s, s.readCnth pg 0 k)
    | 0x0BC => (.ok, s, s.readCnth pg 1 k)
    | _ => plain
  | .sys | .snap | .panel | .alloc | .therm | .twin | .hlth | .ch | .ring | .pour | .cdiag | .bal | .cbk0 | .cbk1
  | .prof | .vax | .cont => plain

/-- A read of a page offset: WO fields read 0, an unassigned offset reads 0 (R76), RO-S registers follow a held
snapshot (R9). -/
def State.readReg (s : State) (src : Src) (pg : PageRef) (off : Nat) : Status × State × Word :=
  match s.reachable src pg with
  | .ok => match s.pmcReadable src pg with
    | .ok => match findReg pg.page off with
      | none => (.ok, s, 0)
      | some (d, k) =>
        let w := s.shownReg (hdr pg off) &&& ~~~(maskOf d (fun a => a == .wo))
        if off < 0x20 then (.ok, s, s.headerWord src pg off w) else s.readBlock src pg d.off k w
    | st => (st, s, 0)
  | st => (st, s, 0)

/-- What an address cannot be read for: alignment, the broadcast alias, no mapping (R72, R76, R79). -/
def addrStatus (a : Nat) : Status :=
  if a % 4 ≠ 0 then .align
  else match locate a with
    | .bcast _ => .aliasRead
    | .unmapped => .noaddr
    | _ => .ok

/-- A read of one word of an address. The windows are no pages: user code reads pages only (R296). -/
def State.readAddr (s : State) (src : Src) (a : Nat) : Status × State × Word :=
  match addrStatus a with
  | .ok => match locate a with
    | .page pg off => s.readReg src pg off
    | .window n off =>
      if userCode src then (.access, s, 0)
      else match s.reachable src (pgCH n) with
        | .ok => let r := s.readWin src n off; (.ok, r.1, r.2)
        | st => (st, s, 0)
    | _ => (.noaddr, s, 0)
  | st => (st, s, 0)

/-- The words of a list of addresses, in order; a refused word ends the read without data (R72; DEDUCED, log entry 55). -/
def State.readWords (s : State) (src : Src) : List Nat → List Word → Status × State × List Word
  | [], acc => (.ok, s, acc.reverse)
  | a :: t, acc =>
    match s.readAddr src a with
    | (.ok, s1, w) => s1.readWords src t (w :: acc)
    | (st, s1, _) => (st, s1, [])

/-- READ and READ_REPEAT over their addresses: every address is checked before the first is read (R72). -/
def State.readOp (s : State) (src : Src) (addrs : List Nat) : OpResult × State :=
  match (addrs.map addrStatus).find? (· != .ok) with
  | some st => (⟨st, 0, false, 0, []⟩, s)
  | none =>
    let r := s.readWords src addrs []
    (⟨r.1, r.2.2.length, false, 0, r.2.2⟩, r.2.1)

/-! ## Page header writes -/

/-- The pages on which ENABLE = 0 is refused with ACCESS (R394), and those on which SOFT_RESET is refused with STATE
(Table 4.6). -/
def noDisable (p : Page) : Bool :=
  [.sys, .host, .snap, .panel, .ptp, .therm, .evt, .upd, .sec, .twin, .hlth, .test, .ch, .safe, .cont].contains p
def noReset (p : Page) : Bool := [.sys, .host, .snap, .ptp, .sec, .test].contains p

/-- The counts of a page (R393): bits of a register row that a soft reset clears though no write reaches them. -/
def countMask (p : Page) (off : Nat) : Word :=
  match p, off with
  | .ring, 0x034 | .pour, 0x030 | .fifo, 0x038 | .fifo, 0x03C | .cdiag, 0x040 | .ctle, 0x03C | .est, 0x04C
  | .perc, 0x0B0 | .twin, 0x034 => 0xFFFFFFFF
  | .ring, 0x02C => 0x000000FF
  | .imp, 0x074 => 0x00FFFFFF
  | .est, 0x040 | .can, 0x038 => 0x0000FFFF
  | _, _ => 0

/-- The bits of a row that a soft reset returns to their reset values: RW and RW-I fields not kept in parameter MRAM
and not of a protected register, W1C bits, counts (R393). -/
def softMask (p : Page) (d : RegD) : Word :=
  let rw := if d.prot then 0 else maskOf d (fun a => a == .rw || a == .rwi) &&& ~~~(nvMaskOf d)
  rw ||| maskOf d (fun a => a == .w1c) ||| countMask p d.off

/-- The block registers of a page return to their reset values (R393). -/
def State.softRegs (s : State) (pg : PageRef) : State :=
  (pageRegs pg.page).foldl (fun t d =>
    let m := softMask pg.page d
    if m = 0 then t
    else (List.range d.count).foldl (fun u k =>
      let off := d.off + k * d.stride
      let a := hdr pg off
      u.setReg a ((u.reg a &&& ~~~m) ||| (pageReset pg off &&& m))) t) s

/-- What a soft reset does on a page beside its registers (R142, R152, R181, R351, R355, R393). -/
def State.softBlock (s : State) (src : Src) (pg : PageRef) : State :=
  let n := pg.ch
  match pg.page with
  | .cdiag => ((s.suspClear n).setReg (R.CDIAG_CNT n) 0).condUpdate
  | .ctle =>
    let s := (s.putB (F.CTLE_STAT_IMAIN_FAIL n) false).putB (F.CTLE_STAT_IAUX_FAIL n) false
    if (s.ch n).ctle.injFrom.isSome then s.injFinish n else s
  | .fifo => s.fifoReset n
  | .ring => if s.chState n = stISOLATED then s.ringStart n else s
  | .bal => s.balZero n
  | .prof => (s.modProf n (fun p => { p with curOn := false })).vlvResync n
  | .est => s.chemSync n
  | .perc => s.percStop n 0
  | .evt => s.setCursor src s.evt.first
  | .alloc => { s with alloc := { s.alloc with cmdAt := s.tb } }
  | .pmc | .pmcs => s.pmcReset pg
  | .sys | .host | .snap | .panel | .ptp | .can | .therm | .upd | .sec | .twin | .hlth | .test | .ch | .pour | .cbk0
  | .cbk1 | .vax | .imp | .safe | .cont => s

/-- CDIAG.CTRL.MODE stood at `old` before a write: a change sets the schedule up anew (R146). -/
def State.owModed (s : State) (n : Ch) (old : Nat) : State := if s.get (F.CDIAG_CTRL_MODE n) = old then s else s.owRemode n

/-- The soft reset of R393. -/
def State.softReset (s : State) (src : Src) (pg : PageRef) : State :=
  let t := (s.softRegs pg).softBlock src pg
  if pg.page = .cdiag then t.owModed pg.ch (s.get (F.CDIAG_CTRL_MODE pg.ch)) else t

/-- ENABLE turned to 0 (Table 4.19). -/
def State.pageOff (s : State) (pg : PageRef) : State :=
  let n := pg.ch
  match pg.page with
  | .ring | .pour => s.pourStopAfter n
  | .cdiag => s.condUpdate
  | .bal => s.balZero n
  | .ctle => s.pwmOff n
  | .prof =>
    ((s.modProf n (fun p => { p with curOn := false })).setReg (R.PROF_CUR_OUT n) 0).vlvHold n (s.vkin n).p
  | .vax => s.coilsOff n
  | .imp => (s.voidBy n 8).modImp n (fun p => { p with due := none })
  | .est => s.modEst n (fun e => { e with restT0 := none })
  | .perc => s.percStop n 0
  | .can => s.canLeave
  | .sys | .host | .snap | .panel | .ptp | .alloc | .therm | .evt | .upd | .sec | .twin | .hlth | .pmcs | .test | .ch
  | .cbk0 | .cbk1 | .safe | .cont | .fifo | .pmc => s

/-- ENABLE returned to 1 (Table 4.19). -/
def State.pageOn (s : State) (pg : PageRef) : State :=
  let n := pg.ch
  match pg.page with
  | .ring => s.ringStart n
  | .pour => s.pourStart n
  | .cdiag => ((s.ch n).cdiag.susp.filter (fun u => !u.latched)).foldl (fun t u => t.owDue n u.tile u.tap) s.condUpdate
  | .prof => (s.modProf n (fun p => { p with curOn := false })).vlvResync n
  | .vax => s.coilsOn n
  | .imp => s.impDue n
  | .bal => s.modBal n (fun b => { b with duty := [], hset := [], want := [] })
  | .sys | .host | .snap | .panel | .ptp | .can | .alloc | .therm | .evt | .upd | .sec | .twin | .hlth | .pmcs | .test
  | .ch | .ctle | .cbk0 | .cbk1 | .est | .safe | .cont | .perc | .fifo | .pmc => s

/-- What a write of PAGE_CTRL is refused for (Table 4.6, R392, R394). -/
def State.pageCtrlStatus (s : State) (pg : PageRef) (v : Word) : Status :=
  let st := s.chState pg.ch
  if !bit v 0 && noDisable pg.page then .access
  else if pg.page.isChan && bit v 0 != s.enabled pg && st != stISOLATED then .state
  else if bit v 31 && (noReset pg.page || (pg.page.isChan && st != stISOLATED && st != stLOCKOUT)) then .state
  else .ok

/-- A write of PAGE_CTRL. -/
def State.doPageCtrl (s : State) (src : Src) (pg : PageRef) (v : Word) : Res :=
  match s.pageCtrlStatus pg v with
  | .ok =>
    let was := s.enabled pg
    let s := s.putB (F.ENABLE pg) (bit v 0)
    let s := if was && !bit v 0 then s.pageOff pg else if !was && bit v 0 then s.pageOn pg else s
    (.ok, if bit v 31 then s.softReset src pg else s)
  | st => refuse st s

/-! ## PAGE_UNLOCK (R84) -/

def unlockKey : Word := 0x0000C0FE

def State.modSession (s : State) (sid : Nat) (f : Session → Session) : State :=
  { s with sessions := s.sessions.map (fun x => if x.sid = sid then f x else x) }

def State.modIdent (s : State) (i : Ident) (f : IdState → IdState) : State :=
  { s with idents := s.idents.map (fun x => if x.ident = i then f x else x) }

/-- Index of an identity in the table of kept identities, and bytes 0 to 3 of its hash (Table 19.2). -/
def State.identIx (s : State) (i : Ident) : Nat := s.idents.findIdx (fun x => x.ident == i)
def identHead (i : Ident) : Word := (i >>> 224).setWidth 32

/-- The identity is locked out of unlocking the page. -/
def State.lockedOut (s : State) (i : Ident) (pg : PageRef) : Bool :=
  match s.idents.find? (fun x => x.ident == i) with
  | some x => x.lockouts.any (fun l => l.1 == pg && decide (s.tb - l.2 < 60000000000))
  | none => false

/-- A failed sequence; the third within 60 s locks the identity out of the page and is recorded. -/
def State.unlockFail (s : State) (i : Ident) (pg : PageRef) : State :=
  let s := s.modIdent i (fun x => { x with
    fails := (x.fails.filter (fun f => decide (s.tb - f.2 < 60000000000))) ++ [(pg, s.tb)] })
  match s.idents.find? (fun x => x.ident == i) with
  | some x =>
    if 3 ≤ (x.fails.filter (fun f => f.1 == pg)).length then
      let s := s.modIdent i (fun x => { x with
        fails := x.fails.filter (fun f => f.1 != pg), lockouts := (pg, s.tb) :: x.lockouts.filter (fun l => l.1 != pg) })
      s.log 0x0240 0xF 1 (BitVec.ofNat 32 (s.identIx i)) (identHead i) (BitVec.ofNat 32 (2 ^ 24 + pageBase pg))
    else s
  | none => s

/-- A write of PAGE_UNLOCK by a session; the unlock of the page ends with any such write. -/
def State.doUnlock (s : State) (src : Src) (pg : PageRef) (v : Word) : Res :=
  match src with
  | .session sid => match s.session sid with
    | none => refuse .state s
    | some x =>
      if s.lockedOut x.ident pg then refuse .locked s
      else
        let begun := x.begun.contains pg
        let good := begun && v == BitVec.ofNat 32 (pageType pg.page)
        let s := s.modSession sid (fun y => { y with
          unlocks := (y.unlocks.filter (fun u => u.1 != pg)) ++ (if good then [(pg, s.tb)] else [])
          begun := (y.begun.filter (· != pg)) ++ (if v = unlockKey then [pg] else []) })
        (.ok, if begun && !good then s.unlockFail x.ident pg else s)
  | _ => (.ok, s)

/-! ## Writing -/

/-- What follows from a register that only keeps its value: the comparator thresholds go to the tiles (R154), the
conditions of HLTH.STAT.COND are judged (R250), coils follow CHCFG.VLV (R325). -/
def State.afterWrite (s : State) (pg : PageRef) (off : Nat) : State :=
  match pg.page, off with
  | .cdiag, 0x02C => (s.cmpSend pg.ch).condUpdate
  | .cdiag, 0x020 | .safe, 0x020 => s.condUpdate
  | .safe, 0x028 => (s.siFollow pg.ch).condUpdate
  | .imp, 0x024 => s.impResched pg.ch
  | .twin, 0x024 => s.eachCh (fun t n => if t.flag (F.VAX_STAT_ENERGISED n) && !t.coilsAllowed n then t.coilsOff n else t)
  | _, _ => s

/-- A register that only keeps its value: its range, then its fields by their access types. -/
def State.plainWrite (s : State) (pg : PageRef) (d : RegD) (k : Nat) (v : Word) : Res :=
  if !s.rangeOk pg d.off k v then refuse .range s
  else
    let a := hdr pg (d.off + k * d.stride)
    (.ok, (s.setReg a (writeWord d (s.reg a) v)).afterWrite pg d.off)

/-- A write of element k of a block register. -/
def State.writeBlock (s : State) (src : Src) (pg : PageRef) (d : RegD) (k : Nat) (v : Word) (join : Bool) : Res :=
  let n := pg.ch
  let plain := s.plainWrite pg d k v
  match pg.page with
  | .sys => match d.off with
    | 0x034 => s.doSysCmd src v
    | 0x038 => s.doBootCfg v
    | _ => plain
  | .snap => match d.off with
    | 0x020 => s.doSnapReq src v join
    | 0x024 => s.doSnapEnd src
    | _ => plain
  | .ptp => if d.off = 0x020 then s.doPtpCtrl v else plain
  | .can => match d.off with
    | 0x020 => s.doCanCtrl v
    | 0x024 => s.doCanCmd v
    | 0x030 => s.doTxcmd v
    | 0x200 => s.doTxb 0 k v
    | 0x280 => s.doTxb 1 k v
    | 0x300 => s.doTxb 2 k v
    | _ => plain
  | .alloc => match d.off with
    | 0x020 => s.doAllocCtrl v
    | 0x024 => s.doPcmd v
    | _ => plain
  | .evt => match d.off with
    | 0x030 => (.ok, s.setCursor src v)
    | 0x034 => s.doEvtCmd src v
    | _ => plain
  | .upd => match d.off with
    | 0x020 => s.doUpdCtrl v
    | 0x024 => s.doUpdCmd src v
    | 0x030 => s.doActTime false v
    | 0x034 => s.doActTime true v
    | 0x038 => s.doStageOff v
    | 0x200 => s.doStageWin src k v
    | _ => plain
  | .sec => match d.off with
    | 0x024 => s.doSecCmd v
    | 0x028 => s.doObjCtrl v
    | 0x200 => s.doObjWin k v
    | _ => plain
  | .twin => if d.off = 0x030 then s.doHandover v else plain
  | .hlth => if d.off = 0x020 then s.doHlthCtrl src v else plain
  | .test => if d.off = 0x020 then s.doTestUnlock v else plain
  | .ring => if d.off = 0x020 then s.doRingCtrl n v else plain
  | .cdiag => match d.off with
    | 0x020 => (plain.1, if plain.1 = .ok then plain.2.owModed n (s.get (F.CDIAG_CTRL_MODE n)) else plain.2)
    | 0x03C => s.doCdiagCmd n v
    | _ => plain
  | .bal => if d.off = 0x028 then s.doHcmd n v else plain
  | .ctle => match d.off with
    | 0x028 => s.doBanksel n v
    | 0x040 => s.doGain n false v
    | 0x044 => s.doGain n true v
    | 0x048 => s.doInjCtrl n v
    | 0x050 => s.doCapCtrl n v
    | _ => plain
  | .cbk0 => s.doCoef n 0 d.off v
  | .cbk1 => s.doCoef n 1 d.off v
  | .prof => match d.off with
    | 0x020 => s.doCurTarget src n v
    | 0x024 => s.doLimit n .curLim v
    | 0x028 => s.doLimit n .curStop v
    | 0x02C => s.doVlvTarget n v
    | 0x030 => s.doLimit n .vlvLim v
    | 0x034 => s.doStop n v
    | _ => plain
  | .vax => if d.off = 0x020 then s.doVaxCtrl n v else plain
  | .imp => match d.off with
    | 0x020 => s.doImpCtrl n v
    | 0x070 => s.doImpCmd n v
    | _ => plain
  | .est => match d.off with
    | 0x020 => s.doEstCtrl src n v
    | 0x028 => s.doChemAddr n v
    | 0x02C => s.doChemData n v
    | 0x030 => s.doChemCmd n v
    | 0x044 => s.doIcal n v
    | _ => plain
  | .safe => if d.off = 0x040 then s.doSafeCmd src n v else plain
  | .cont => if d.off = 0x020 then s.doContCmd n v else plain
  | .perc => match d.off with
    | 0x020 => s.doPercCtrl n v
    | 0x02C => s.doProgAddr n v
    | 0x030 => s.doProgData n v
    | 0x034 => s.doPercCmd src n v
    | _ => plain
  | .fifo => if d.off = 0x024 then s.doFifoCmd n v else plain
  | .pmc | .pmcs => match d.off with
    | 0x028 => s.doPsCtrl pg v
    | 0x058 => s.doCntl pg 0 k v
    | 0x0B8 => s.doCntl pg 1 k v
    | 0x05C => s.doCnth pg 0 k v
    | 0x0BC => s.doCnth pg 1 k v
    | _ => plain
  | .host | .panel | .therm | .ch | .pour => plain

/-- A write of a header register (R78). -/
def State.writeHeader (s : State) (src : Src) (pg : PageRef) (off : Nat) (v : Word) : Res :=
  match off with
  | 0x004 => s.doPageCtrl src pg v
  | 0x010 => (.ok, s.setReg (R.IRQ_EN pg) v)
  | 0x014 => (.ok, s.pendClear pg v)
  | 0x01C => s.doUnlock src pg v
  | _ => refuse .access s

/-- A write of a page offset behind every check that does not depend on the register (R392). -/
def State.writeReg (s : State) (src : Src) (pg : PageRef) (off : Nat) (v : Word) (join : Bool) : Res :=
  s.gated src pg off v (fun t =>
    match findReg pg.page off with
    | none => refuse .noaddr t
    | some (d, k) => if off < 0x20 then t.writeHeader src pg off v else t.writeBlock src pg d k v join)

/-- The mode and provisioning rules for a write of a data window (R48), whose words are RO-S. -/
def State.writeAddr (s : State) (src : Src) (a : Nat) (v : Word) (join : Bool) : Res :=
  if a % 4 ≠ 0 then refuse .align s
  else match locate a with
    | .page pg off => s.writeReg src pg off v join
    | .window n off =>
      match s.modeGate src (pgCH n) off with
      | .ok => refuse .access s
      | st => refuse st s
    | .bcast _ | .unmapped => refuse .noaddr s

/-- A register whose write is a request or a command of its own: it keeps no value that a later write could replace
(R26, R53, R82; DEDUCED, log entry 4). -/
def isRequest (a : Nat) : Bool :=
  match locate a with
  | .page pg off => match findReg pg.page off with
    | some (d, _) => maskOf d (fun x => x == .rw || x == .rwi) = 0
    | none => false
  | _ => false

/-- FIFO.CMD, whose commands of one round are applied lowest rank first (R140). -/
def isFifoCmd (a : Nat) : Bool := match locate a with | .page pg off => pg.page == .fifo && off == 0x024 | _ => false

/-- An arbitration request begins (R82, R83; DEDUCED, log entry 4): with `join` it takes part in the round of the request
before it, unless its own port has had a request in that round; otherwise it opens a round. -/
def State.enter (s : State) (src : Src) (join : Bool) : State :=
  if join && !s.joined.any (fun x => x.2 == s.rankOf src) then s else { s with joined := [] }

/-- One register write of a request, `prev` being the writes of its round before the request (R82; DEDUCED, log entry 4):
after a write of a higher rank it is overwritten. -/
def State.roundWrite (s : State) (src : Src) (prev : List (Nat × Nat)) (a : Nat) (v : Word) : Res × Bool :=
  let rank := s.rankOf src
  let hit := prev.find? (fun x => x.1 == a && !(isFifoCmd a && decide (x.2 < rank)))
  let r := s.writeAddr src a v hit.isSome
  match locate a, r.1, hit with
  | .page pg _, .ok, some x =>
    if x.2 < rank ∧ !isRequest a then ((.ok, s.collide pg), true)
    else ((.ok, { r.2.collide pg with joined := (a, rank) :: r.2.joined }), false)
  | _, .ok, _ => ((.ok, { r.2 with joined := (a, rank) :: r.2.joined }), false)
  | _, _, _ => (r, false)

/-- A word written under a mask (R69): the other bits of RW fields stay, and no bit outside the mask acts on a W1C,
W1S or WO field (DEDUCED, log entry 56). -/
def State.maskedWord (s : State) (src : Src) (a : Nat) (p : Word × Word) : Word :=
  match locate a with
  | .page pg off => match findReg pg.page off with
    | some (d, _) =>
      let cur := (s.readReg src pg off).2.2 &&& maskOf d (fun x => x == .rw || x == .rwi)
      (cur &&& ~~~p.1) ||| (p.2 &&& p.1)
    | none => p.2 &&& p.1
  | _ => p.2 &&& p.1

/-- The words of a WRITE (mask all ones) or WRITE_MASK from an address upwards: each word is judged on its own, a
refused one does not stop the next, and the operation reports the first refusal (R70, R392; DEDUCED, log entry 55). `prev`
holds the writes of the round before the request. -/
def State.writeWords (s : State) (src : Src) (prev : List (Nat × Nat)) (a : Nat) (ps : List (Word × Word)) :
    OpResult × State :=
  let r := ps.foldl (fun (x : Nat × OpResult × State) p =>
    let at_ := x.1
    let w := if p.1 = 0xFFFFFFFF then p.2 else x.2.2.maskedWord src at_ p
    let q := x.2.2.roundWrite src prev at_ w
    let o := x.2.1
    let o : OpResult := if q.1.1 = .ok then { o with n := o.n + 1, ovw := o.ovw || q.2 }
      else if o.status = .ok then { o with status := q.1.1 } else o
    (at_ + 4, o, q.1.2)) (a, ⟨.ok, 0, false, 0, []⟩, s)
  (r.2.1, r.2.2)

/-- Values without a mask. -/
def fullMask (ws : List Word) : List (Word × Word) := ws.map (fun w => (0xFFFFFFFF, w))

/-! ## Broadcast (R79, R80) -/

/-- A broadcast to every channel of HOST.BCAST_EN; BCAST_RESULT of the identity keeps the outcome. -/
def State.broadcast (s : State) (src : Src) (prev : List (Nat × Nat)) (off : Nat) (ps : List (Word × Word)) :
    OpResult × State :=
  if off % 4 ≠ 0 then (⟨.align, 0, false, 0, []⟩, s)
  else if userCode src then (⟨.access, 0, false, 0, []⟩, s)
  else
    let targets := allCh.filter (fun n => s.getBit F.HOST_BCAST_EN_EN n.val)
    let run := targets.foldl (fun (x : List (Ch × OpResult) × State) n =>
      let r := if off + 4 * ps.length ≤ 0x4400 then x.2.writeWords src prev (chBase n + off) ps
        else (⟨.noaddr, 0, false, 0, []⟩, x.2)
      (x.1 ++ [(n, r.1)], r.2)) (([] : List (Ch × OpResult)), s)
    let acc := chMask ((run.1.filter (fun p => p.2.status == .ok)).map (·.1))
    let bad := run.1.filter (fun p => p.2.status != .ok)
    let first : Nat := match bad with | p :: _ => p.2.status.code | [] => 0
    let word := BitVec.ofNat 32 (first * 2 ^ 24 + chMask targets * 65536 + chMask (bad.map (·.1)) * 256 + acc)
    let s1 := match s.identOf src with
      | some i => run.2.modIdent i (fun x => { x with bcast := word })
      | none => run.2
    (⟨if bad = [] then .ok else .bcastPartial, if acc = 0 then 0 else ps.length, run.1.any (fun p => p.2.ovw),
      BitVec.ofNat 8 acc, []⟩, s1)

/-- One WRITE or WRITE_MASK operation, one arbitration request (R83): an address in the alias is a broadcast. -/
def State.writeOp (s : State) (src : Src) (a : Nat) (ps : List (Word × Word)) (join : Bool) : OpResult × State :=
  let t := s.enter src join
  match locate a with
  | .bcast off => t.broadcast src t.joined off ps
  | _ => t.writeWords src t.joined a ps

/-! ## Atomic requests (R81) -/

/-- The register writes of an operation. -/
def AtomicOp.words : AtomicOp → Option (Nat × List (Word × Word))
  | .write a ws => some (a, fullMask ws)
  | .mask a ps => some (a, ps)
  | .other => none

/-- An operation that an atomic request may not hold: no write, or a write into the alias (R79, R81). -/
def atomicBad (o : AtomicOp) : Bool :=
  match AtomicOp.words o with
  | none => true
  | some (a, ps) => (List.range (max 1 ps.length)).any (fun k => match locate (a + 4 * k) with | .bcast _ => true | _ => false)

def atomicSize (ops : List AtomicOp) : Nat :=
  ops.foldl (fun n o => match AtomicOp.words o with | some (_, ps) => n + ps.length | none => n) 0

/-- The operation writes CTLE.BANKSEL, whose checks see the bank values of its own request (R178). -/
def banksel (o : AtomicOp) : Bool :=
  match AtomicOp.words o with
  | some (a, ps) => (List.range ps.length).any (fun k => match locate (a + 4 * k) with
    | .page pg off => pg.page == .ctle && off == 0x028
    | _ => false)
  | none => false

/-- The operations of a set that `sel` picks, in order, on the shadow; the others keep their result so far. -/
def State.shadowPass (s : State) (src : Src) (prev : List (Nat × Nat)) (sel : AtomicOp → Bool)
    (ops : List (AtomicOp × OpResult)) : List (AtomicOp × OpResult) × State :=
  ops.foldl (fun (x : List (AtomicOp × OpResult) × State) o =>
    match AtomicOp.words o.1, sel o.1 with
    | some (a, ps), true => let r := x.2.writeWords src prev a ps; (x.1 ++ [(o.1, r.1)], r.2)
    | _, _ => (x.1 ++ [o], x.2)) (([] : List (AtomicOp × OpResult)), s)

/-- The set on the shadow, in order, the operations with a BANKSEL write last (R178); the results in request order. -/
def State.shadowRun (s : State) (src : Src) (ops : List AtomicOp) : List OpResult × State :=
  let l := s.shadowPass src s.joined (fun o => !banksel o) (ops.map (fun o => (o, (⟨.ok, 0, false, 0, []⟩ : OpResult))))
  let l' := l.2.shadowPass src s.joined banksel l.1
  (l'.1.map (·.2), l'.2)

/-- An atomic request: the set runs on a shadow; it is committed whole, as one arbitration request, when nothing was
refused (DEDUCED, log entry 54). -/
def State.atomic (s : State) (src : Src) (ops : List AtomicOp) (join : Bool) : List OpResult × State :=
  let res (st : Status) : OpResult := ⟨st, 0, false, 0, []⟩
  if ops.any atomicBad then (ops.map (fun o => res (if atomicBad o then .badop else .aborted)), s)
  else if 64 < atomicSize ops then (ops.map (fun _ => res .toobig), s)
  else
    let r := (s.enter src join).shadowRun src ops
    if r.1.all (fun o => o.status == .ok) then r
    else (r.1.map (fun o => res (if o.status = .ok then .aborted else o.status)), s)

/-! ## The rows of register access -/

/-- The answer of one operation. -/
def answerOp (r : OpResult × State) : Host.Outcome State Fault Refusal := .next { r.2 with last := r.1 }

def execRead (src : Src) (addr n : Nat) (s : State) : Host.Outcome State Fault Refusal :=
  answerOp (s.readOp src ((List.range n).map (fun k => addr + 4 * k)))

def execReadRepeat (src : Src) (addr n : Nat) (s : State) : Host.Outcome State Fault Refusal :=
  answerOp (s.readOp src (List.replicate n addr))

def execWrite (src : Src) (addr : Nat) (ws : List Word) (join : Bool) (s : State) : Host.Outcome State Fault Refusal :=
  answerOp (s.writeOp src addr (fullMask ws) join)

def execWriteMask (src : Src) (addr : Nat) (ps : List (Word × Word)) (join : Bool) (s : State) :
    Host.Outcome State Fault Refusal :=
  answerOp (s.writeOp src addr ps join)

def execRegisterWrite (src : Src) (addr : Nat) (v : Word) (join : Bool) (s : State) : Host.Outcome State Fault Refusal :=
  answerOp (s.writeOp src addr [(0xFFFFFFFF, v)] join)

def execBroadcastWrite (src : Src) (off : Nat) (ws : Joined (List Word)) (s : State) : Host.Outcome State Fault Refusal :=
  let t := s.enter src ws.join
  answerOp (t.broadcast src t.joined off (fullMask ws.val))

/-- ATOMIC_REQUEST: `last` keeps the first refusal, else the number of operations applied. -/
def execAtomicRequest (src : Src) (ops : Joined (List AtomicOp)) (s : State) : Host.Outcome State Fault Refusal :=
  let r := s.atomic src ops.val ops.join
  let bad := (r.1.find? (fun o => o.status != .ok && o.status != .aborted)).or (r.1.find? (fun o => o.status != .ok))
  answerOp (bad.getD ⟨.ok, ops.val.length, false, 0, []⟩, r.2)

def execIrqPendClear (src : Src) (pg : PageRef) (v : Word) (s : State) : Host.Outcome State Fault Refusal :=
  answer (s.gated src pg 0x014 v (fun t => (.ok, t.pendClear pg v)))

def execPageUnlock (src : Src) (pg : PageRef) (key : Word) (s : State) : Host.Outcome State Fault Refusal :=
  answer (s.gated src pg 0x01C key (fun t => t.doUnlock src pg key))

/-- UNLOCK_EXPIRY: an unlock of the page that is 1,000 ms old ends. -/
def execUnlockExpiry (sid : Nat) (pg : PageRef) (s : State) : Host.Outcome State Fault Refusal :=
  happen (s.modSession sid (fun y => { y with
    unlocks := y.unlocks.filter (fun u => u.1 != pg || decide (s.tb - u.2 < 1000000000)) }))

/-- UNLOCK_LOCKOUT_END: a lockout that is 60 s old ends. -/
def execUnlockLockoutEnd (ident : Ident) (pg : PageRef) (s : State) : Host.Outcome State Fault Refusal :=
  happen (s.modIdent ident (fun x => { x with
    lockouts := x.lockouts.filter (fun l => l.1 != pg || decide (s.tb - l.2 < 60000000000)) }))

/-- PAGE_CTRL with SOFT_RESET, ENABLE as it stands. -/
def softWord (s : State) (pg : PageRef) : Word := BitVec.ofNat 32 (2 ^ 31 + b2n (s.enabled pg))

def execSoftReset (src : Src) (pg : PageRef) (s : State) : Host.Outcome State Fault Refusal :=
  answer (s.gated src pg 0x004 (softWord s pg) (fun t => t.doPageCtrl src pg (softWord s pg)))
def execPageDisable (src : Src) (pg : PageRef) (s : State) : Host.Outcome State Fault Refusal :=
  answer (s.gated src pg 0x004 0 (fun t => t.doPageCtrl src pg 0))
def execPageEnable (src : Src) (pg : PageRef) (s : State) : Host.Outcome State Fault Refusal :=
  answer (s.gated src pg 0x004 1 (fun t => t.doPageCtrl src pg 1))

/-- WSC_READ and WSC_WRITE (R296): the block keeps STATUS and the data. -/
def execWscRead (n : Ch) (sync : Bool) (addr : Nat) (s : State) : Host.Outcome State Fault Refusal :=
  let r := s.readAddr (.perc n sync) addr
  happen (r.2.1.modPerc n (fun p => { p with lastStatus := r.1, lastData := if r.1 = .ok then r.2.2 else 0 }))

def execWscWrite (n : Ch) (sync : Bool) (addr : Nat) (v : Word) (s : State) : Host.Outcome State Fault Refusal :=
  let r := (s.enter (.perc n sync) false).writeWords (.perc n sync) [] addr [(0xFFFFFFFF, v)]
  happen (r.2.modPerc n (fun p => { p with lastStatus := r.1.status }))

/-! ## Writes of the control engine, the profile generator and the valve axis -/

/-- CTLE.BANKSEL with REQ (bit 0), AT_EPOCH (bit 2). -/
def execBankSwapReq (src : Src) (n : Ch) (atEpoch : Bool) (s : State) : Host.Outcome State Fault Refusal :=
  answer (s.gated src (pgCTLE n) 0x028 (if atEpoch then 5 else 1) (fun t => t.doBankReq n atEpoch))
def execBankSwapCancel (src : Src) (n : Ch) (s : State) : Host.Outcome State Fault Refusal :=
  answer (s.gated src (pgCTLE n) 0x028 2 (fun t => t.doBankCancel n))
def execIloopGainWrite (src : Src) (n : Ch) (ki : Bool) (v : Word) (s : State) : Host.Outcome State Fault Refusal :=
  answer (s.gated src (pgCTLE n) (if ki then 0x044 else 0x040) v (fun t => t.doGain n ki v))

/-- CTLE.INJ_CTRL written with START, its other fields as given. -/
def execInjStart (src : Src) (n : Ch) (v : Word) (s : State) : Host.Outcome State Fault Refusal :=
  answer (s.gated src (pgCTLE n) 0x048 (v ||| 0x80000000) (fun t => t.doInjCtrl n (v ||| 0x80000000)))

/-- CTLE.INJ_CTRL written with STOP, its other fields as they stand. -/
def injStopWord (s : State) (n : Ch) : Word := (s.reg (R.CTLE_INJ_CTRL n) &&& 0x0330FFFF) ||| 0x40000000
def execInjStop (src : Src) (n : Ch) (s : State) : Host.Outcome State Fault Refusal :=
  answer (s.gated src (pgCTLE n) 0x048 (injStopWord s n) (fun t => t.doInjCtrl n (injStopWord s n)))
def execArm (src : Src) (n : Ch) (v : Word) (s : State) : Host.Outcome State Fault Refusal :=
  answer (s.gated src (pgCTLE n) 0x050 (v ||| 0x80000000) (fun t => t.doCapCtrl n (v ||| 0x80000000)))
def execCapDataRead (src : Src) (n : Ch) (s : State) : Host.Outcome State Fault Refusal :=
  s.readAs src (pgCTLE n) (fun t => t.readCapData n)

def execCurTargetWrite (src : Src) (n : Ch) (v : Word) (s : State) : Host.Outcome State Fault Refusal :=
  answer (s.gated src (pgPROF n) 0x020 v (fun t => t.doCurTarget src n v))

/-- Offset of a limit register in PROF. -/
def limOff : LimReg → Nat
  | .curLim => 0x024
  | .curStop => 0x028
  | .vlvLim => 0x030
def execLimitWrite (src : Src) (n : Ch) (r : LimReg) (v : Word) (s : State) : Host.Outcome State Fault Refusal :=
  answer (s.gated src (pgPROF n) (limOff r) v (fun t => t.doLimit n r v))
def execVlvTargetWrite (src : Src) (n : Ch) (v : Word) (s : State) : Host.Outcome State Fault Refusal :=
  answer (s.gated src (pgPROF n) 0x02C v (fun t => t.doVlvTarget n v))
def execStop (src : Src) (n : Ch) (s : State) : Host.Outcome State Fault Refusal :=
  answer (s.gated src (pgPROF n) 0x034 1 (fun t => t.doStop n 1))

/-- VAX.CTRL with CLRFAULT, or with HOME, the fields of `v` beside it. -/
def clrWord (s : State) (n : Ch) : Word := (s.reg (R.VAX_CTRL n) &&& 0x307) ||| 0x20000000
def execClrfault (src : Src) (n : Ch) (s : State) : Host.Outcome State Fault Refusal :=
  answer (s.gated src (pgVAX n) 0x020 (clrWord s n) (fun t => t.doVaxCtrl n (clrWord s n)))
def execHome (src : Src) (n : Ch) (v : Word) (s : State) : Host.Outcome State Fault Refusal :=
  answer (s.gated src (pgVAX n) 0x020 (v ||| 0x80000000) (fun t => t.doVaxCtrl n (v ||| 0x80000000)))

end Sys2Proof.Machine
end

