-- ==== Sys2Proof/Machine/Wrap.lean ====
section
/-! DEFINITION. WRAP (R27 to R31, R64 to R75): host sessions and kept identities, request datagrams, responses and
NOTIFY datagrams. All multi-byte fields are big-endian. -/

namespace Sys2Proof.Machine
open Sys2Proof

/-! ## Identities and sessions (R64, R65) -/

/-- A fresh identity: its sequence state as after BOOT, its cursor at FIRST_SEQ (R65, R351). -/
def State.freshId (s : State) (i : Ident) : IdState := ⟨i, 0, 0, [], s.tb, s.evt.first, 0, [], []⟩

/-- Index of the least recently used identity. -/
def lruIx : List IdState → Nat
  | [] => 0
  | x :: t => if t.all (fun y => decide (x.lastUsed ≤ y.lastUsed)) then 0 else lruIx t + 1

/-- The identity is kept and used now; a seventeenth displaces the least recently used one, with an event (R65). -/
def State.useIdent (s : State) (i : Ident) : State :=
  if s.idents.any (fun x => x.ident == i) then s.modIdent i (fun x => { x with lastUsed := s.tb })
  else if s.idents.length < 16 then { s with idents := s.idents ++ [s.freshId i] }
  else
    let k := lruIx s.idents
    match s.idents[k]? with
    | some old =>
      { s with idents := s.idents.set k (s.freshId i) }.log 0x0240 0xF 1 (BitVec.ofNat 32 k) (identHead old.ident) 0
    | none => s

/-- The handshake meets the rules of R42, R64, R373 and R374. -/
def State.accepts (s : State) (port : Port) (i : Ident) (o : Offer) : Bool :=
  let others := s.sessions.filter (fun x => x.ident != i)
  let room := match port with
    | .service => s.flag F.PANEL_STAT_KEYSW && !others.any (fun x => x.port == .service)
    | _ => decide ((others.filter (fun x => x.port != .service)).length < 8)
  let cert := match s.get F.SEC_STAT_PROV with
    | 0 => port == .service && o.cert
    | 1 => o.cert && (match o.anchor with | some a => decide (a < 4) && s.getBit F.SEC_STAT_ANCHORS a | none => false)
      && (o.inPeriod || !s.flag F.PTP_STAT_EVER_LOCKED)
    | _ => false
  o.options && room && cert && !s.sup.restarting

/-- DTLS_HANDSHAKE: the older session of the identity ends first (R65). -/
def execDtlsHandshake (port : Port) (ident : Ident) (offer : Offer) (s : State) : Host.Outcome State Fault Refusal :=
  happen (
    if !s.accepts port ident offer then s
    else
      let s := ((s.sessions.filter (fun x => x.ident == ident)).map (·.sid)).foldl (fun t k => t.endSession k) s
      let s := s.useIdent ident
      { s with sessions := s.sessions ++ [⟨s.nextSid, ident, port, s.tb, [], []⟩], nextSid := s.nextSid + 1 })

/-- SESSION_TIMEOUT: 60 s without a valid request. -/
def execSessionTimeout (sid : Nat) (s : State) : Host.Outcome State Fault Refusal :=
  happen (match s.session sid with
    | some x => if s.passedMs x.lastReq 60000 then s.endSession sid else s
    | none => s)

/-! ## Datagrams (R67 to R71) -/

/-- A 16-byte header (Table 4.1). -/
def wrapHeader (type len hseq dseq flags count : Nat) : List Byte :=
  [0x01] ++ beBytes 1 type ++ beBytes 2 len ++ beBytes 4 hseq ++ beBytes 4 dseq ++ beBytes 2 flags ++ beBytes 2 count

/-- A result header and its read data (R70). -/
def OpResult.bytes (o : OpResult) : List Byte :=
  beBytes 1 o.status.code ++ beBytes 1 o.n ++ beBytes 1 (b2n o.ovw) ++ beBytes 1 o.bcmap.toNat ++ o.data.flatMap wordBytes

/-- Overall status: the first operation status that is not OK, else OK (Table 4.1). -/
def overall (l : List OpResult) : Nat :=
  match l.find? (fun o => o.status != .ok) with | some o => o.status.code | none => 0

/-- A response datagram. -/
def responseBytes (hseq dseq : Word) (l : List OpResult) : List Byte :=
  let body := l.flatMap OpResult.bytes
  wrapHeader 2 body.length hseq.toNat dseq.toNat (overall l) l.length ++ body

/-- An operation of a request (Table 4.2). -/
inductive WrapOp where
  | read (addr n : Nat)
  | repeated (addr n : Nat)
  | write (addr : Nat) (ws : List Word)
  | mask (addr : Nat) (ps : List (Word × Word))
  deriving DecidableEq, Repr

/-- Words two by two. -/
def pairUp : List Word → List (Word × Word)
  | a :: b :: t => (a, b) :: pairUp t
  | _ => []

/-- One operation from the front of a body, and what follows it; none when it breaks Table 4.2. -/
def parseOp (l : List Byte) : Option (WrapOp × List Byte) :=
  if l.length < 8 then none
  else
    let code := beNat (l.take 1)
    let n := beNat ((l.drop 1).take 1)
    let a := beNat ((l.drop 4).take 4)
    let rest := l.drop 8
    if n = 0 ∨ beNat ((l.drop 2).take 2) ≠ 0 ∨ 2 ^ 24 ≤ a then none
    else match code with
      | 1 => some (.read a n, rest)
      | 2 => if rest.length < 4 * n then none else some (.write a (bytesWords (rest.take (4 * n))), rest.drop (4 * n))
      | 3 => some (.repeated a n, rest)
      | 4 => if rest.length < 8 * n then none
        else some (.mask a (pairUp (bytesWords (rest.take (8 * n)))), rest.drop (8 * n))
      | _ => none

/-- A body of `count` operations, used up exactly (R69). -/
def parseOps : Nat → List Byte → Option (List WrapOp)
  | 0, l => if l = [] then some [] else none
  | k + 1, l => match parseOp l with
    | none => none
    | some (o, rest) => (parseOps k rest).map (o :: ·)

/-- The header rules of R68: VERSION, TYPE, DSEQ, FLAGS, COUNT, and at most 1,400 bytes. -/
def headerOk (b : List Byte) : Bool :=
  beNat (b.take 1) == 1 && beNat ((b.drop 1).take 1) == 1 && beNat ((b.drop 8).take 4) == 0
    && decide (beNat ((b.drop 12).take 2) ≤ 1) && decide (1 ≤ beNat ((b.drop 14).take 2))
    && decide (beNat ((b.drop 14).take 2) ≤ 64) && decide (b.length ≤ 1400)

/-- The operations of a request; none is BADOP. -/
def parseRequest (b : List Byte) : Option (List WrapOp) :=
  if headerOk b then parseOps (beNat ((b.drop 14).take 2)) (b.drop 16) else none

/-! ## Encoding a request (R67 to R69) -/

/-- An operation that Table 4.2 can carry: a 24-bit address, 1 to 255 words. -/
def WrapOp.wf : WrapOp → Bool
  | .read a n => decide (a < 2 ^ 24) && decide (1 ≤ n) && decide (n ≤ 255)
  | .repeated a n => decide (a < 2 ^ 24) && decide (1 ≤ n) && decide (n ≤ 255)
  | .write a ws => decide (a < 2 ^ 24) && decide (1 ≤ ws.length) && decide (ws.length ≤ 255)
  | .mask a ps => decide (a < 2 ^ 24) && decide (1 ≤ ps.length) && decide (ps.length ≤ 255)

/-- An operation header (Table 4.2): OPCODE, N, a reserved half word, ADDR. -/
def opHeader (code n a : Nat) : List Byte := beBytes 1 code ++ beBytes 1 n ++ beBytes 2 0 ++ beBytes 4 a

/-- The bytes of an operation. -/
def WrapOp.encode : WrapOp → List Byte
  | .read a n => opHeader 1 n a
  | .write a ws => opHeader 2 ws.length a ++ ws.flatMap wordBytes
  | .repeated a n => opHeader 3 n a
  | .mask a ps => opHeader 4 ps.length a ++ ps.flatMap (fun p => wordBytes p.1 ++ wordBytes p.2)

/-- A request datagram: header (Table 4.1) and operations. -/
def encodeRequest (hseq : Word) (isAtomic : Bool) (l : List WrapOp) : List Byte :=
  let body := l.flatMap WrapOp.encode
  wrapHeader 1 body.length hseq.toNat 0 (b2n isAtomic) l.length ++ body

/-- Size of the response, counted before anything executes (R71). -/
def responseSize (l : List WrapOp) : Nat :=
  16 + l.foldl (fun k o => k + 4 + (match o with | .read _ n | .repeated _ n => 4 * n | _ => 0)) 0

/-! ## Execution (R72, R81, R83) -/

/-- One operation, one arbitration request (R83). -/
def State.wrapOp (s : State) (src : Src) (join : Bool) : WrapOp → OpResult × State
  | .read a n => s.readOp src ((List.range n).map (fun k => a + 4 * k))
  | .repeated a n => s.readOp src (List.replicate n a)
  | .write a ws => s.writeOp src a (fullMask ws) join
  | .mask a ps => s.writeOp src a ps join

/-- Operations in request order; a refused one does not stop the next. The first one may join a round, each later one
waits for the next. -/
def State.wrapOps (s : State) (src : Src) (join : Bool) : List WrapOp → List OpResult × State
  | [] => ([], s)
  | o :: t =>
    let r := s.wrapOp src join o
    let q := r.2.wrapOps src false t
    (r.1 :: q.1, q.2)

/-- An operation as part of an atomic request. -/
def WrapOp.atomic : WrapOp → AtomicOp
  | .write a ws => .write a ws
  | .mask a ps => .mask a ps
  | .read _ _ | .repeated _ _ => .other

/-- A parsed request: TOOBIG whole (R71), atomic (R81), or in order. -/
def State.runRequest (s : State) (src : Src) (isAtomic join : Bool) (l : List WrapOp) : List OpResult × State :=
  if 1400 < responseSize l then (l.map (fun _ => ⟨.toobig, 0, false, 0, []⟩), s)
  else if isAtomic then s.atomic src (l.map WrapOp.atomic) join
  else s.wrapOps src join l

/-! ## Sequence numbers (R27 to R31) -/

/-- The stored response of an HSEQ. -/
def IdState.storedOf (x : IdState) (h : Word) : Option (List Byte) := (x.stored.find? (fun p => p.1 == h)).map (·.2)

/-- An HSEQ older than every stored one (R12, R28). -/
def IdState.isOld (x : IdState) (h : Word) : Bool :=
  x.stored != [] && x.stored.all (fun p => decide (sdiff 32 h.toNat p.1.toNat < 0))

/-- The response goes out with the next DSEQ; a request that executed is kept among the last 64 and may raise
LAST_HSEQ (R28 to R30). -/
def State.respond (s : State) (sid : Nat) (i : Ident) (h : Word) (l : List OpResult) (executed : Bool) : State :=
  match s.idents.find? (fun x => x.ident == i) with
  | none => s
  | some x =>
    let d := x.dseq + 1
    let b := responseBytes h d l
    let s := s.modIdent i (fun x =>
      if executed then { x with
        dseq := d, stored := ((h, b) :: x.stored).take 64
        lastHseq := if x.stored = [] ∨ 0 < sdiff 32 h.toNat x.lastHseq.toNat then h else x.lastHseq }
      else { x with dseq := d })
    s.emit (.response sid b)

/-- A datagram of the right size on an open session: repeated, too old, malformed or executed (R28, R68). -/
def State.request_ (s : State) (x : Session) (b : List Byte) (join : Bool) : State :=
  let h := bytesWord ((b.drop 4).take 4)
  let s := (s.useIdent x.ident).modSession x.sid (fun y => { y with lastReq := s.tb })
  let one (st : Status) : List OpResult := [⟨st, 0, false, 0, []⟩]
  match s.idents.find? (fun y => y.ident == x.ident) with
  | none => s
  | some id =>
    match id.storedOf h with
    | some old => s.emit (.response x.sid old)
    | none =>
      if id.isOld h then s.respond x.sid x.ident h (one .oldseq) false
      else match parseRequest b with
        | none => s.respond x.sid x.ident h (one .badop) true
        | some l =>
          let r := s.runRequest (.session x.sid) (beNat ((b.drop 12).take 2) == 1) join l
          r.2.respond x.sid x.ident h r.1 true

/-- Port of a session as Table 19.2 counts it. -/
def portIx : Port → Nat
  | .plantA => 0
  | .plantB => 1
  | .service => 2

/-- WRAP_REQUEST: a datagram of the wrong size is discarded with an event (R68); nothing arrives without a session or
while the host ports are down (R73). -/
def execWrapRequest (sid : Nat) (bytes : Joined (List Byte)) (s : State) : Host.Outcome State Fault Refusal :=
  happen (
    match s.session sid with
    | none => s
    | some x =>
      if s.sup.restarting then s
      else
        let b := bytes.val
        let size := beNat ((b.drop 2).take 2) + 16
        if b.length < 16 ∨ b.length ≠ size then
          s.log 0x0241 0xF 1 (BitVec.ofNat 32 b.length) (BitVec.ofNat 32 size) (BitVec.ofNat 32 (portIx x.port))
        else s.request_ x b bytes.join)

/-! ## NOTIFY (R74, R75) -/

/-- Records in ascending page-address order, in order of occurrence on one page. -/
def notifyInsert (r : NotifyRec) : List NotifyRec → List NotifyRec
  | [] => [r]
  | x :: t => if r.page < x.page then r :: x :: t else x :: notifyInsert r t
def notifySort (l : List NotifyRec) : List NotifyRec := l.foldl (fun a r => notifyInsert r a) []

/-- A record of 16 bytes (R75). -/
def NotifyRec.bytes (r : NotifyRec) : List Byte :=
  beBytes 4 r.page ++ wordBytes r.bits ++ wordBytes r.epoch ++ wordBytes r.seq

/-- At most 64 records each; `fuel` bounds the number of datagrams. -/
def chunks64 : Nat → List NotifyRec → List (List NotifyRec)
  | 0, _ => []
  | k + 1, l => if l = [] then [] else l.take 64 :: chunks64 k (l.drop 64)

/-- One NOTIFY datagram to one session, with the identity's next DSEQ. -/
def State.notifyTo (s : State) (x : Session) (l : List NotifyRec) : State :=
  let s := if s.idents.any (fun y => y.ident == x.ident) then s else s.useIdent x.ident
  match s.idents.find? (fun y => y.ident == x.ident) with
  | none => s
  | some y =>
    let s := s.modIdent x.ident (fun z => { z with dseq := y.dseq + 1 })
    s.emit (.notify x.sid (wrapHeader 3 (16 * l.length) 0 (y.dseq + 1).toNat 0 l.length ++ l.flatMap NotifyRec.bytes))

/-- NOTIFY_SEND: the records due go to every open session. -/
def execNotifySend (s : State) : Host.Outcome State Fault Refusal :=
  happen (
    if s.sup.restarting then s
    else
      let l := notifySort s.notifies
      let parts := chunks64 l.length l
      let s := { s with notifies := [] }
      s.sessions.foldl (fun t x => parts.foldl (fun u p => u.notifyTo x p) t) s)

end Sys2Proof.Machine
end

