-- ==== Sys2Proof/Machine/Dispatch.lean ====
section
/-! DEFINITION. The dispatch of a command to its meaning. -/

namespace Sys2Proof.Machine
open Sys2Proof

def exec (i : Instr) (s : State) : Host.Outcome State Fault Refusal :=
  match i with
  | .wrapRequest sid bytes => Sys2Proof.Machine.execWrapRequest sid bytes s
  | .read src addr n => Sys2Proof.Machine.execRead src addr n s
  | .write src addr ws join => Sys2Proof.Machine.execWrite src addr ws join s
  | .readRepeat src addr n => Sys2Proof.Machine.execReadRepeat src addr n s
  | .writeMask src addr ps join => Sys2Proof.Machine.execWriteMask src addr ps join s
  | .atomicRequest src ops => Sys2Proof.Machine.execAtomicRequest src ops s
  | .broadcastWrite src off ws => Sys2Proof.Machine.execBroadcastWrite src off ws s
  | .registerWrite src addr v join => Sys2Proof.Machine.execRegisterWrite src addr v join s
  | .irqPendClear src pg v => Sys2Proof.Machine.execIrqPendClear src pg v s
  | .notifySend => Sys2Proof.Machine.execNotifySend s
  | .pageUnlock src pg key => Sys2Proof.Machine.execPageUnlock src pg key s
  | .unlockExpiry sid pg => Sys2Proof.Machine.execUnlockExpiry sid pg s
  | .unlockLockoutEnd ident pg => Sys2Proof.Machine.execUnlockLockoutEnd ident pg s
  | .softReset src pg => Sys2Proof.Machine.execSoftReset src pg s
  | .pageDisable src pg => Sys2Proof.Machine.execPageDisable src pg s
  | .pageEnable src pg => Sys2Proof.Machine.execPageEnable src pg s
  | .dtlsHandshake port ident offer => Sys2Proof.Machine.execDtlsHandshake port ident offer s
  | .sessionTimeout sid => Sys2Proof.Machine.execSessionTimeout sid s
  | .snapReq src v join => Sys2Proof.Machine.execSnapReq src v join s
  | .snapEnd src v => Sys2Proof.Machine.execSnapEnd src v s
  | .snapLastRead src => Sys2Proof.Machine.execSnapLastRead src s
  | .snapTimeout => Sys2Proof.Machine.execSnapTimeout s
  | .powerOn absentMs => Sys2Proof.Machine.execPowerOn absentMs s
  | .bootEnd r => Sys2Proof.Machine.execBootEnd r s
  | .standby src => Sys2Proof.Machine.execStandby src s
  | .run src => Sys2Proof.Machine.execRun src s
  | .decaf src => Sys2Proof.Machine.execDecaf src s
  | .wake src => Sys2Proof.Machine.execWake src s
  | .restart src => Sys2Proof.Machine.execRestart src s
  | .halt src => Sys2Proof.Machine.execHalt src s
  | .wakeVoltageCheck mv => Sys2Proof.Machine.execWakeVoltageCheck mv s
  | .logic24Low mv => Sys2Proof.Machine.execLogic24Low mv s
  | .logic24High => Sys2Proof.Machine.execLogic24High s
  | .holdupStart o => Sys2Proof.Machine.execHoldupStart o s
  | .holdupReset => Sys2Proof.Machine.execHoldupReset s
  | .detectLoopQualified n c present => Sys2Proof.Machine.execDetectLoopQualified n c present s
  | .padTouch pads => Sys2Proof.Machine.execPadTouch pads s
  | .selectionLapse => Sys2Proof.Machine.execSelectionLapse s
  | .ack => Sys2Proof.Machine.execAck s
  | .lockoutRelease => Sys2Proof.Machine.execLockoutRelease s
  | .panelWakeConfirm => Sys2Proof.Machine.execPanelWakeConfirm s
  | .keysw service => Sys2Proof.Machine.execKeysw service s
  | .isolate => Sys2Proof.Machine.execIsolate s
  | .isolateAbandon => Sys2Proof.Machine.execIsolateAbandon s
  | .isolateFeedbackOpen n => Sys2Proof.Machine.execIsolateFeedbackOpen n s
  | .isolateFail n => Sys2Proof.Machine.execIsolateFail n s
  | .epochSample n smp => Sys2Proof.Machine.execEpochSample n smp s
  | .trigSend n => Sys2Proof.Machine.execTrigSend n s
  | .collectSend n => Sys2Proof.Machine.execCollectSend n s
  | .frameReturn n side bytes => Sys2Proof.Machine.execFrameReturn n side bytes s
  | .readSend n => Sys2Proof.Machine.execReadSend n s
  | .sweepClose n => Sys2Proof.Machine.execSweepClose n s
  | .stale n => Sys2Proof.Machine.execStale n s
  | .cellOt n => Sys2Proof.Machine.execCellOt n s
  | .pourPublish n => Sys2Proof.Machine.execPourPublish n s
  | .vlimModel n => Sys2Proof.Machine.execVlimModel n s
  | .fifoCommit c => Sys2Proof.Machine.execFifoCommit c s
  | .fifoDataRead src n => Sys2Proof.Machine.execFifoDataRead src n s
  | .mark src n => Sys2Proof.Machine.execMark src n s
  | .rewind src n => Sys2Proof.Machine.execRewind src n s
  | .flush src n => Sys2Proof.Machine.execFlush src n s
  | .clrmark src n => Sys2Proof.Machine.execClrmark src n s
  | .ringStart n => Sys2Proof.Machine.execRingStart n s
  | .restartRing src n => Sys2Proof.Machine.execRestartRing src n s
  | .ringWakeEnd n => Sys2Proof.Machine.execRingWakeEnd n s
  | .enum n blocks farEnd => Sys2Proof.Machine.execEnum n blocks farEnd s
  | .mcloadDone n crcs => Sys2Proof.Machine.execMcloadDone n crcs s
  | .delaySetDone n e => Sys2Proof.Machine.execDelaySetDone n e s
  | .ringRetry n => Sys2Proof.Machine.execRingRetry n s
  | .commandFrameSend n => Sys2Proof.Machine.execCommandFrameSend n s
  | .backgroundSetStart n => Sys2Proof.Machine.execBackgroundSetStart n s
  | .backgroundSetDone n times tiles => Sys2Proof.Machine.execBackgroundSetDone n times tiles s
  | .portLinkDown n side => Sys2Proof.Machine.execPortLinkDown n side s
  | .portLinkUp n side => Sys2Proof.Machine.execPortLinkUp n side s
  | .alarm n posA posB => Sys2Proof.Machine.execAlarm n posA posB s
  | .splitEntry n => Sys2Proof.Machine.execSplitEntry n s
  | .rejoinSetStart n => Sys2Proof.Machine.execRejoinSetStart n s
  | .rejoin n confirmA confirmB => Sys2Proof.Machine.execRejoin n confirmA confirmB s
  | .cdiagClear src n => Sys2Proof.Machine.execCdiagClear src n s
  | .cdiagForce src n tile tap => Sys2Proof.Machine.execCdiagForce src n tile tap s
  | .balAutoRun n => Sys2Proof.Machine.execBalAutoRun n s
  | .balHcmd src n v => Sys2Proof.Machine.execBalHcmd src n v s
  | .balHcmdLapse n tile cell => Sys2Proof.Machine.execBalHcmdLapse n tile cell s
  | .ctleSample n smp => Sys2Proof.Machine.execCtleSample n smp s
  | .late n => Sys2Proof.Machine.execLate n s
  | .stageFault n asserted => Sys2Proof.Machine.execStageFault n asserted s
  | .preDone n => Sys2Proof.Machine.execPreDone n s
  | .ploopFe n => Sys2Proof.Machine.execPloopFe n s
  | .fe n => Sys2Proof.Machine.execFe n s
  | .bankSwapReq src n atEpoch => Sys2Proof.Machine.execBankSwapReq src n atEpoch s
  | .bankSwapCancel src n => Sys2Proof.Machine.execBankSwapCancel src n s
  | .swap n => Sys2Proof.Machine.execSwap n s
  | .iloopGainWrite src n ki v => Sys2Proof.Machine.execIloopGainWrite src n ki v s
  | .injStart src n v => Sys2Proof.Machine.execInjStart src n v s
  | .injBegin n => Sys2Proof.Machine.execInjBegin n s
  | .injStop src n => Sys2Proof.Machine.execInjStop src n s
  | .injEnd n => Sys2Proof.Machine.execInjEnd n s
  | .arm src n v => Sys2Proof.Machine.execArm src n v s
  | .capDone n => Sys2Proof.Machine.execCapDone n s
  | .capDataRead src n => Sys2Proof.Machine.execCapDataRead src n s
  | .curTargetWrite src n v => Sys2Proof.Machine.execCurTargetWrite src n v s
  | .limitWrite src n r v => Sys2Proof.Machine.execLimitWrite src n r v s
  | .vlvTargetWrite src n v => Sys2Proof.Machine.execVlvTargetWrite src n v s
  | .stop src n => Sys2Proof.Machine.execStop src n s
  | .currentZero n => Sys2Proof.Machine.execCurrentZero n s
  | .stopTmo n => Sys2Proof.Machine.execStopTmo n s
  | .vlvEval n count => Sys2Proof.Machine.execVlvEval n count s
  | .enc n => Sys2Proof.Machine.execEnc n s
  | .coil n => Sys2Proof.Machine.execCoil n s
  | .motorSupplyFault ov => Sys2Proof.Machine.execMotorSupplyFault ov s
  | .motorSupplyRecover mv => Sys2Proof.Machine.execMotorSupplyRecover mv s
  | .iholdTimer n => Sys2Proof.Machine.execIholdTimer n s
  | .clrfault src n => Sys2Proof.Machine.execClrfault src n s
  | .home src n v => Sys2Proof.Machine.execHome src n v s
  | .limitTransition n hi level => Sys2Proof.Machine.execLimitTransition n hi level s
  | .limitQualified n hi => Sys2Proof.Machine.execLimitQualified n hi s
  | .homeComplete n => Sys2Proof.Machine.execHomeComplete n s
  | .homeTmo n => Sys2Proof.Machine.execHomeTmo n s
  | .impLeadinStart n => Sys2Proof.Machine.execImpLeadinStart n s
  | .impBlockEnd n => Sys2Proof.Machine.execImpBlockEnd n s
  | .blockDone n => Sys2Proof.Machine.execBlockDone n s
  | .blockVoid n cause => Sys2Proof.Machine.execBlockVoid n cause s
  | .impStart src n => Sys2Proof.Machine.execImpStart src n s
  | .impAbort src n => Sys2Proof.Machine.execImpAbort src n s
  | .aggregateTask n => Sys2Proof.Machine.execAggregateTask n s
  | .kfUpdate n => Sys2Proof.Machine.execKfUpdate n s
  | .sopUpdate n => Sys2Proof.Machine.execSopUpdate n s
  | .taskLate n t => Sys2Proof.Machine.execTaskLate n t s
  | .restPoint n => Sys2Proof.Machine.execRestPoint n s
  | .restAgeTick n => Sys2Proof.Machine.execRestAgeTick n s
  | .chemDataAccess src n w => Sys2Proof.Machine.execChemDataAccess src n w s
  | .commitChem src n => Sys2Proof.Machine.execCommitChem src n s
  | .reinit src n => Sys2Proof.Machine.execReinit src n s
  | .learnClear src n => Sys2Proof.Machine.execLearnClear src n s
  | .icalOffset src n => Sys2Proof.Machine.execIcalOffset src n s
  | .icalGain src n => Sys2Proof.Machine.execIcalGain src n s
  | .icalDone n => Sys2Proof.Machine.execIcalDone n s
  | .estRecordWrite n => Sys2Proof.Machine.execEstRecordWrite n s
  | .allocRun => Sys2Proof.Machine.execAllocRun s
  | .pcmdWrite src v => Sys2Proof.Machine.execPcmdWrite src v s
  | .pcmdTmo => Sys2Proof.Machine.execPcmdTmo s
  | .restWindowEnd => Sys2Proof.Machine.execRestWindowEnd s
  | .tripOpen n => Sys2Proof.Machine.execTripOpen n s
  | .overcurrentDetect n aux mA => Sys2Proof.Machine.execOvercurrentDetect n aux mA s
  | .overcurrent n => Sys2Proof.Machine.execOvercurrent n s
  | .siDemand n input lineB => Sys2Proof.Machine.execSiDemand n input lineB s
  | .testPulse n lineB high cross level => Sys2Proof.Machine.execTestPulse n lineB high cross level s
  | .siLineRestore n input lineB => Sys2Proof.Machine.execSiLineRestore n input lineB s
  | .connect src n => Sys2Proof.Machine.execConnect src n s
  | .disconnect src n => Sys2Proof.Machine.execDisconnect src n s
  | .fbChange n pos neg pre => Sys2Proof.Machine.execFbChange n pos neg pre s
  | .fbClose n => Sys2Proof.Machine.execFbClose n s
  | .preTmo n => Sys2Proof.Machine.execPreTmo n s
  | .weld n => Sys2Proof.Machine.execWeld n s
  | .degradeTmax n => Sys2Proof.Machine.execDegradeTmax n s
  | .reset src n => Sys2Proof.Machine.execReset src n s
  | .degAck src n => Sys2Proof.Machine.execDegAck src n s
  | .cremaCheck r => Sys2Proof.Machine.execCremaCheck r s
  | .tripTest n opened => Sys2Proof.Machine.execTripTest n opened s
  | .hlthDisable src => Sys2Proof.Machine.execHlthDisable src s
  | .dieSample t => Sys2Proof.Machine.execDieSample t s
  | .compensationStep => Sys2Proof.Machine.execCompensationStep s
  | .thermLimitEval => Sys2Proof.Machine.execThermLimitEval s
  | .syncCycleStart n task => Sys2Proof.Machine.execSyncCycleStart n task s
  | .syncDeadline n task finished outs => Sys2Proof.Machine.execSyncDeadline n task finished outs s
  | .freeWdog n task => Sys2Proof.Machine.execFreeWdog n task s
  | .freeSwitch n => Sys2Proof.Machine.execFreeSwitch n s
  | .outputImageSend n => Sys2Proof.Machine.execOutputImageSend n s
  | .freeOutputWrite n inst tile out on => Sys2Proof.Machine.execFreeOutputWrite n inst tile out on s
  | .percModeRun src n => Sys2Proof.Machine.execPercModeRun src n s
  | .percModeStop src n => Sys2Proof.Machine.execPercModeStop src n s
  | .percModeHold src n => Sys2Proof.Machine.execPercModeHold src n s
  | .wscRead n sync addr => Sys2Proof.Machine.execWscRead n sync addr s
  | .wscWrite n sync addr v => Sys2Proof.Machine.execWscWrite n sync addr v s
  | .progDataAccess src n w => Sys2Proof.Machine.execProgDataAccess src n w s
  | .load src n => Sys2Proof.Machine.execLoad src n s
  | .exchange src n => Sys2Proof.Machine.execExchange src n s
  | .retInit src n => Sys2Proof.Machine.execRetInit src n s
  | .progCheckDone n info => Sys2Proof.Machine.execProgCheckDone n info s
  | .xdone n x => Sys2Proof.Machine.execXdone n x s
  | .progFlashWrite n => Sys2Proof.Machine.execProgFlashWrite n s
  | .retainCopy n => Sys2Proof.Machine.execRetainCopy n s
  | .ptpSync m => Sys2Proof.Machine.execPtpSync m s
  | .ptpSyncTimeout => Sys2Proof.Machine.execPtpSyncTimeout s
  | .step => Sys2Proof.Machine.execStep s
  | .ptpForward m => Sys2Proof.Machine.execPtpForward m s
  | .ptpCtrlWrite src v => Sys2Proof.Machine.execPtpCtrlWrite src v s
  | .canRxFrame f => Sys2Proof.Machine.execCanRxFrame f s
  | .canTxReq src mask => Sys2Proof.Machine.execCanTxReq src mask s
  | .canTxCancel src mask => Sys2Proof.Machine.execCanTxCancel src mask s
  | .canTxArbitration => Sys2Proof.Machine.execCanTxArbitration s
  | .canTxComplete => Sys2Proof.Machine.execCanTxComplete s
  | .canTxError e => Sys2Proof.Machine.execCanTxError e s
  | .canBusOff => Sys2Proof.Machine.execCanBusOff s
  | .recover src => Sys2Proof.Machine.execRecover src s
  | .canRecoveryDone => Sys2Proof.Machine.execCanRecoveryDone s
  | .canRxLock src => Sys2Proof.Machine.execCanRxLock src s
  | .canRxRelease src => Sys2Proof.Machine.execCanRxRelease src s
  | .lockTmo => Sys2Proof.Machine.execLockTmo s
  | .canStatusFrame => Sys2Proof.Machine.execCanStatusFrame s
  | .heartbeatSend => Sys2Proof.Machine.execHeartbeatSend s
  | .heartbeat m => Sys2Proof.Machine.execHeartbeat m s
  | .heartbeatMissed => Sys2Proof.Machine.execHeartbeatMissed s
  | .noticeTrip ch cause path => Sys2Proof.Machine.execNoticeTrip ch cause path s
  | .noticeRelease ch => Sys2Proof.Machine.execNoticeRelease ch s
  | .noticeRestart ch => Sys2Proof.Machine.execNoticeRestart ch s
  | .mirrorSend n => Sys2Proof.Machine.execMirrorSend n s
  | .mirror m => Sys2Proof.Machine.execMirror m s
  | .mirrorFail n => Sys2Proof.Machine.execMirrorFail n s
  | .ringMsg m => Sys2Proof.Machine.execRingMsg m s
  | .resync => Sys2Proof.Machine.execResync s
  | .ownerInChange n claimed => Sys2Proof.Machine.execOwnerInChange n claimed s
  | .claimWatchEnd n => Sys2Proof.Machine.execClaimWatchEnd n s
  | .lost n => Sys2Proof.Machine.execLost n s
  | .takeoverEnable n => Sys2Proof.Machine.execTakeoverEnable n s
  | .bridgeClose n => Sys2Proof.Machine.execBridgeClose n s
  | .link => Sys2Proof.Machine.execLink s
  | .ready => Sys2Proof.Machine.execReady s
  | .handover src v => Sys2Proof.Machine.execHandover src v s
  | .eventFlush => Sys2Proof.Machine.execEventFlush s
  | .evtFlush src => Sys2Proof.Machine.execEvtFlush src s
  | .clear src => Sys2Proof.Machine.execClear src s
  | .evtWin7Read src => Sys2Proof.Machine.execEvtWin7Read src s
  | .optimePersist => Sys2Proof.Machine.execOptimePersist s
  | .ovf pg c slots others => Sys2Proof.Machine.execOvf pg c slots others s
  | .pmcCntlRead src pg c k => Sys2Proof.Machine.execPmcCntlRead src pg c k s
  | .pmcCntlWrite src pg c k v => Sys2Proof.Machine.execPmcCntlWrite src pg c k v s
  | .psSample pg e => Sys2Proof.Machine.execPsSample pg e s
  | .psDataRead src pg => Sys2Proof.Machine.execPsDataRead src pg s
  | .psClear src pg v => Sys2Proof.Machine.execPsClear src pg v s
  | .stageWrite src k v => Sys2Proof.Machine.execStageWrite src k v s
  | .verify src => Sys2Proof.Machine.execVerify src s
  | .verifyDone => Sys2Proof.Machine.execVerifyDone s
  | .updArm src => Sys2Proof.Machine.execUpdArm src s
  | .cancel src => Sys2Proof.Machine.execCancel src s
  | .activated => Sys2Proof.Machine.execActivated s
  | .confirm => Sys2Proof.Machine.execConfirm s
  | .accept src => Sys2Proof.Machine.execAccept src s
  | .fallback => Sys2Proof.Machine.execFallback s
  | .commit src => Sys2Proof.Machine.execCommit src s
  | .deprovision src => Sys2Proof.Machine.execDeprovision src s
  | .unlock src v => Sys2Proof.Machine.execUnlock src v s
  | .coverOpen => Sys2Proof.Machine.execCoverOpen s
  | .identityKeygen coverClosed => Sys2Proof.Machine.execIdentityKeygen coverClosed s
  | .tapInstruction dev op => Sys2Proof.Machine.execTapInstruction dev op s
  | .aux24Low => Sys2Proof.Machine.execAux24Low s
  | .auxFuseOpen => Sys2Proof.Machine.execAuxFuseOpen s
  | .auxFuseReclose => Sys2Proof.Machine.execAuxFuseReclose s
  | .aux24Restored => Sys2Proof.Machine.execAux24Restored s
  | .vholdCharged => Sys2Proof.Machine.execVholdCharged s
  | .slewEnd => Sys2Proof.Machine.execSlewEnd s
  | .claimStart n => Sys2Proof.Machine.execClaimStart n s
  | .supervisorRestartDone => Sys2Proof.Machine.execSupervisorRestartDone s
  | .testPulseStart n lineB => Sys2Proof.Machine.execTestPulseStart n lineB s
  | .canRxError => Sys2Proof.Machine.execCanRxError s
  | .canBusJoin => Sys2Proof.Machine.execCanBusJoin s
  | .impedanceAccumulation n => Sys2Proof.Machine.execImpedanceAccumulation n s
  | .ptpAnnounce m => Sys2Proof.Machine.execPtpAnnounce m s
  | .ptpPathDelay portB ns => Sys2Proof.Machine.execPtpPathDelay portB ns s
  | .ptpMasterSync => Sys2Proof.Machine.execPtpMasterSync s

end Sys2Proof.Machine
end

