-- ==== Sys2Proof/Safety.lean ====
section
/-! DEFINITION. What counts as a safe run and the terms in which statements say what a command did: the OK answers,
what two states share, and the safe conditions of a channel. -/

namespace Sys2Proof.Machine
open Sys2Proof

/-- A run is safe at a step that goes on: neither a fault nor a refusal of the model. -/
def Goes (o : Host.Outcome State Fault Refusal) : Prop := ∃ t, o = .next t

/-- The state with the result OK of a one-word write or command. -/
def State.done (s : State) : State := { s with last := ⟨.ok, 1, false, 0, []⟩ }

/-- The state with the result OK and the word of a one-word read. -/
def State.doneRead (s : State) (w : Word) : State := { s with last := ⟨.ok, 1, false, 0, [w]⟩ }

/-- The state with the refusal `st` of a one-word operation. -/
def State.refusedWith (s : State) (st : Status) : State := { s with last := ⟨st, 0, false, 0, []⟩ }

/-- The registers are in the canonical form of their memory. -/
def State.regsCanonical (s : State) : Prop := Mem.wf resetWord s.regs = true

/-- Every register but those listed reads the same. -/
def sameRegs (s t : State) (ex : List Nat) : Prop := ∀ a, a ∉ ex → t.reg a = s.reg a

/-- The registers that a source of a page and the records it makes may change: IRQ_RAW and IRQ_PEND of the page and of
EVT. -/
def irqOf (pg : PageRef) : List Nat := [R.IRQ_RAW pg, R.IRQ_PEND pg, R.IRQ_RAW pgEVT, R.IRQ_PEND pgEVT]

/-- Nothing changed beside registers, MRAM dues, event records, NOTIFY records due and the operation result: no buffer,
FIFO, clock, session, queue, supply or other hidden part. -/
def sameParts (s t : State) : Prop :=
  t = { s with regs := t.regs, dirty := t.dirty, evt := t.evt, notifies := t.notifies, last := t.last }

/-- Every channel but n keeps its part of the state. -/
def otherChannels (s t : State) (n : Ch) : Prop := ∀ k, k ≠ n → t.ch k = s.ch k

/-- The address lies in channel n's pages and windows (Table 4.4). -/
def onChannel (n : Ch) (a : Nat) : Prop := chBase n ≤ a ∧ a < chBase n + 0x20000

/-- What happened concerns channel n only (R1): every other channel's part of the state is as it was, and so is every
register off channel n's pages but the module's mode, the panel's LOCKOUT lights and the interrupt sources of SYS and EVT. -/
def onlyChannel (s t : State) (n : Ch) : Prop :=
  otherChannels s t n ∧ t.clock = s.clock
    ∧ ∀ a, ¬ onChannel n a → a ∉ R.SYS_STAT :: R.PANEL_STAT :: irqOf pgSYS → t.reg a = s.reg a

/-- What happened concerns the shared pages only: no channel's part of the state and no register of a channel page or
window changed. -/
def sharedOnly (s t : State) : Prop := t.chans = s.chans ∧ ∀ a, 0x100000 ≤ a → t.reg a = s.reg a

/-- No control law of a channel runs (R162, R167). -/
def State.pwmInhibited (s : State) (n : Ch) : Prop :=
  (s.ch n).ctle.enabled = false ∧ s.flag (F.CTLE_STAT_INHIBIT n) = true ∧ s.get (F.CTLE_STAT_LAW n) = 0

/-- The safe conditions of a tripped channel: TRIPPED and no law running (R251). -/
def State.tripSafe (s : State) (n : Ch) : Prop := s.chState n = stTRIPPED ∧ s.pwmInhibited n

/-- The words that m reads of FIFO.DATA one after another return (R134, R135). -/
def fifoReads (n : Ch) : Nat → State → State × List Word
  | 0, s => (s, [])
  | m + 1, s =>
    let r := s.readFifo n
    let q := fifoReads n m r.1
    (q.1, r.2 :: q.2)

end Sys2Proof.Machine
end

