-- ==== Sys2Proof/WellFormed.lean ====
section
/-! DEFINITION. Well-formed commands: operands inside what the module's connectors, frames and operation formats can
carry. The machine is total and gives every command a meaning, well formed or not; statements that speak of formats
ask for it. -/

namespace Sys2Proof

/-- A page instance: a shared page has the instance 0 (R77). -/
def PageRef.wf (p : PageRef) : Bool := p.page.isChan || p.ch == 0

/-- A WRAP address of 24 bits (R76) and a word count of one byte that is not 0 (R69). -/
def addrWf (a : Nat) : Bool := decide (a < 2 ^ 24)
def countWf (n : Nat) : Bool := decide (1 ≤ n) && decide (n ≤ 255)

/-- An operation of an atomic request (R69). -/
def AtomicOp.wf : AtomicOp → Bool
  | .write a ws => addrWf a && countWf ws.length
  | .mask a ps => addrWf a && countWf ps.length
  | .other => true

/-- A CAN frame as the bus can carry it (R313): an 11-bit or 29-bit identifier, a 4-bit DLC, at most 64 bytes, no
remote frame in FD format, no bit-rate switch outside it. -/
def CanFrame.wf (f : CanFrame) : Bool :=
  decide (f.id < (if f.ide then 2 ^ 29 else 2 ^ 11)) && decide (f.dlc < 16) && decide (f.data.length ≤ 64)
    && !(f.rtr && f.fdf) && !(f.brs && !f.fdf)

/-- A status block of an ENUM frame (Table 5.5): byte-wide cell count, 16-bit version. -/
def EnumBlock.wf (b : EnumBlock) : Bool := decide (b.cells < 256) && decide (b.mcver < 65536)

/-- The fields of an Announce (IEEE 1588; R307). -/
def AnnounceMsg.wf (m : AnnounceMsg) : Bool :=
  decide (m.domain < 256) && decide (m.prio1 < 256) && decide (m.clockClass < 256) && decide (m.accuracy < 256)
    && decide (m.variance < 65536) && decide (m.prio2 < 256) && decide (m.identity < 2 ^ 64)

/-- A mirror segment (R332): its index among its record's segments. -/
def MirrorSeg.wf (m : MirrorSeg) : Bool := decide (m.index < m.total)

/-- A program's tables (R284, R288): task classes, owners that name tasks of the program. -/
def ProgInfo.wf (p : ProgInfo) : Bool :=
  p.tasks.all (fun t => t.cls == 1 || t.cls == 2) && p.owners.all (fun o => decide (o.task < p.tasks.length))

/-- Well-formedness of a command; constructors whose operands' types say it all are well formed. -/
def Instr.wf : Instr → Bool
  | .wrapRequest _ b => decide (b.val.length < 65536)
  | .read _ a n => addrWf a && countWf n
  | .readRepeat _ a n => addrWf a && countWf n
  | .write _ a ws _ => addrWf a && countWf ws.length
  | .writeMask _ a ps _ => addrWf a && countWf ps.length
  | .registerWrite _ a _ _ => addrWf a
  | .atomicRequest _ ops => decide (1 ≤ ops.val.length) && decide (ops.val.length ≤ 64) && ops.val.all AtomicOp.wf
  | .broadcastWrite _ o ws => decide (o < 0x4400) && countWf ws.val.length
  | .irqPendClear _ pg _ => pg.wf
  | .pageUnlock _ pg _ => pg.wf
  | .unlockExpiry _ pg => pg.wf
  | .unlockLockoutEnd _ pg => pg.wf
  | .softReset _ pg => pg.wf
  | .pageDisable _ pg => pg.wf
  | .pageEnable _ pg => pg.wf
  | .bootEnd r => decide (r.core.length = 8)
  | .wakeVoltageCheck mv => decide (mv.length = 8)
  | .holdupStart o => decide (o.est.length = 8)
  | .enum _ bs _ => bs.all EnumBlock.wf
  | .ctleSample _ i => decide (i.k < 40)
  | .dieSample t => decide (t.length = 9)
  | .cdiagForce _ _ tile tap => decide (tile < 32) && decide (tap < 32)
  | .balHcmdLapse _ tile cell => decide (1 ≤ tile) && decide (tile ≤ 26) && decide (cell < 16)
  | .progCheckDone _ i => i.wf
  | .canRxFrame f => f.wf
  | .ptpAnnounce m => m.wf
  | .mirror m => m.wf
  | .ovf pg _ _ _ => pg.page == .pmc || pg.page == .pmcs
  | .pmcCntlRead _ pg _ _ => pg.page == .pmc || pg.page == .pmcs
  | .pmcCntlWrite _ pg _ _ _ => pg.page == .pmc || pg.page == .pmcs
  | .psSample pg _ => pg.page == .pmc || pg.page == .pmcs
  | .psDataRead _ pg => pg.page == .pmc || pg.page == .pmcs
  | .psClear _ pg _ => pg.page == .pmc || pg.page == .pmcs
  | _ => true

end Sys2Proof
end

