-- ==== Sys2Proof/Certificates/Slice0/Obligations.lean ====
section
/-! DEFINITION. The statements for the provers, each with the rule or the chapter of the spec that it rests on. -/

open Sys2Proof Sys2Proof.Machine


/-- For every command c, every rest of the queue r and every state s: a step of s with the queue c followed by r
answers what exec of c answers on s with the queue r. Putting a command in front is the model's form of sending
it; the queue itself is the model's. (00_scope.md; 04_host_access_and_registers.md; assumption 1) -/
def Obligations.StepRunsFront : Prop :=
  ∀ (c : Instr) (r : List Instr) (s : State), step { s with pending := c :: r } = exec c { s with pending := r }


/-- With no command waiting, a step goes on with 1,000 ns more of time-base time and of plant time, every other part
of the state as before. This is the model's choice of what time does between commands (assumption 1); the spec
gives no command for it. (assumption 1) -/
def Obligations.IdleTick : Prop :=
  ∀ s : State, s.pending = [] →
    step s = .next { s with clock := { s.clock with tb := s.clock.tb + 1000, plant := s.clock.plant + 1000 } }


/-- For every command and every state, exec answers a next state: never a fault and never a refusal of the model.
The spec gives each command an effect, a refusal status or no effect, and each of these leaves a state. What the
spec leaves open here is the model's reading (assumption 72). (04_host_access_and_registers.md; 00_scope.md;
assumption 72) -/
def Obligations.EveryCommandGoesOn : Prop := ∀ (c : Instr) (s : State), Goes (exec c s)


/-- In the reset state every address reads its reset word (the register tables' reset values; 0 where no register
is); no command waits, no session is open, no snapshot is held, no event is stored or staged; time-base time is
0 (the model's choice, assumption 8). So SYS.STAT.MODE is BOOT, every CH.STATE is ISOLATED, and on every channel
the ring page is enabled and the PWM is inhibited. (23_register_index.md; 03_modes_startup_and_decaf.md;
04_host_access_and_registers.md; assumption 8) -/
def Obligations.ResetState : Prop :=
  (∀ a, State.reset.reg a = resetWord a) ∧ State.reset.pending = [] ∧ State.reset.sessions = []
    ∧ State.reset.snap = none ∧ State.reset.evt.stored = [] ∧ State.reset.evt.staged = [] ∧ State.reset.clock.tb = 0
    ∧ State.reset.mode = mBOOT ∧ (∀ n, State.reset.chState n = stISOLATED)
    ∧ (∀ n, State.reset.enabled (pgRING n) = true ∧ State.reset.flag (F.CTLE_STAT_INHIBIT n) = true)


/-- At reset the register memory is in its canonical form: addresses strictly rising and no entry equal to the reset
word of its address. The form is the model's own way of holding registers (assumption 3).
(04_host_access_and_registers.md; assumption 3) -/
def Obligations.RegistersCanonicalAtReset : Prop := State.reset.regsCanonical


/-- For every state whose register memory is in the canonical form (addresses strictly rising, no entry equal to its
reset word), if a step answers a next state, that state's register memory is in the canonical form again; so
equal register contents stay equal data, whatever command runs, start and parameter reload included.
(04_host_access_and_registers.md; assumption 3) -/
def Obligations.RegistersCanonicalKept : Prop :=
  ∀ s t : State, s.regsCanonical → step s = .next t → t.regsCanonical


/-- Whatever command runs, the commands that wait are the same after it: exec is the command's effect on everything
but the queue. (00_scope.md) -/
def Obligations.QueueUntouched : Prop :=
  ∀ (c : Instr) (s t : State), exec c s = .next t → t.pending = s.pending


/-- For every list of 1 to 64 well-formed operations (24-bit address, 1 to 255 words each) whose datagram holds at
most 1,400 bytes, the bytes of the request (header of Table 4.1, operations of Table 4.2, big-endian) parse back
to exactly those operations, and the header's HSEQ field reads the sequence number given, its length field the
bytes after the header, its flag bit 0 the atomic flag. (R67; R68; R69; Table 4.1; Table 4.2) -/
def Obligations.RequestRoundTrip : Prop :=
  ∀ (h : Word) (a : Bool) (l : List WrapOp), 1 ≤ l.length → l.length ≤ 64 → (∀ o ∈ l, o.wf = true) →
    (encodeRequest h a l).length ≤ 1400 →
    parseRequest (encodeRequest h a l) = some l
      ∧ bytesWord (((encodeRequest h a l).drop 4).take 4) = h
      ∧ beNat (((encodeRequest h a l).drop 2).take 2) + 16 = (encodeRequest h a l).length
      ∧ (beNat (((encodeRequest h a l).drop 12).take 2) == 1) = a


/-- When each word of the range reads OK and its read has no side effect, READ of n words from address a leaves the
state as it was but for its result: status OK, n words, the words in ascending address order. When the word at a
reads OK without a side effect, READ_REPEAT returns it n times. What the spec leaves open here is the model's
reading (assumption 55). (R72; R76; Table 4.2; 04_host_access_and_registers.md; assumption 55) -/
def Obligations.ReadsAnswer : Prop :=
  ∀ (s : State) (src : Src) (a n : Nat),
    (∀ w : Nat → Word, (∀ i, i < n → s.readAddr src (a + 4 * i) = (.ok, s, w i)) →
      exec (.read src a n) s = .next { s with last := ⟨.ok, n, false, 0, (List.range n).map w⟩ })
    ∧ (∀ w : Word, s.readAddr src a = (.ok, s, w) →
      exec (.readRepeat src a n) s = .next { s with last := ⟨.ok, n, false, 0, List.replicate n w⟩ })


/-- On the pages whose registers have no read effect (SYS, SNAP, PANEL, ALLOC, THERM, TWIN, HLTH, CH, RING, POUR,
CDIAG, BAL, both CBKs, PROF, VAX, CONT), a source that may reach the page reads the word the register shows (the
frozen word of an RO-S register while a snapshot is held, else the present word) with the bits of WO fields 0,
and the read changes nothing; an offset of such a page that names no register reads 0. (R72; R76; R9;
04_host_access_and_registers.md) -/
def Obligations.PlainRegisterReads : Prop :=
  ∀ (s : State) (src : Src) (a off : Nat) (pg : PageRef),
    a % 4 = 0 → locate a = .page pg off → s.reachable src pg = .ok → 0x20 ≤ off →
    pg.page ∈ [Page.sys, .snap, .panel, .alloc, .therm, .twin, .hlth, .ch, .ring, .pour, .cdiag, .bal, .cbk0, .cbk1, .prof,
      .vax, .cont] →
    (∀ d k, findReg pg.page off = some (d, k) →
      s.readAddr src a = (.ok, s, s.shownReg (hdr pg off) &&& ~~~(maskOf d (fun x => x == .wo))))
    ∧ (findReg pg.page off = none → s.readAddr src a = (.ok, s, 0))


/-- On a register of a page whose registers only keep what is written (HOST, THERM, POUR), when the gate lets the
word x through and x lies in the register's range: a register write of x and a WRITE of the one word x leave in
the register what its fields' access types keep of x (writeWord), and a WRITE_MASK of (m, v) does so for the
word that takes v under the mask and the present RW bits outside it. The result is OK with 1 word; the write
opens an arbitration round, which remembers it (assumption 4), a begun unlock sequence of the page restarts, and
nothing else changes. What the spec leaves open here is the model's reading (assumptions 56, 70). (R9; R69;
R392; R72; R82; 04_host_access_and_registers.md; assumption 4; assumption 56; assumption 70) -/
def Obligations.PlainWrites : Prop :=
  ∀ (s : State) (src : Src) (a off k : Nat) (pg : PageRef) (d : RegD) (x : Word),
    a % 4 = 0 → locate a = .page pg off → findReg pg.page off = some (d, k) → 0x20 ≤ off →
    pg.page ∈ [Page.host, .therm, .pour] →
    let s0 := s.enter src false
    let u := s0.restartUnlock src pg off
    let reg := hdr pg (d.off + k * d.stride)
    u.gate src pg off x = .ok → u.rangeOk pg d.off k x = true →
    let t : State := { (u.setReg reg (writeWord d (u.reg reg) x)) with
      joined := [(a, s.rankOf src)], last := ⟨.ok, 1, false, 0, []⟩ }
    exec (.registerWrite src a x false) s = .next t
      ∧ exec (.write src a [x] false) s = .next t
      ∧ ∀ m v : Word,
        x = ((s0.readReg src pg off).2.2 &&& maskOf d (fun y => y == .rw || y == .rwi) &&& ~~~m) ||| (v &&& m) →
        exec (.writeMask src a [(m, v)] false) s = .next t


/-- A WRAP session's write passes the gate when: the session is open and the supervisor is not restarting; the mode
is neither DECAF nor HALT and the module is provisioned; the offset names a register with a field that a write
may change; privilege is held if the write needs it; the page is unlocked if the register is protected; the
channel is no standby whose register R329 keeps; and the channel is ISOLATED or the RW-I fields keep their
values. (R9; R48; R66; R84; R329; R392; 04_host_access_and_registers.md; assumption 26) -/
def Obligations.GateOpens : Prop :=
  ∀ (s : State) (i : Nat) (pg : PageRef) (off k : Nat) (d : RegD) (v : Word),
    s.session i ≠ none → s.sup.restarting = false → s.mode ≠ mDECAF → s.mode ≠ mHALT → s.get F.SEC_STAT_PROV = 1 →
    findReg pg.page off = some (d, k) → maskOf d writable ≠ 0 →
    (privNeeded pg off v = true → s.service (.session i) = true) →
    (d.prot = true → off ≠ 0x01C → s.unlocked (.session i) pg = true) →
    s.standbyRefuses (.session i) pg off = false →
    (pg.page.isChan = true → s.chState pg.ch = stISOLATED
      ∨ s.presentWord pg off &&& maskOf d (fun a => a == .rwi) = v &&& maskOf d (fun a => a == .rwi)) →
    s.gate (.session i) pg off v = .ok


/-- When a write is refused by the gate with a status st, the status is reported and every register, every channel's
part, the clock, the supplies, the recorder and the mode keep their values: a register write of a misaligned
address reports ALIGN, of an address in no page NOADDR, of a page register the gate's status. What the spec
leaves open here is the model's reading (assumption 26). (R392; R9; R48; 04_host_access_and_registers.md;
assumption 26) -/
def Obligations.RefusedWriteChangesNothing : Prop :=
  ∀ (s : State) (src : Src) (a off : Nat) (pg : PageRef) (v : Word) (j : Bool),
    let s0 := s.enter src j
    (a % 4 ≠ 0 → exec (.registerWrite src a v j) s = .next (s0.refusedWith .align))
    ∧ (a % 4 = 0 → locate a = .unmapped → exec (.registerWrite src a v j) s = .next (s0.refusedWith .noaddr))
    ∧ (a % 4 = 0 → locate a = .page pg off → (s.restartUnlock src pg off).gate src pg off v ≠ .ok →
      ∃ t, exec (.registerWrite src a v j) s = .next t
        ∧ t.last = ⟨(s.restartUnlock src pg off).gate src pg off v, 0, false, 0, []⟩
        ∧ t.regs = s.regs ∧ t.chans = s.chans ∧ t.clock = s.clock ∧ t.sup = s.sup ∧ t.evt = s.evt ∧ t.upd = s.upd
        ∧ t.outbox = s.outbox ∧ t.notifies = s.notifies)


/-- For every set of operations: either every operation is a write outside the broadcast alias, the set holds at
most 64 words, no word is refused, and the next state is that of the writes made on a copy of the state
(assumption 54), in request order but for those of CTLE.BANKSEL, which come last, so that a swap request sees
the bank values of its own request (R178), committed whole as one arbitration request, with the result OK; or
the next state is the present one, with a result that is not OK. When only the words are refused, the refused
operations answer their own status and the others ABORTED. (R81; R79; R178; 04_host_access_and_registers.md;
assumption 54) -/
def Obligations.AtomicAllOrNothing : Prop :=
  ∀ (s : State) (src : Src) (ops : List AtomicOp) (j : Bool),
    let r := (s.enter src j).shadowRun src ops
    let shape := (∀ o ∈ ops, atomicBad o = false) ∧ atomicSize ops ≤ 64
    let good := shape ∧ ∀ x ∈ r.1, x.status = .ok
    (good → exec (.atomicRequest src ⟨ops, j⟩) s = .next { r.2 with last := ⟨.ok, ops.length, false, 0, []⟩ })
    ∧ (¬ good → ∃ o : OpResult, o.status ≠ .ok ∧ exec (.atomicRequest src ⟨ops, j⟩) s = .next { s with last := o })
    ∧ ((∀ o ∈ ops, banksel o = false) → shape → r.2 = ops.foldl (fun t o => match AtomicOp.words o with
      | some (a, ps) => (t.writeWords src (s.enter src j).joined a ps).2
      | none => t) (s.enter src j))
    ∧ (shape → ¬ good →
      s.atomic src ops j = (r.1.map (fun o => ⟨if o.status = .ok then .aborted else o.status, 0, false, 0, []⟩), s))


/-- For an aligned alias offset inside a channel's pages and a source that is not user code, a BROADCAST_WRITE of
the words ws is one arbitration request that makes the write of ws at that offset of every channel whose
HOST.BCAST_EN bit is set, CH0 first. When every one of them accepts, the result is OK with the map of the
enabled channels and with OVERWRITTEN if a word of one was overwritten in the round, and HOST.BCAST_RESULT of
the writing identity keeps attempted = accepted = enabled channels with no refusal. A WRITE or a register write
whose address lies in the alias is that broadcast. What the spec leaves open here is the model's reading
(assumption 70). (R79; R80; R82; Table 4.4; 04_host_access_and_registers.md; assumption 70) -/
def Obligations.BroadcastReachesEnabled : Prop :=
  ∀ (s : State) (src : Src) (off : Nat) (ws : List Word) (j : Bool),
    off % 4 = 0 → userCode src = false → off + 4 * ws.length ≤ 0x4400 →
    let s0 := s.enter src j
    let targets := allCh.filter (fun n => s0.getBit F.HOST_BCAST_EN_EN n.val)
    let r := targets.foldl (fun (x : List (Ch × OpResult) × State) n =>
      let q := x.2.writeWords src s0.joined (chBase n + off) (fullMask ws)
      (x.1 ++ [(n, q.1)], q.2)) (([] : List (Ch × OpResult)), s0)
    (∀ a, locate a = .bcast off →
      exec (.write src a ws j) s = exec (.broadcastWrite src off ⟨ws, j⟩) s
      ∧ ∀ w, exec (.registerWrite src a w j) s = exec (.broadcastWrite src off ⟨[w], j⟩) s)
    ∧ ((∀ p ∈ r.1, p.2.status = .ok) →
      let word := BitVec.ofNat 32 (chMask targets * 65536 + chMask targets)
      let t := match s0.identOf src with | some i => r.2.modIdent i (fun x => { x with bcast := word }) | none => r.2
      exec (.broadcastWrite src off ⟨ws, j⟩) s = .next { t with
        last := ⟨.ok, if chMask targets = 0 then 0 else ws.length, r.1.any (fun p => p.2.ovw),
          BitVec.ofNat 8 (chMask targets), []⟩ })


/-- When the gate lets the write through: IRQ_PEND_CLEAR of v clears the pending bits that v names and lets their
event sources rise again (assumption 15). SOFT_RESET accepted for the page runs the page's soft reset, ENABLE as
it stands. PAGE_DISABLE of an enabled page that may be disabled clears ENABLE and stops the block; PAGE_ENABLE
of a disabled page sets ENABLE and starts it. UNLOCK_EXPIRY drops a session's unlock of the page once it is
1,000 ms old; UNLOCK_LOCKOUT_END drops an identity's lockout of the page once it is 60 s old. Nothing else
changes but the operation result and a begun unlock sequence of the page. What the spec leaves open here is the
model's reading (assumption 28). (R74; R84; R393; R394; Table 4.6; Table 4.10; assumption 15; assumption 28) -/
def Obligations.HeaderCommands : Prop :=
  (∀ (s : State) (src : Src) (pg : PageRef) (v : Word), let u := s.restartUnlock src pg 0x014
    u.gate src pg 0x014 v = .ok → exec (.irqPendClear src pg v) s = .next (u.pendClear pg v).done)
  ∧ (∀ (s : State) (src : Src) (pg : PageRef), let u := s.restartUnlock src pg 0x004
    let w := BitVec.ofNat 32 (2 ^ 31 + b2n (s.enabled pg))
    u.gate src pg 0x004 w = .ok → u.pageCtrlStatus pg w = .ok → u.enabled pg = s.enabled pg →
      exec (.softReset src pg) s = .next ((u.putB (F.ENABLE pg) (s.enabled pg)).softReset src pg).done)
  ∧ (∀ (s : State) (src : Src) (pg : PageRef), let u := s.restartUnlock src pg 0x004
    u.gate src pg 0x004 0 = .ok → u.pageCtrlStatus pg 0 = .ok → u.enabled pg = true →
      exec (.pageDisable src pg) s = .next ((u.putB (F.ENABLE pg) false).pageOff pg).done)
  ∧ (∀ (s : State) (src : Src) (pg : PageRef), let u := s.restartUnlock src pg 0x004
    u.gate src pg 0x004 1 = .ok → u.pageCtrlStatus pg 1 = .ok → u.enabled pg = false →
      exec (.pageEnable src pg) s = .next ((u.putB (F.ENABLE pg) true).pageOn pg).done)
  ∧ (∀ (s : State) (sid : Nat) (pg : PageRef), exec (.unlockExpiry sid pg) s = .next { s with
      sessions := s.sessions.map (fun x => if x.sid = sid then { x with
        unlocks := x.unlocks.filter (fun u => u.1 != pg || decide (s.tb - u.2 < 1000000000)) } else x) })
  ∧ (∀ (s : State) (i : Ident) (pg : PageRef), exec (.unlockLockoutEnd i pg) s = .next { s with
      idents := s.idents.map (fun x => if x.ident = i then { x with
        lockouts := x.lockouts.filter (fun l => l.1 != pg || decide (s.tb - l.2 < 60000000000)) } else x) })


/-- For an open session whose identity is not locked out of the page, when the gate lets the write of PAGE_UNLOCK
through: a write of 0x0000C0FE in a session that has begun no sequence on the page begins one and ends an unlock
the page has; then a write of the page's type completes it, and the session holds the page unlocked from the
present time-base time and no begun sequence. Other sessions keep theirs. What the spec leaves open here is the
model's reading (assumption 29). (R84; Table 4.12; 04_host_access_and_registers.md; assumption 29) -/
def Obligations.UnlockSequence : Prop :=
  ∀ (s : State) (i : Nat) (pg : PageRef) (x : Session),
    s.session i = some x → s.lockedOut x.ident pg = false →
    (∀ v, s.gate (.session i) pg 0x01C v = .ok) →
    (x.begun.contains pg = false → exec (.pageUnlock (.session i) pg 0x0000C0FE) s = .next
      (s.modSession i (fun y => { y with
        unlocks := y.unlocks.filter (fun u => u.1 != pg), begun := y.begun.filter (· != pg) ++ [pg] })).done)
    ∧ (x.begun.contains pg = true →
      exec (.pageUnlock (.session i) pg (BitVec.ofNat 32 (pageType pg.page))) s = .next
      (s.modSession i (fun y => { y with
        unlocks := y.unlocks.filter (fun u => u.1 != pg) ++ [(pg, s.tb)], begun := y.begun.filter (· != pg) })).done)


/-- For a datagram on an open session while the host ports are up, whose size agrees with its LENGTH field and whose
identity the module keeps: when the HSEQ is one of the stored requests, the stored response is sent again and
nothing else happens but that the session and the identity count as used now; when the HSEQ is neither stored
nor older than every stored one and the datagram parses to the operations l, these run on the state (atomically
if FLAGS says so) and the response with the next DSEQ is sent and stored. A datagram of the wrong size only
records an event. What the spec leaves open here is the model's reading (assumptions 30, 31, 32). (R28; R29;
R65; R68; R72; 04_host_access_and_registers.md; assumption 30; assumption 31; assumption 32) -/
def Obligations.WrapRequestAnswered : Prop :=
  ∀ (s : State) (sid : Nat) (b : List Byte) (j : Bool) (x : Session),
    s.session sid = some x → s.sup.restarting = false →
    let size := beNat ((b.drop 2).take 2) + 16
    let h := bytesWord ((b.drop 4).take 4)
    let u := (s.modIdent x.ident (fun y => { y with lastUsed := s.tb })).modSession x.sid (fun y => { y with lastReq := s.tb })
    (b.length < 16 ∨ b.length ≠ size → exec (.wrapRequest sid ⟨b, j⟩) s =
      .next (s.log 0x0241 0xF 1 (BitVec.ofNat 32 b.length) (BitVec.ofNat 32 size) (BitVec.ofNat 32 (portIx x.port))))
    ∧ (∀ y old, b.length = size → 16 ≤ b.length → u.idents.find? (fun z => z.ident == x.ident) = some y →
      (y.storedOf h = some old → exec (.wrapRequest sid ⟨b, j⟩) s = .next (u.emit (.response x.sid old)))
      ∧ (∀ l, y.storedOf h = none → y.isOld h = false → parseRequest b = some l →
        let r := u.runRequest (.session x.sid) (beNat ((b.drop 12).take 2) == 1) j l
        exec (.wrapRequest sid ⟨b, j⟩) s = .next (r.2.respond x.sid x.ident h r.1 true)))


/-- An accepted handshake of an identity without a session opens one with the next handle, on its port, with no
unlock, and keeps the identity. A session without a valid request for 60 s ends, a snapshot it owns released
first; with less it stays. With one open session of a kept identity and 1 to 64 records due, NOTIFY_SEND sends
that session one datagram with the identity's next DSEQ and the records in ascending page order, and no record
stays due. What the spec leaves open here is the model's reading (assumptions 32, 33). (R64; R65; R74; R75; R24;
04_host_access_and_registers.md; assumption 32; assumption 33) -/
def Obligations.SessionsOpenAndEnd : Prop :=
  (∀ (s : State) (p : Port) (i : Ident) (o : Offer), s.accepts p i o = true → (∀ x ∈ s.sessions, x.ident ≠ i) →
    let u := s.useIdent i
    exec (.dtlsHandshake p i o) s =
      .next { u with sessions := u.sessions ++ [⟨u.nextSid, i, p, u.tb, [], []⟩], nextSid := u.nextSid + 1 })
  ∧ (∀ (s : State) (sid : Nat) (x : Session), s.session sid = some x →
    let u := if s.ownsSnap (.session sid) then s.snapRelease true else s
    exec (.sessionTimeout sid) s =
      .next (if s.passedMs x.lastReq 60000 then { u with sessions := u.sessions.filter (fun y => y.sid != sid) } else s))
  ∧ (∀ (s : State) (x : Session) (y : IdState), s.sup.restarting = false → s.sessions = [x] →
    s.idents.find? (fun z => z.ident == x.ident) = some y → s.notifies ≠ [] → s.notifies.length ≤ 64 →
    let l := notifySort s.notifies
    exec .notifySend s = .next { s with
      notifies := []
      idents := s.idents.map (fun z => if z.ident = x.ident then { z with dseq := y.dseq + 1 } else z)
      outbox := s.outbox ++ [.notify x.sid (wrapHeader 3 (16 * l.length) 0 (y.dseq + 1).toNat 0 l.length
        ++ l.flatMap NotifyRec.bytes)] })


/-- When the gate lets it through and no other session holds a snapshot, a session's SNAP_REQ freezes the channels
its mask names (0 names all) for that session. SNAP_END by the owner releases the snapshot, and does nothing
when none is held. SNAP_TIMEOUT releases a snapshot held for SNAP.TIMEOUT with EXPIRED set, and a younger one
stays. A read of the address in SNAP.LAST_ADDR, when it lies in a channel's window, returns that window's word,
and the owner's read releases the snapshot; a refused request of another session changes nothing and answers
OWNER. What the spec leaves open here is the model's reading (assumption 34). (R20; R21; R24; R25; R391;
01_epochs_and_coherent_state.md; assumption 34) -/
def Obligations.SnapshotCommands : Prop :=
  (∀ (s : State) (i : Nat) (v : Word) (j : Bool), let u := s.restartUnlock (.session i) pgSNAP 0x020
    u.gate (.session i) pgSNAP 0x020 v = .ok →
    let m := if bitsOf v 7 0 = 0 then 0xFF else bitsOf v 7 0
    (u.snap = none ∨ u.ownsSnap (.session i) = true → exec (.snapReq (.session i) v j) s =
      .next (u.snapFreeze i (allCh.filter (fun n => m.testBit n.val))).done)
    ∧ (u.snap ≠ none → u.ownsSnap (.session i) = false →
      exec (.snapReq (.session i) v false) s = .next (u.refusedWith .owner)))
  ∧ (∀ (s : State) (i : Nat) (v : Word), let u := s.restartUnlock (.session i) pgSNAP 0x024
    u.gate (.session i) pgSNAP 0x024 v = .ok →
    (u.snap = none → exec (.snapEnd (.session i) v) s = .next u.done)
    ∧ (u.ownsSnap (.session i) = true →
      exec (.snapEnd (.session i) v) s = .next ({ (u.putB F.SNAP_STAT_HELD false) with snap := none }).done))
  ∧ (∀ (s : State) (h : SnapS), s.snap = some h → exec .snapTimeout s = .next (if s.passedMs h.at_ h.limit then
      ({ (s.putB F.SNAP_STAT_HELD false) with snap := none }).setRaise F.SNAP_STAT_EXPIRED pgSNAP 2 else s))
  ∧ (∀ (s : State) (src : Src) (n : Ch) (off : Nat), locate (s.get F.SNAP_LAST_ADDR_ADDR) = .window n off →
    s.reachable src (pgCH n) = .ok →
    exec (.snapLastRead src) s = .next ((if s.ownsSnap src ∧ chBase n + off = s.get F.SNAP_LAST_ADDR_ADDR
      then s.snapRelease false else s).doneRead (s.winWord n off)))


/-- When the gate lets the command through: MARK between frames keeps the read pointer in LEVEL.MARK with MARK_VALID
1 and MARK_LOST 0. REWIND with a valid, unlost mark and no flush pending moves the read pointer back to the
mark, between frames. FLUSH between frames empties the FIFO at once and inside a frame leaves a flush pending.
CLRMARK clears MARK_VALID. A read of FIFO.DATA of an empty FIFO sets UNDERRUN, raises its source and returns the
last word; the read of a non-empty FIFO returns the word at the read pointer as SECDED gives it (assumption 82)
and moves the pointer on by one. What the spec leaves open here is the model's reading (assumption 35). (R134;
R135; R137; R139; R141; 07_epoch_fifos.md; assumption 35) -/
def Obligations.FifoCommands : Prop :=
  (∀ (s : State) (src : Src) (n : Ch), let u := s.restartUnlock src (pgFIFO n) 0x024
    (u.gate src (pgFIFO n) 0x024 1 = .ok → (u.ch n).fifo.headLeft = 0 → exec (.mark src n) s =
      .next (((u.put (F.FIFO_LEVEL_MARK n) (u.rptr n)).putB (F.FIFO_STAT_MARK_VALID n) true).putB (F.FIFO_STAT_MARK_LOST n) false).done)
    ∧ (u.gate src (pgFIFO n) 0x024 2 = .ok → u.flag (F.FIFO_STAT_MARK_VALID n) = true →
      u.flag (F.FIFO_STAT_MARK_LOST n) = false → u.flag (F.FIFO_STAT_FLUSH_PEND n) = false → exec (.rewind src n) s =
        .next (((u.put (F.FIFO_PTR_RPTR n) (u.get (F.FIFO_LEVEL_MARK n))).modFifo n (fun f =>
          { f with headLeft := 0, headLen := 0 })).fifoShow n).done)
    ∧ (u.gate src (pgFIFO n) 0x024 4 = .ok → exec (.flush src n) s = .next
        (if (u.ch n).fifo.headLeft = 0 then u.fifoFlushed n else u.putB (F.FIFO_STAT_FLUSH_PEND n) true).done)
    ∧ (u.gate src (pgFIFO n) 0x024 8 = .ok → exec (.clrmark src n) s = .next (u.putB (F.FIFO_STAT_MARK_VALID n) false).done))
  ∧ (∀ (s : State) (src : Src) (n : Ch), s.reachable src (pgFIFO n) = .ok →
    (s.rptr n = s.wptr n → exec (.fifoDataRead src n) s =
      .next (((s.putB (F.FIFO_STAT_UNDERRUN n) true).raise (pgFIFO n) 2).doneRead (s.ch n).fifo.lastWord))
    ∧ (s.rptr n ≠ s.wptr n → ∃ t, exec (.fifoDataRead src n) s = .next t
      ∧ t.last = ⟨.ok, 1, false, 0, [flipped ((s.ch n).fifo.flipAt (s.rptr n)) (s.fifoWord n (s.rptr n))]⟩
      ∧ (s.flag (F.FIFO_STAT_FLUSH_PEND n) = false → t.rptr n = (s.rptr n + 1) % 65536)))


/-- EVENT_FLUSH, and an accepted EVT.CMD.FLUSH, move every staged record to the stored ones and persist the next
number (when it is persisted is the model's choice, log entry 89) while VHOLD allows it, and change nothing
else. An accepted CLEAR from a source with service privilege outside hold-up drops every record, puts FIRST at
the number of the next record, clears DROPPED and records the clearing. A read of the last window word of the
record at the reader's cursor returns it and moves that cursor to the next number. OPTIME_PERSIST saves the
operating time when 60,000 ms have passed since it was saved and VHOLD allows it. What the spec leaves open here
is the model's reading (assumption 68). (R346; R349; R351; R353; R61; 19_event_recorder.md; assumption 68) -/
def Obligations.EventCommands : Prop :=
  (∀ s : State, s.sup.vholdOk = true → exec .eventFlush s =
    .next { s with evt := { s.evt with stored := s.evt.stored ++ s.evt.staged, staged := [], nextSaved := s.evt.nextSeq } })
  ∧ (∀ (s : State) (src : Src), let u := s.restartUnlock src pgEVT 0x034
    (u.gate src pgEVT 0x034 2 = .ok → u.sup.vholdOk = true → exec (.evtFlush src) s =
      .next ({ u with evt := { u.evt with stored := u.evt.stored ++ u.evt.staged, staged := [], nextSaved := u.evt.nextSeq } }).done)
    ∧ (u.gate src pgEVT 0x034 1 = .ok → u.service src = true → u.sup.holdupAt = none → exec (.clear src) s =
      .next ((({ u with evt := { u.evt with stored := [], staged := [], first := u.evt.nextSeq, nextSaved := u.evt.nextSeq, dropped := 0 } }).log 0x0940 0xF 2
        u.evt.first (BitVec.ofNat 32 u.evt.count) (BitVec.ofNat 32 u.evt.dropped)).done)))
  ∧ (∀ (s : State) (src : Src) (r : EventRec), s.reachable src pgEVT = .ok → s.atCursor src = some r →
    exec (.evtWin7Read src) s = .next ((s.setCursor src (nextSeqOf r.seq)).doneRead (r.word 7)))
  ∧ (∀ s : State, s.sup.vholdOk = true → s.evt.optimeSaved + 60000 ≤ s.evt.opNow s.tb →
    exec .optimePersist s = .next { s with evt := { s.evt with optimeSaved := s.evt.opNow s.tb } })


/-- While there is room (fewer than 131,072 records, and a staging buffer that is not full or may be flushed),
recording an event appends exactly one record, with the present next number, its code, channel, severity and
parameters, the operating time, power-cycle count and epoch, after every record held so far; the next number
goes up by one and skips 0. With no room the records stay as they are and DROPPED counts one more up to its
maximum. What the spec leaves open here is the model's reading (assumption 68). (R345; R349; R350;
19_event_recorder.md; assumption 68) -/
def Obligations.EventNumbering : Prop :=
  ∀ (s : State) (code chan sev : Nat) (p q r : Word), s.sup.restarting = false →
    let t := s.log code chan sev p q r
    (s.evtFull = false →
      t.evt.stored ++ t.evt.staged = s.evt.stored ++ s.evt.staged
        ++ [⟨s.evt.nextSeq, code, chan, sev, s.evt.opNow s.tb, s.evt.pcc, p, q, r, s.ep32⟩]
      ∧ t.evt.nextSeq = (if s.evt.nextSeq = 0xFFFFFFFF then 1 else s.evt.nextSeq + 1) ∧ t.evt.dropped = s.evt.dropped)
    ∧ (s.evtFull = true → t.evt.stored = s.evt.stored ∧ t.evt.staged = s.evt.staged ∧ t.evt.nextSeq = s.evt.nextSeq
      ∧ t.evt.dropped = min (s.evt.dropped + 1) (max s.evt.dropped (2 ^ 32 - 1)))


/-- On a performance counter page: OVF with a run of an enabled core adds to each of its six counters the events
that the counter's EVSEL names, modulo 2^48, and a wrap sets the counter's overflow bit; the slots of a run are
the sum of its four classes (R357). A read of CNTL returns the counter's low word and latches its upper 16 bits.
An accepted write of CNTL makes the counter the staged upper half and the word written. PS_SAMPLE of an enabled
buffer that is not full appends the instruction's four words, and the 64th raises the source. A read of PS_DATA
returns the next word of the oldest entry, which leaves after its fourth. PS_CLEAR with a valid interval empties
the buffer. What the spec leaves open here is the model's reading (assumption 69). (R355; R357; R358; R359;
R360; R361; 20_performance_counters.md; assumption 69) -/
def Obligations.CounterCommands : Prop :=
  (∀ (s : State) (pg : PageRef) (c : Fin 2) (r : IssueSlots) (o : List (Nat × Nat)), isPmc pg = true → s.enabled pg = true →
    s.flag (pmcField pg 0x020 c.val c.val) = true → ∃ t, exec (.ovf pg c r o) s = .next t ∧ ∀ k, k < 6 →
      let e := eventCount r o (s.get (pmcEvsel pg c.val k))
      let v := ((s.pmcOf pg).get c.val k).val + e
      ((t.pmcOf pg).get c.val k).val = (if e = 0 then ((s.pmcOf pg).get c.val k).val else v % 2 ^ 48)
      ∧ (e ≠ 0 → 2 ^ 48 ≤ v → t.flag (pmcField pg 0x024 (8 * c.val + k) (8 * c.val + k)) = true))
  ∧ (∀ (r : IssueSlots) (o : List (Nat × Nat)),
    eventCount r o 1 = eventCount r o 2 + eventCount r o 3 + eventCount r o 4 + eventCount r o 5)
  ∧ (∀ (s : State) (src : Src) (pg : PageRef) (c : Fin 2) (k : Fin 6), isPmc pg = true → s.pmcReadable src pg = .ok →
    s.reachable src pg = .ok →
    let v := ((s.pmcOf pg).get c.val k.val).val
    exec (.pmcCntlRead src pg c k) s =
      .next ((s.modCtr pg c.val k.val (fun x => { x with latch := v / 2 ^ 32 })).doneRead (BitVec.ofNat 32 v)))
  ∧ (∀ (s : State) (src : Src) (pg : PageRef) (c : Fin 2) (k : Fin 6) (v : Word), isPmc pg = true →
    let u := s.restartUnlock src pg (cntlOff c.val k.val)
    u.gate src pg (cntlOff c.val k.val) v = .ok →
    exec (.pmcCntlWrite src pg c k v) s = .next (u.modCtr pg c.val k.val (fun x =>
      { x with val := x.stagedHi % 65536 * 2 ^ 32 + v.toNat })).done)
  ∧ (∀ (s : State) (pg : PageRef) (e : PsEntry), isPmc pg = true → s.enabled pg = true →
    s.flag (pmcField pg 0x028 30 30) = true → (s.pmcOf pg).ps.length < 64 →
    let u := (s.modPmc pg (fun p => { p with
      ps := p.ps ++ [[e.addr, e.enc, BitVec.ofNat 32 (min 0xFFFFFFFF e.lat), s.ep32]] })).psShow pg
    exec (.psSample pg e) s = .next (if (u.pmcOf pg).ps.length = 64 then u.raise pg 3 else u))
  ∧ (∀ (s : State) (src : Src) (pg : PageRef) (e : List Word) (l : List (List Word)), isPmc pg = true →
    s.pmcReadable src pg = .ok → s.reachable src pg = .ok → (s.pmcOf pg).ps = e :: l →
    exec (.psDataRead src pg) s = .next ((if 3 ≤ (s.pmcOf pg).psWord
      then (s.modPmc pg (fun q => { q with ps := l, psWord := 0 })).psShow pg
      else s.modPmc pg (fun q => { q with psWord := q.psWord + 1 })).doneRead (e.getD (s.pmcOf pg).psWord 0)))
  ∧ (∀ (s : State) (src : Src) (pg : PageRef) (v : Word), isPmc pg = true →
    let u := s.restartUnlock src pg 0x028
    let w := v ||| 0x80000000
    u.gate src pg 0x028 w = .ok → bitsOf w 15 0 ≠ 0 → u.flag (pmcField pg 0x028 30 30) = false →
    exec (.psClear src pg v) s = .next (((u.setReg (hdr pg 0x028) (w &&& 0x6000FFFF)).modPmc pg (fun q =>
      { q with ps := [], psWord := 0 })).psShow pg).done)


/-- Where the gate accepts the write of SYS.CMD: STANDBY in RUN or LIMP sets the operating level and stops every
channel in PRECHARGE, CONNECTED or DERATED by request. RUN in STANDBY enters RUN and in LIMP sets the level.
DECAF in STANDBY, with every channel ISOLATED or in LOCKOUT and no hold-up, sends zero duties, puts the rings to
sleep, stops the sweeps, the programs, the coils and the sample clock, enters DECAF and writes the Decaf latch
and the parameter memory as soon as VHOLD allows. WAKE in DECAF with the bus voltage seen twice, RESTART from
service in HALT of a cause other than 1, and HALT in any mode but DECAF act. What the spec leaves open here is
the model's reading (assumptions 20, 63, 77). (R49; R50; R55; R56; R58; R61; Table 3.8;
03_modes_startup_and_decaf.md; assumption 20; assumption 63; assumption 77) -/
def Obligations.ModeCommands : Prop :=
  ∀ (s : State) (src : Src), let u := s.restartUnlock src pgSYS 0x034
    (u.gate src pgSYS 0x034 1 = .ok → u.mode = mRUN ∨ u.mode = mLIMP → exec (.standby src) s =
      .next (((u.setOplvl 2).eachCh (fun t n =>
        if t.chState n = stPRECHARGE ∨ t.energised n then t.enterState n stSTOPPING 0x61 else t)).standbyCheck).done)
    ∧ (u.gate src pgSYS 0x034 2 = .ok → u.mode = mSTANDBY → exec (.run src) s =
      .next (if (u.setOplvl 3).mode = mSTANDBY then (u.setOplvl 3).setMode mRUN else u.setOplvl 3).done)
    ∧ (u.gate src pgSYS 0x034 2 = .ok → u.mode = mLIMP → exec (.run src) s =
      .next (if (u.setOplvl 3).mode = mSTANDBY then (u.setOplvl 3).setMode mRUN else u.setOplvl 3).done)
    ∧ (u.gate src pgSYS 0x034 3 = .ok → u.mode = mSTANDBY → u.sup.holdupAt = none →
      allCh.all (fun n => u.chState n == stISOLATED || u.chState n == stLOCKOUT) = true →
      let v := (u.modPanel (fun p => { p with screen := .final mDECAF 0 })).eachCh
        (fun t n => (((((t.ringSleep n).balZero n).pourStop n).percStop n 4).coilsOff n).modSafe n (fun f => { f with sdclk := false }))
      exec (.decaf src) s = .next ((((v.modSup (fun p => { p with wakeRun := [], wakeVolt := false })).setMode mDECAF).evtRunEnd).nvStore).done)
    ∧ (u.gate src pgSYS 0x034 4 = .ok → u.mode = mDECAF → u.sup.holdupAt = none → u.sup.wakeVolt = true →
      exec (.wake src) s = .next (u.rebootFrom 1).done)
    ∧ (u.gate src pgSYS 0x034 5 = .ok → u.service src = true → u.mode = mHALT → u.get F.SYS_STAT_HALT_CAUSE ≠ 1 →
      u.sup.holdupAt = none → exec (.restart src) s =
        .next (((u.evtRunEnd.nvStore).modSup (fun p => { p with haltLatch := false })).rebootFrom 2).done)
    ∧ (u.gate src pgSYS 0x034 6 = .ok → u.mode ≠ mDECAF → exec (.halt src) s = .next (u.enterHalt 5).done)


/-- POWER_ON, with no hold-up under way, starts from the cold state with one more power cycle: into HALT if the HALT
latch is set and the absence was below 1 s, else into DECAF if the Decaf latch is set, else into BOOT. BOOT_END
in BOOT goes to HALT for a failed self-test or over-temperature, runs the remaining steps on the active image,
falls back to the other one, or goes to HALT. WAKE_VOLTAGE_CHECK in DECAF records which buses have been seen
twice, and PANEL_WAKE_CONFIRM with the key in SERVICE and the voltage seen restarts. What the spec leaves open
here is the model's reading (assumptions 20, 22, 63, 77). (R54; R56; R58; R278; R346; Table 3.3;
03_modes_startup_and_decaf.md; assumption 20; assumption 22; assumption 63; assumption 77) -/
def Obligations.PowerOnAndBootEnd : Prop :=
  (∀ (s : State) (ms : Nat), s.sup.holdupAt = none →
    let hold := s.sup.haltLatch && decide (ms < 1000)
    let u := (s.coldReset.modSup (fun p => { p with haltLatch := hold, vholdOk := false })).modEvt
      (fun e => { e with pcc := satInc 0xFFFFFF e.pcc })
    exec (.powerOn ms) s = .next (if hold then ((u.evtBoot.1.verShow).enterHalt s.sup.haltCause).condUpdate
      else if s.sup.decafLatch then ((((u.evtBoot.1.verShow).modPanel (fun p => { p with screen := .final mDECAF 0 })).putB
        F.SYS_STAT_DECAF_LATCH true).setMode mDECAF).condUpdate
      else u.bootBegin 0))
  ∧ (∀ (s : State) (r : BootResult), s.mode = mBOOT → s.sup.holdupAt = none →
    let a := s.flag F.UPD_STAT_ACTIVE
    let okA := s.slotOk s.upd.slotA r.sigA
    let okB := s.slotOk s.upd.slotB r.sigB
    (r.selftest = false → exec (.bootEnd r) s = .next (s.enterHalt 3).condUpdate)
    ∧ (r.selftest = true → r.hot = true → exec (.bootEnd r) s = .next (s.enterHalt 1).condUpdate)
    ∧ (r.selftest = true → r.hot = false → (if a then okB else okA) = true → exec (.bootEnd r) s = .next (s.bootRest r))
    ∧ (r.selftest = true → r.hot = false → (if a then okB else okA) = false → (if a then okA else okB) = true →
      exec (.bootEnd r) s = .next ((((s.putB F.UPD_STAT_ACTIVE (!a)).modSup
        (fun p => { p with rebootFault := true })).logReg pgUPD 0x028).bootRest r))
    ∧ (r.selftest = true → r.hot = false → (if a then okB else okA) = false → (if a then okA else okB) = false →
      exec (.bootEnd r) s = .next (s.enterHalt 2).condUpdate))
  ∧ (∀ (s : State) (mv : List Nat), s.mode = mDECAF →
    let run := allCh.map (fun n => if s.chState n ≠ stLOCKOUT ∧ 50000 ≤ nth mv n.val then nth s.sup.wakeRun n.val + 1 else 0)
    exec (.wakeVoltageCheck mv) s =
      .next (s.modSup (fun p => { p with wakeRun := run, wakeVolt := run.any (fun k => decide (2 ≤ k)) })))
  ∧ (∀ s : State, s.mode = mDECAF → s.flag F.PANEL_STAT_KEYSW = true → s.sup.holdupAt = none → s.sup.wakeVolt = true →
    exec .panelWakeConfirm s = .next (s.rebootFrom 1))


/-- LOGIC24 below 18 V raises the SYS source and is recorded; its return is recorded. AUX24 low refuses connections
until it is restored. An open fuse ends every output's pulse and recloses no sooner than 1 s later with no HOLD
output commanded. A charged capacitor sets HOLDUP_OK unless Crema found it too small, and what waited for it is
written. HOLDUP_START raises the source, records the voltage, inhibits the PWM, turns off the coils and sends
zero duties on every channel, sets the TRIP opening due and stores what it can; HOLDUP_RESET 60 ms later resets
the module. What the spec leaves open here is the model's reading (assumptions 23, 63, 77). (R59; R60; R61;
R381; R382; R383; 03_modes_startup_and_decaf.md; 22_electrical_characteristics.md; assumption 23; assumption 63;
assumption 77) -/
def Obligations.SupplyEvents : Prop :=
  ∀ s : State,
    (∀ mv, mv < 18000 → exec (.logic24Low mv) s = .next ((s.raise pgSYS 5).logNone pgSYS))
    ∧ exec .logic24High s = .next (s.logNone pgSYS)
    ∧ exec .aux24Low s = .next (({ s with sup := { s.sup with auxLow := true } } : State).raise pgSYS 5 |>.logNone pgSYS)
    ∧ exec .aux24Restored s = .next { s with sup := { s.sup with auxLow := false } }
    ∧ (s.sup.fuseAt = none → exec .auxFuseOpen s = .next ((({ s with sup := { s.sup with fuseAt := some s.tb } } : State).eachCh
      (fun t n => t.modSafe n (fun f => { f with pulseA := false, pulseB := false }))).logNone pgSYS))
    ∧ (∀ t, s.sup.fuseAt = some t → 1000 * 1000000 ≤ s.tb - t → s.anyHold = false →
      exec .auxFuseReclose s = .next { s with sup := { s.sup with fuseAt := none } })
    ∧ exec .vholdCharged s = .next (({ s with sup := { s.sup with vholdOk := true } } : State).putB
      F.SYS_STAT_HOLDUP_OK (!s.flag F.HLTH_STAT_HOLDUP) |>.nvStore)
    ∧ (∀ o : HoldupOutcome, s.sup.holdupAt = none →
      let u := (({ s with sup := { s.sup with holdupAt := some s.tb }, panel := { s.panel with screen := .final s.mode 0 } } : State).raise
        pgSYS 3).log 0x0142 0xF 2 (BitVec.ofNat 32 o.mv) 0 0
      exec (.holdupStart o) s = .next ((u.eachCh (fun t n => ((((t.putB (F.CONT_STAT_INHIBIT n) true).pwmOff n).coilsOff n).balZero n).modSafe n
        (fun f => { f with tripAt := some t.tb }))).holdupStore o))
    ∧ (∀ t, s.sup.holdupAt = some t → 60 * 1000000 ≤ s.tb - t → exec .holdupReset s = .next s.coldReset)


/-- The first qualified result of a detect loop sets only the presence bit; a later change raises CONN and records
it, and an unplug outside LOCKOUT first trips the channel, once for that connector. One touched pad selects its
channel, none or several leave the selection, and it lapses 60 s after the last touch. ACK marks every tripped
channel acknowledged and raises the source. A turn of the key to RUN ends the service sessions and a bundle
under transfer. ISOLATE starts the sequence on the selected channel, ISOLATE_FAIL 10 s later trips it, and
LOCKOUT_RELEASE needs the key, every connector and no restricted instruction; with a connector absent the
display names it. The own end's ring result of a twin channel also goes to the partner; the key bits and the
twin's part are the model's choice (assumptions 86, 87). What the spec leaves open here is the model's reading
(assumption 62). (R35; R36; R37; R39; R41; R42; R43; R44; R45; R46; R47; 02_module_connectors_and_panel.md) -/
def Obligations.PanelAndConnectors : Prop :=
  (∀ (s : State) (n : Ch) (c : Conn) (p : Bool), (s.twinCh n && connIx c == s.remoteConn n) = false →
    let i := connIx c
    let f : RF := ⟨R.CH_CONN n, i, i⟩
    let u : RF := ⟨R.CH_CONN n, i + 4, i + 4⟩
    let s0 := if s.twinCh n && connIx c == 1 - s.remoteConn n then s.ringMsg n 3 [b2n p] else s
    let v := if p then s0.putB f p else (s0.putB f p).lockUndo n
    let w := ((v.tripC n 0x08).setRaise u (pgCH n) 3).raise (pgCH n) 4
    ((s0.ch n).qual.getLsbD i = false → exec (.detectLoopQualified n c p) s =
      .next (((s0.bootShow 5).modCh n (fun c => { c with qual := c.qual ||| BitVec.ofNat 4 (2 ^ i) })).putB f p))
    ∧ ((s0.ch n).qual.getLsbD i = true → s0.flag f = !p → p = false → v.chState n ≠ stLOCKOUT →
      exec (.detectLoopQualified n c p) s = .next (w.log 0x8141 n.val 3 (w.reg (R.CH_CONN n)) 0 0))
    ∧ ((s0.ch n).qual.getLsbD i = true → s0.flag f = !p → p = true ∨ v.chState n = stLOCKOUT →
      exec (.detectLoopQualified n c p) s =
        .next ((v.raise (pgCH n) 4).log 0x8141 n.val 0 (v.reg (R.CH_CONN n)) 0 0)))
  ∧ (∀ (s : State) (n : Ch), exec (.padTouch (BitVec.ofNat 8 (2 ^ n.val))) s =
    .next { ((((s.keys false false).put F.PANEL_STAT_PAD (2 ^ n.val)).put F.PANEL_STAT_SELCH n.val)) with
      panel := ⟨.channel n, s.tb⟩ })
  ∧ (∀ s : State, s.selected.isSome = true → 60000 * 1000000 ≤ s.tb - s.panel.touchAt → exec .selectionLapse s =
    .next { (s.put F.PANEL_STAT_SELCH 0xF) with panel := { s.panel with screen := .overview } })
  ∧ (∀ s : State, exec .ack s = .next (((s.keys false false).eachCh (fun t n => t.modSafe n (fun f =>
      { f with acked := f.acked || t.chState n == stTRIPPED }))).raise pgPANEL 3))
  ∧ (∀ s : State, s.flag F.PANEL_STAT_KEYSW = false → exec (.keysw true) s =
    .next ((s.putB F.PANEL_STAT_KEYSW true).raise pgPANEL 2))
  ∧ (∀ s : State, s.flag F.PANEL_STAT_KEYSW = true →
    let u := ((s.putB F.PANEL_STAT_KEYSW false).raise pgPANEL 2).endPort .service
    exec (.keysw false) s = .next (if u.get F.UPD_STAT_STATE = 1 then ((u.setInactive Slot.empty).put F.UPD_STAT_STATE 0).verShow else u))
  ∧ (∀ (s : State) (n : Ch), s.selected = some n → exec .isolate s =
    .next (((s.keys false true).raise pgPANEL 4).isolateStart n))
  ∧ (∀ s : State, exec .isolateAbandon s = .next (s.keys false false))
  ∧ (∀ (s : State) (n : Ch), exec (.isolateFeedbackOpen n) s = .next (s.isolateGo n))
  ∧ (∀ (s : State) (n : Ch), (s.ch n).safe.isolating = true → 10000 * 1000000 ≤ s.tb - (s.ch n).safe.isoAt →
    exec (.isolateFail n) s = .next (s.tripC n 0x18))
  ∧ (∀ (s : State) (n : Ch), s.selected = some n → s.chState n = stLOCKOUT → s.flag F.PANEL_STAT_KEYSW = true →
    s.restrictedNow = false →
    let u := s.keys true false
    (s.allPlugged n = true → s.mode ≠ mHALT → s.mode ≠ mBOOT → exec .lockoutRelease s = .next
      ((((((u.drivesOn n).putB (F.CONT_STAT_INHIBIT n) false).putB (F.CONT_STAT_TRIP_ON n) true).enterState n stISOLATED
        0).ringStart n).coilsOn n))
    ∧ (s.allPlugged n = false → exec .lockoutRelease s = .next { u with panel := { u.panel with
        screen := .lockoutRefused n (BitVec.ofNat 4 (15 - bitsOf (s.reg (R.CH_CONN n)) 3 0)) } }))


/-- On a running ring with its sweep on: TRIG_SEND sends TRIG with the present epoch from every master port;
COLLECT_SEND after the sample sends COLLECT of the sampled epoch to all tiles; READ_SEND sends the re-collect
that is due, else a READ of the first missing tile that a port reaches, within the allowed reads and time, and
counts it. A returned frame that fails its checks is counted as a CRC error; a COLLECT's and a READ's blocks are
judged one by one; a WR_REG's return is judged by its status blocks, those of a register read and of a probe
read are checked. The module that does not own a twin channel relays the frame first. What the spec leaves open
here is the model's reading (assumptions 47, 49). (R88; R91; R93; R94; R102; R103; R105; R122; 05_tile_ring.md;
06_pour_sweep.md; assumption 47; assumption 49) -/
def Obligations.SweepFrames : Prop :=
  (∀ (s : State) (n : Ch), let u := s.splitEnter n
    u.ringRuns n = true → (u.ch n).pour.on = true → exec (.trigSend n) s =
      .next { u with outbox := u.outbox ++ (u.ports n).map (fun p => OutMsg.ringFrame n p.1 (trigBytes p.2 u.ep)) })
  ∧ (∀ (s : State) (n : Ch), s.ringRuns n = true → (s.ch n).pour.on = true → (s.ch n).pour.sampled = true →
    let l := (s.ports n).map (fun p => OutMsg.ringFrame n p.1 (frameBytes 2 p.2 0xFF (s.ch n).pour.epoch []))
    exec (.collectSend n) s = .next { s with outbox := s.outbox ++ l })
  ∧ (∀ (s : State) (n : Ch), s.ringRuns n = true → (s.ch n).pour.sampled = true → (s.ch n).pour.closed = false →
    ((s.ch n).ring.recollectDue = true → s.endsBySweep n (16 + 56 * s.tiles n) = true → ∀ p l,
      (s.modRing n (fun r => { r with recollectDue := false })).ports n = p :: l →
      exec (.readSend n) s = .next (((s.modRing n (fun r => { r with recollectDue := false })).sendFrame n p 2 0xFF []).incSat
        (F.RING_ERRCNT_RECOLLECT n)))
    ∧ ((s.ch n).ring.recollectDue = false → (s.ch n).ring.collected = true →
      (s.ch n).ring.reads < s.get (F.RING_CTRL_RETRY_MAX n) → s.endsBySweep n 72 = true →
      ∀ k l p, s.missing n = k :: l → s.portOf n k = some p →
      exec (.readSend n) s = .next (((s.sendFrame n p 3 k []).incSat (F.RING_ERRCNT_READS n)).modRing n (fun r =>
        { r with reads := r.reads + 1, readTiles := r.readTiles ++ [k] }))))
  ∧ (∀ (s : State) (n : Ch) (side : Side) (l : List Byte), let v := s.relay n side l
    v.ringRuns n = true → trigOk l = false →
    (parseFrame l = none → exec (.frameReturn n side l) s = .next ((v.incSat (F.RING_ERRCNT_CRC n)).collectSeen n))
    ∧ (∀ r, parseFrame l = some r → let u := if r.wrap = 0 then v else v.wrapSeen n side r.wrap
      (r.op = 2 → exec (.frameReturn n side l) s =
        .next (((chunks56 r.count r.blocks).foldl (fun t b => t.dataBlock n b) u).collectSeen n))
      ∧ (r.op = 3 → exec (.frameReturn n side l) s = .next ((chunks56 r.count r.blocks).foldl (fun t b => t.dataBlock n b) u))
      ∧ (r.op = 4 → exec (.frameReturn n side l) s = .next (u.writeReturn n r))
      ∧ (r.op = 5 ∨ r.op = 8 → exec (.frameReturn n side l) s = .next (u.statusCrc n r))))


/-- EPOCH_SAMPLE, on a channel whose sweep is on and whose ring still runs after the checks of the instant, begins
the epoch. SWEEP_CLOSE of a sampled epoch builds its buffer and starts the checks and the demands that follow
from it. POUR_PUBLISH of a closed epoch makes its buffer the delivered one and feeds the blocks that use it.
FIFO_COMMIT, after the bit errors that it brings, stores the frame of a delivered epoch not yet committed if
there is room, and counts it as dropped if there is none; an epoch published while the FIFO was off, or
committed already, is not committed. STALE and CELL_OT trip the channel with the lowest index, and in TRIPPED
change nothing while the cause that arose still lasts, and VLIM_MODEL trips after ten epochs off. What the spec
leaves open here is the model's reading (assumptions 49, 75). (R17; R113; R122; R123; R125; R128; R132; R133;
R142; R256; 06_pour_sweep.md; 07_epoch_fifos.md) -/
def Obligations.SweepCommands : Prop :=
  (∀ (s : State) (n : Ch) (i : SampleIn),
    let u := ((((s.overrun n).holdCheck n i).vaxSample n).balMode n)
    (u.ch n).pour.on = true → u.ringRuns n = true → exec (.epochSample n i) s = .next (u.sampleStart n i))
  ∧ (∀ (s : State) (n : Ch), (s.ch n).pour.sampled = true → (s.ch n).pour.closed = false →
    let s1 := s.pourPublish n
    let p := (s1.ch n).pour
    let s2 := s1.owEvalAll n p.blocks p.fill p.epoch
    let b := { s2.sweepBuf n (s1.pairs n ++ s2.pairs n) with vpos := (s2.ch n).vax.posAt }
    let s3 := s2.modPour n (fun q => { q with
      fill := b, closed := true, pending := true, rawMain := if mainOk p.smp then p.smp.iMain else none
      rawAux := if auxOk p.smp then p.smp.iAux else none })
    let s4 := p.blocks.foldl (fun t k => t.endTap n p.fill k) ((s3.driftCheck n b).cmpCheck n b p.blocks)
    let s5 := (s4.pourCounts n b).lostBlocks n (s4.ch n).ring.arrived.length
    exec (.sweepClose n) s = .next ((((((s5.decide_ n (s5.cellDemands n b p.blocks)).unreturned n).retryQueue n).owSchedule n
      (p.epoch + 2)).probeQueue n).mendCount n p.blocks))
  ∧ (∀ (s : State) (n : Ch), (s.ch n).pour.pending = true →
    let p := (s.ch n).pour
    let b := { p.fill with delivUs := s.sinceEpoch p.fill.smpTb }
    let s1 := s.modPour n (fun q => { q with fill := b, deliv := b, prev := p.deliv
                                             prevRegs := (rosRegs n).map (fun a => (a, s.reg a))
                                             pending := false, committed := !s.enabled (pgFIFO n)
                                             run := p.run + 1 })
    let s2 := ((s1.balClose n b).vaxShow n b.vpos b.epoch b.holdover).pourShow n b
    let s3 := [pgPOUR n, pgCDIAG n, pgBAL n].foldl (fun t pg => t.seqPage pg b.epoch b.holdover) s2
    let s4 := ((s3.pourSources n p.deliv b).pourRuns n b).estFeed n b p.rawMain p.rawAux
    let s5 := ((s4.percFeed n b).modSafe n (fun f => { f with delivs := f.delivs + 1 })).takeCount n
    exec (.pourPublish n) s = .next ((if p.stopPending then s5.pourStop n else s5).isolateGo n))
  ∧ (∀ (s : State) (n : Ch) (fl : List (Nat × BitVec 39)), let s0 := fl.foldl (fun t x => t.fifoUpset n x) s
    ((s0.ch n).pour.deliv.valid = false ∨ (s0.ch n).pour.committed = true → exec (.fifoCommit ⟨n, fl⟩) s = .next s0)
    ∧ ((s0.ch n).pour.deliv.valid = true → (s0.ch n).pour.committed = false →
      let u := s0.modPour n (fun p => { p with committed := true })
      let temp := u.flag (F.FIFO_CTRL_TEMP n)
      let b := (s0.ch n).pour.deliv
      let len := (b.frame temp 0).length
      let v := if u.flag (F.FIFO_CTRL_OVF n) then u.fifoMake n len 32768 else u
      (v.fifoFree n < len → exec (.fifoCommit ⟨n, fl⟩) s = .next ((v.fifoDrop n).fifoShow n))
      ∧ (len ≤ v.fifoFree n →
        let w := v.wptr n
        let ws := b.frame temp (v.ch n).fifo.droppedBefore
        let x := (v.modFifo n (fun f => { f with
          mem := fifoStore f.mem w ws, flips := unflip f.flips w len, droppedBefore := 0 })).put (F.FIFO_PTR_WPTR n) ((w + len) % 65536)
        (v.flag (F.FIFO_STAT_MARK_VALID n) = false → exec (.fifoCommit ⟨n, fl⟩) s = .next (x.fifoShow n)))))
  ∧ (∀ (s : State) (n : Ch) (i : Nat),
    (List.range (s.ch n).pour.staleCnt.length).find? (fun i => decide (10 ≤ nth (s.ch n).pour.staleCnt i)) = some i →
    (List.range (s.ch n).pour.tStale.length).find? (fun m => decide (100 ≤ nth (s.ch n).pour.tStale m)) = none →
    (s.chState n ≠ stTRIPPED ∨ (s.ch n).safe.present.contains 0x04 = false → exec (.stale n) s =
      .next ((s.trip n 0x04 1 i).modSafe n (fun f => { f with present := 0x04 :: f.present.filter (· != 0x04) })))
    ∧ (s.chState n = stTRIPPED → (s.ch n).safe.present.contains 0x04 = true → exec (.stale n) s = .next s))
  ∧ (∀ (s : State) (n : Ch) (m : Nat),
    (List.range (s.ch n).pour.staleCnt.length).find? (fun i => decide (10 ≤ nth (s.ch n).pour.staleCnt i)) = none →
    (List.range (s.ch n).pour.tStale.length).find? (fun m => decide (100 ≤ nth (s.ch n).pour.tStale m)) = some m →
    s.chState n ≠ stTRIPPED ∨ (s.ch n).safe.present.contains 0x04 = false → exec (.stale n) s =
      .next ((s.trip n 0x04 1 m).modSafe n (fun f => { f with present := 0x04 :: f.present.filter (· != 0x04) })))
  ∧ (∀ (s : State) (n : Ch) (m : Nat),
    (List.range (s.ch n).pour.otCnt.length).find? (fun m => decide (100 ≤ nth (s.ch n).pour.otCnt m)) = some m →
    (s.chState n ≠ stTRIPPED ∨ (s.ch n).safe.present.contains 0x03 = false → exec (.cellOt n) s =
      .next ((s.trip n 0x03 1 m).modSafe n (fun f => { f with present := 0x03 :: f.present.filter (· != 0x03) })))
    ∧ (s.chState n = stTRIPPED → (s.ch n).safe.present.contains 0x03 = true → exec (.cellOt n) s = .next s))
  ∧ (∀ (s : State) (n : Ch), s.energised n = true → 10 ≤ (s.ch n).pour.vlimRun →
    exec (.vlimModel n) s = .next ((s.pwmOff n).tripC n 0x11))


/-- RING_START, and an accepted RESTART in ISOLATED, begin a start. After 2 ms of wake pattern enumeration begins.
The third agreeing ENUM whose blocks meet the expectations stores serials and populations and goes to the
microcode check, and an error fails the start. Matching checksums of every tile go to the delay set, a third
mismatch fails with 7. A delay set with D at most 12,000 ns sets D and the tables, writes the holds and keeps
those that are confirmed, and once every tile has confirmed the ring runs (assumption 79); a greater one fails
with 8. Each start state sends its frames: ENUM, the microcode, the probe pairs, the hold writes. One second
after FAULT the ring starts again. What the spec leaves open here is the model's reading (assumptions 47, 76).
(R95; R96; R97; R98; R99; R100; 05_tile_ring.md; assumption 47; assumption 76) -/
def Obligations.RingStartCommands : Prop :=
  (∀ (s : State) (n : Ch), exec (.ringStart n) s = .next (s.ringStart n))
  ∧ (∀ (s : State) (src : Src) (n : Ch), let v := s.reg (R.RING_CTRL n) ||| 0x80000000
    let u := s.restartUnlock src (pgRING n) 0x020
    u.gate src (pgRING n) 0x020 v = .ok → bitsOf v 5 4 ≤ 1 → bitsOf v 3 0 ≤ 3 → u.chState n = stISOLATED →
    exec (.restartRing src n) s = .next ((u.setReg (R.RING_CTRL n) (v &&& 0x133)).ringStart n).done)
  ∧ (∀ (s : State) (n : Ch), s.get (F.RING_STAT_STATE n) = 1 → 2000000 ≤ s.tb - (s.ch n).ring.enumT0 →
    exec (.ringWakeEnd n) s = .next (((s.ringEnter n 2).modRing n (fun r => { r with enumCount := 0, enumSame := 0 })).enumSend n))
  ∧ (∀ (s : State) (n : Ch) (l : List EnumBlock) (far : Bool), s.get (F.RING_STAT_STATE n) = 2 →
    let r := (s.ch n).ring
    let same := if r.enumSame ≠ 0 ∧ r.enumCount = l.length then r.enumSame + 1 else 1
    let u := s.modRing n (fun r => { r with enumCount := l.length, enumSame := same })
    (same < 3 → s.tb - r.enumT0 < 2000000000 → exec (.enum n l far) s = .next (u.enumSend n))
    ∧ (3 ≤ same → u.enumErr n l far true ≠ 0 → exec (.enum n l far) s = .next (u.ringFail n (u.enumErr n l far true)))
    ∧ (3 ≤ same → u.enumErr n l far true = 0 →
      let v := (List.range l.length).foldl (fun t i => match l[i]? with | some b => t.serialCheck n (i + 1) b.serial | none => t) u
      let w := v.modRing n (fun r => { r with pops := l.map (·.cells), mcTries := 0 })
      exec (.enum n l far) s = .next (((w.put (F.RING_STAT_TILES n) l.length).put (F.RING_STAT_CELLS n)
        ((l.map (·.cells)).foldl (· + ·) 0)).ringEnter n 3 |>.mcSend n)))
  ∧ (∀ (s : State) (n : Ch) (crcs : List Word), s.get (F.RING_STAT_STATE n) = 3 →
    let ok := crcs.length = s.tiles n ∧ crcs.all (· == Config.mcImageCrc (s.chanVersion n)) = true
    (ok → exec (.mcloadDone n crcs) s = .next ((s.ringEnter n 4).probeSend n))
    ∧ (¬ok → (s.ch n).ring.mcTries < 2 →
      exec (.mcloadDone n crcs) s = .next ((s.modRing n (fun r => { r with mcTries := r.mcTries + 1 })).mcSend n))
    ∧ (¬ok → 2 ≤ (s.ch n).ring.mcTries → exec (.mcloadDone n crcs) s = .next (s.ringFail n 7)))
  ∧ (∀ (s : State) (n : Ch) (m : DelayMeas) (c : List Bool), s.get (F.RING_STAT_STATE n) = 4 →
    (12000 < measD m → exec (.delaySetDone n ⟨m, c⟩) s = .next (s.ringFail n 8))
    ∧ (measD m ≤ 12000 →
      let u := ((s.put (F.RING_DELAY_D_NS n) (measD m)).setTables n m).holdSend n
      let v := u.modRing n (fun r => { r with hold := (List.range (u.tiles n)).map (fun k =>
        if c.getD k false then u.holdsOf n k else r.hold.getD k (0, 0)) })
      ((∀ k, k < v.tiles n → c.getD k false = true) →
        let w := ((v.modRing n (fun r => { r with fails := 0, rejects := 0, bgSince := v.ep })).ringEnter n 5).put (F.RING_STAT_START_ERR n) 0
        let x := (w.queueFrame n (w.cmpFrame n)).tablesMirror n
        exec (.delaySetDone n ⟨m, c⟩) s = .next (if x.mode = mBOOT then x else x.pourStart n))
      ∧ ((∃ k, k < v.tiles n ∧ c.getD k false = false) → exec (.delaySetDone n ⟨m, c⟩) s = .next v)))
  ∧ (∀ (s : State) (n : Ch), s.get (F.RING_STAT_STATE n) = 7 → 1000000000 ≤ s.tb - (s.ch n).ring.faultT →
    exec (.ringRetry n) s = .next (s.ringStart n))


/-- COMMAND_FRAME_SEND inside the window sends the next frame that ends in time, from its port, or every port when
to all tiles, and tracks a WR_REG. A background set starts after 1,000 epochs in RUN; when its 16 windows have
passed, an agreeing set is accepted, another one is counted and raises the source, the third in a row marks
DELAY_FAULT. A link down at a used port, and ALARM, fail a start or locate a break, the one in force not anew; a
link up is noted. SPLIT is entered at a TRIG at least 20 us after the location; after 1,000 good epochs a rejoin
set starts; REJOIN in its epoch with both bordering tiles confirmed returns the ring to RUN and records it. What
the spec leaves open here is the model's reading (assumptions 47, 48). (R101; R104; R105; R107; R108; R109;
R112; 05_tile_ring.md; assumption 47; assumption 48) -/
def Obligations.RingRunCommands : Prop :=
  (∀ (s : State) (n : Ch) (t : Nat) (f : CmdFrame), s.ringRuns n = true → s.winTime = some t → s.nextFrame n t = some f →
    let u := s.modRing n (fun r => { r with queue := dropFrame f r.queue })
    let l := if f.addr = 0xFF then u.ports n else (u.portOf n f.addr).toList
    let v := if f.op = 4 then u.modRing n (fun r => { r with sent := r.sent ++ [⟨f, l.length, []⟩] }) else u
    exec (.commandFrameSend n) s = .next (l.foldl (fun u p => u.sendFrame n p f.op f.addr f.payload) v))
  ∧ (∀ (s : State) (n : Ch), s.get (F.RING_STAT_STATE n) = 5 → (s.ch n).ring.bgActive = false →
    1000 ≤ (sdiff 48 s.ep (s.ch n).ring.bgSince).natAbs →
    exec (.backgroundSetStart n) s = .next (s.modRing n (fun r => { r with bgActive := true, bgSince := s.ep, probes := 16 })))
  ∧ (∀ (s : State) (n : Ch) (m : DelayMeas), s.get (F.RING_STAT_STATE n) = 5 → (s.ch n).ring.bgActive = true →
    (s.ch n).ring.probes = 0 →
    (s.setAgrees n m = true → exec (.backgroundSetDone n (m.tBack, m.tBdep) m.tiles) s = .next (s.acceptSet n m))
    ∧ (s.setAgrees n m = false →
      let u := (s.modRing n (fun r => { r with rejects := r.rejects + 1, probes := 16 })).raise (pgRING n) 5
      exec (.backgroundSetDone n (m.tBack, m.tBdep) m.tiles) s = .next (if 3 ≤ (s.ch n).ring.rejects + 1
        then (u.putB (F.RING_STAT_DELAY_FAULT n) true).ringFaultShow n else u)))
  ∧ (∀ (s : State) (n : Ch) (m : DelayMeas), s.get (F.RING_STAT_STATE n) = 6 → (s.ch n).ring.rejoinSet = true →
    (s.ch n).ring.probes = 0 →
    s.setAgrees n m = true → exec (.backgroundSetDone n (m.tBack, m.tBdep) m.tiles) s = .next ((s.acceptSet n m).unwrapQueue n))
  ∧ (∀ (s : State) (n : Ch), let u := s.modRing n (fun r => { r with upA := false, wrapA := true })
    u.capped n .a = false → exec (.portLinkDown n .a) s = .next (u.linkBreak n 0 1))
  ∧ (∀ (s : State) (n : Ch), let u := s.modRing n (fun r => { r with upB := false, wrapB := true })
    u.capped n .b = false → exec (.portLinkDown n .b) s = .next (u.linkBreak n (u.tiles n) (u.tiles n + 1)))
  ∧ (∀ (s : State) (n : Ch), exec (.portLinkUp n .a) s = .next (s.modRing n (fun r => { r with upA := true }))
    ∧ exec (.portLinkUp n .b) s = .next (s.modRing n (fun r => { r with upB := true })))
  ∧ (∀ (s : State) (n : Ch) (a b : Nat),
    (1 ≤ s.get (F.RING_STAT_STATE n) → s.get (F.RING_STAT_STATE n) ≤ 4 → exec (.alarm n a b) s = .next (s.ringFail n 2))
    ∧ (s.ringRuns n = true → exec (.alarm n a b) s = .next (s.breakSeen n a b)
      ∧ (s.breakNow n = none → s.breakSeen n a b = s.locate_ n a b) ∧ (s.breakNow n = some (a, b) → s.breakSeen n a b = s)))
  ∧ (∀ (s : State) (n : Ch) (t a b : Nat), (s.ch n).ring.breakAt = some (t, a, b) → s.get (F.RING_STAT_STATE n) = 5 →
    s.inEpoch ≤ 100000 → 20000 ≤ s.trigTb n - (t : Int) → exec (.splitEntry n) s = .next ((((((s.put (F.RING_STAT_STATE n) 6).putB (F.RING_BREAK_SPLIT n) true).put
      (F.RING_BREAK_POS_A n) a).put (F.RING_BREAK_POS_B n) b)).modRing n (fun r => { r with breakAt := none, goodEpochs := 0 })))
  ∧ (∀ (s : State) (n : Ch), s.get (F.RING_STAT_STATE n) = 6 → 1000 ≤ (s.ch n).ring.goodEpochs → (s.ch n).ring.rejoinSet = false →
    (s.ch n).ring.unwrapAt = none →
    exec (.rejoinSetStart n) s = .next (s.modRing n (fun r => { r with rejoinSet := true, goodEpochs := 0, probes := 16 })))
  ∧ (∀ (s : State) (n : Ch) (e : Nat) (ca cb : Bool), (s.ch n).ring.unwrapAt = some e → 0 ≤ sdiff 48 s.ep e →
    s.get (F.RING_STAT_STATE n) = 6 → s.unwrapped n (s.get (F.RING_BREAK_POS_A n)) ca = true →
    s.unwrapped n (s.get (F.RING_BREAK_POS_B n)) cb = true →
    let u := (((s.put (F.RING_STAT_STATE n) 5).putB (F.RING_BREAK_SPLIT n) false).put (F.RING_BREAK_POS_A n) 0).put (F.RING_BREAK_POS_B n) 0
    let v := u.modRing n (fun r =>
      { r with unwrapAt := none, unwrapOk := [], wrapA := false, wrapB := false, goodEpochs := 0, bgSince := u.ep })
    exec (.rejoin n ca cb) s = .next ((v.raise (pgRING n) 3).logReg (pgRING n) 0x024))


/-- Where the gate accepts it: CLEAR in ISOLATED or LOCKOUT drops the latched suspicions and tests each pair again;
FORCE with a tile and a tap that exist tests that tap. A balancing run in AUTO mode, 1,000 epochs after the
last, writes the automatic duties. BAL.HCMD in HOST mode with a legal tile and duty sets the named cells'
duties, 0 for a cell that is absent or suspect, to lapse after the time-out, and BAL_HCMD_LAPSE at that time
ends one. What the spec leaves open here is the model's reading (assumptions 45, 46). (R146; R149; R152; R158;
R159; 08_cell_integrity_and_balancing.md; assumption 45; assumption 46) -/
def Obligations.IntegrityAndBalancing : Prop :=
  (∀ (s : State) (src : Src) (n : Ch), let u := s.restartUnlock src (pgCDIAG n) 0x03C
    u.gate src (pgCDIAG n) 0x03C 1 = .ok → u.chState n = stISOLATED ∨ u.chState n = stLOCKOUT →
    exec (.cdiagClear src n) s = .next (((u.ch n).cdiag.susp.filter (·.latched)).foldl (fun t x => t.owForce n x.tile x.tap 3)
      ((u.modCdiag n (fun c => { c with susp := c.susp.filter (fun x => !x.latched) })).suspShow n)).done)
  ∧ (∀ (s : State) (src : Src) (n : Ch) (tile tap : Nat), let u := s.restartUnlock src (pgCDIAG n) 0x03C
    u.gate src (pgCDIAG n) 0x03C (forceWord tile tap) = .ok → 1 ≤ tile → tile ≤ u.tiles n → tile < 32 → tap < 32 → tap ≤ u.pop n tile →
    exec (.cdiagForce src n tile tap) s = .next (u.owForce n tile tap 1).done)
  ∧ (∀ (s : State) (n : Ch), s.balRuns n = true → (s.ch n).bal.modeNow = 1 →
    ((s.ch n).bal.autoAt = none ∨ ∃ e, (s.ch n).bal.autoAt = some e ∧ 1000 ≤ (sdiff 48 s.ep e).natAbs) →
    exec (.balAutoRun n) s = .next (s.modBal n (fun q => { q with duty := s.balAuto n, autoAt := some s.ep })))
  ∧ (∀ (s : State) (src : Src) (n : Ch) (v : Word), let u := s.restartUnlock src (pgBAL n) 0x028
    let tile := bitsOf v 31 24
    let on (i : Nat) : Bool := decide (i / 16 + 1 = tile) && bit v (i % 16)
    let q (i : Nat) : Nat := (u.ch n).pour.deliv.cellQ.getD i 4
    u.gate src (pgBAL n) 0x028 v = .ok → (u.ch n).bal.modeNow = 2 → 1 ≤ tile → tile ≤ u.tiles n → bitsOf v 23 16 ≤ 160 →
    exec (.balHcmd src n v) s = .next (u.modBal n (fun b => { b with
      duty := (List.range (16 * u.tiles n)).map (fun i => if on i then (if q i = 4 ∨ q i = 3 then 0 else bitsOf v 23 16) else nth b.duty i)
      hset := b.hset.filter (fun h => !on h.1) ++ ((List.range (16 * u.tiles n)).filter on).map (fun i =>
        (i, u.tb + 1000000000 * u.get (F.BAL_HOST_TMO_S n))) })).done)
  ∧ (∀ (s : State) (n : Ch) (tile cell i t : Nat), let k := 16 * (tile - 1) + cell
    (s.ch n).bal.hset.find? (fun h => h.1 == k) = some (i, t) → t ≤ s.tb →
    exec (.balHcmdLapse n tile cell) s =
      .next (s.modBal n (fun q => { q with hset := q.hset.filter (fun x => x.1 != k), duty := setAt 0 q.duty k 0 })))


/-- A sample of a channel whose law may run, with a valid current and bus voltage, runs the law; on an inhibited
channel it turns the PWM off and clears the outputs; without a current it trips, without a bus voltage it turns
the PWM off. A late sample is counted, and the third in a row trips. An asserted stage fault turns the PWM off
and trips in PRECHARGE, CONNECTED, DERATED or STOPPING. PRE_DONE goes on to step 3, a following error past its
time in PRECHARGE trips, a due swap changes the bank, and injection and capture begin and end in their
conditions. What the spec leaves open here is the model's reading (assumptions 5, 17, 58, 76). (R162; R165;
R166; R167; R168; R169; R174; R179; R183; R184; R185; 09_string_current_control.md) -/
def Obligations.CurrentControlEvents : Prop :=
  (∀ (s : State) (n : Ch) (i : CtleIn), s.mode ≠ mDECAF →
    let j := s.ctleIn n i
    let h := ((s.modCtle n (fun c => { c with lateRun := 0 })).injStopCheck n).ctleHead n j
    let u := if h.chState n = stPRECHARGE ∧ h.get (F.CONT_STAT_STEP n) = 6 then
      (h.connectDone n).modProf n (fun p => { p with curOn := false }) else h
    (u.inhibited n = true → exec (.ctleSample n i) s = .next ((u.pwmOff n).injTick n))
    ∧ (∀ cur vb, u.inhibited n = false → (u.iSel n j).1 = some cur → j.vBus = some vb →
      exec (.ctleSample n i) s = .next ((u.ctleRun n j cur vb).injTick n))
    ∧ (u.inhibited n = false → (u.iSel n j).1 = none → exec (.ctleSample n i) s = .next ((u.pwmOff n).tripC n 0x0F))
    ∧ (∀ cur, u.inhibited n = false → (u.iSel n j).1 = some cur → j.vBus = none →
      exec (.ctleSample n i) s = .next (u.pwmOff n)))
  ∧ (∀ (s : State) (n : Ch), let r := (s.ch n).ctle.lateRun + 1
    let u := ((s.incSat (F.CTLE_CNT_LATE n)).raise (pgCTLE n) 2).modCtle n (fun c => { c with lateRun := r })
    let v := (u.injStopCheck n).injTick n
    exec (.late n) s = .next (if 3 ≤ r then (v.pwmOff n).tripC n 0x12 else v))
  ∧ (∀ (s : State) (n : Ch), (s.ch n).ctle.stageFault = false →
    let u := ((s.modCtle n (fun c => { c with stageFault := true })).putB (F.CTLE_STAT_STAGE_FAULT n) true).pageFault (pgCTLE n) true
    let v := (u.pwmOff n).raise (pgCTLE n) 9
    exec (.stageFault n true) s = .next (if v.chState n = stPRECHARGE ∨ v.energised n ∨ v.chState n = stSTOPPING
      then v.tripC n 0x0D else v.logReg (pgCTLE n) 0x030))
  ∧ (∀ (s : State) (n : Ch), exec (.stageFault n false) s = .next
    (((s.modCtle n (fun c => { c with stageFault := false })).putB (F.CTLE_STAT_STAGE_FAULT n) false).pageFault (pgCTLE n) false))
  ∧ (∀ (s : State) (n : Ch), s.chState n = stPRECHARGE → s.get (F.CONT_STAT_STEP n) = 2 → 10 ≤ (s.ch n).pour.preRun →
    let u := (s.putB (F.CTLE_STAT_PRE_DONE n) true).put (F.CONT_STAT_STEP n) 3
    exec (.preDone n) s = .next ((u.putB (F.CONT_STAT_HOLD_PRE n) true).modSafe n (fun f => { f with stepAt := u.tb })))
  ∧ (∀ (s : State) (n : Ch) (t : Nat), (s.ch n).ctle.feSince = some t → s.chState n = stPRECHARGE →
    s.coef n 0x06C * 1000000 ≤ ((s.tb - t : Nat) : Rat) →
    exec (.ploopFe n) s = .next (((s.raise (pgCTLE n) 6).pwmOff n).tripC n 0x0C))
  ∧ (∀ (s : State) (n : Ch), s.flag (F.CTLE_BANKSEL_PENDING n) = true → s.swapDue n = true →
    let old := s.bank n
    let new := 1 - old
    let c := (s.ch n).ctle
    let x1 := if s.flag (F.CTLE_CTRL_BUMPMODE n) then c.x + (s.coefOf n old 0x020 - s.coefOf n new 0x020) * c.ePrev else c.x
    let im := s.coefOf n new 0x05C
    let u := s.modCtle n (fun c => { c with
      swapAt := none
      x := if c.enabled then clampR x1 (s.coefOf n new 0x02C) (s.coefOf n new 0x030) else c.x
      z := if c.enabled then clampR c.z (-im) im else c.z
      cap := if s.flag (F.CTLE_CAP_STAT_ARMED n) ∧ s.get (F.CTLE_CAP_CTRL_TRIG n) = 2 then { c.cap with started := true } else c.cap })
    exec (.swap n) s = .next ((((u.put (F.CTLE_BANKSEL_ACTIVE n) new).putB (F.CTLE_BANKSEL_PENDING n) false).incSat
      (F.CTLE_CNT_SWAPS n)).raise (pgCTLE n) 3))
  ∧ (∀ (s : State) (n : Ch) (e : Nat), (s.ch n).ctle.injFrom = some e →
    ((s.ch n).ctle.injOn = false → 0 ≤ sdiff 48 s.ep e → s.chState n = stCONNECTED → exec (.injBegin n) s =
      .next ((s.modCtle n (fun c => { c with
        injOn := true, injK := 0, injT0 := s.tb, injFrom := some s.ep
        cap := if s.flag (F.CTLE_CAP_STAT_ARMED n) ∧ s.get (F.CTLE_CAP_CTRL_TRIG n) = 1
          then { c.cap with started := true } else c.cap })).putB (F.CTLE_INJ_CTRL_ACTIVE n) true))
    ∧ (s.chState n ≠ stCONNECTED → exec (.injEnd n) s = .next ((s.putB (F.CTLE_INJ_CTRL_ABORT n) true).injFinish n))
    ∧ (s.chState n = stCONNECTED → (s.ch n).ctle.injOn = true → (s.get (F.CTLE_INJ_CTRL_DURATION n) : Int) ≤ sdiff 48 s.ep e →
      exec (.injEnd n) s = .next (s.injFinish n)))
  ∧ (∀ (s : State) (n : Ch), s.get (F.CTLE_CAP_STAT_COUNT n) = 4096 → s.flag (F.CTLE_CAP_STAT_ARMED n) = true →
    exec (.capDone n) s = .next (((s.putB (F.CTLE_CAP_STAT_DONE n) true).putB (F.CTLE_CAP_STAT_ARMED n) false).raise (pgCTLE n) 8))


/-- Where the gate accepts it: a swap request with none pending, consistent coefficients and, if at an epoch, 1 to
60,000 epochs ahead, is set pending; a cancel before the swap sample drops it. A write of an ILOOP gain is
refused with STATE outside ISOLATED, and in ISOLATED an allowed value is written to the active bank. INJ_START
with legal fields and conditions begins at the next epoch; INJ_STOP ends the injection at the next sample. ARM
clears the capture and arms it. A read of the capture data after DONE returns the next word and counts it, and 0
past the end. What the spec leaves open here is the model's reading (assumption 58). (R177; R178; R179; R184;
R185; R186; 09_string_current_control.md; assumption 58) -/
def Obligations.CurrentControlCommands : Prop :=
  (∀ (s : State) (src : Src) (n : Ch) (at_ : Bool), let w : Word := if at_ then 5 else 1
    let u := s.restartUnlock src (pgCTLE n) 0x028
    let ahead := sdiff 32 (u.reg (R.CTLE_SWAP_EPOCH n)).toNat u.ep32.toNat
    let t := if at_ then (u.reg (R.CTLE_SWAP_EPOCH n)).toNat else u.swapSample n
    u.gate src (pgCTLE n) 0x028 w = .ok → u.flag (F.CTLE_BANKSEL_PENDING n) = false → u.crossFail n (1 - u.bank n) = none →
    (at_ = true → 1 ≤ ahead ∧ ahead ≤ 60000) →
    exec (.bankSwapReq src n at_) s = .next ((u.putB (F.CTLE_BANKSEL_PENDING n) true).modCtle n (fun c =>
      { c with swapAt := some t, swapEpoch := at_ })).done)
  ∧ (∀ (s : State) (src : Src) (n : Ch), let u := s.restartUnlock src (pgCTLE n) 0x028
    u.gate src (pgCTLE n) 0x028 2 = .ok → exec (.bankSwapCancel src n) s = .next (if u.swapDue n then u.done
      else ((u.putB (F.CTLE_BANKSEL_PENDING n) false).modCtle n (fun c => { c with swapAt := none })).done))
  ∧ (∀ (s : State) (src : Src) (n : Ch) (ki : Bool) (v : Word), let off := if ki then 0x044 else 0x040
    let u := s.restartUnlock src (pgCTLE n) off
    let c := if ki then 0x024 else 0x020
    u.gate src (pgCTLE n) off v = .ok →
    (u.chState n ≠ stISOLATED → exec (.iloopGainWrite src n ki v) s = .next (u.refusedWith .state))
    ∧ (∀ q, u.chState n = stISOLATED → f32 v = some q → (bankRange c).1 ≤ q → q ≤ (bankRange c).2 →
      exec (.iloopGainWrite src n ki v) s = .next (u.setReg (bankAddr n (u.bank n) c) v).done))
  ∧ (∀ (s : State) (src : Src) (n : Ch) (v : Word), let w := v ||| 0x80000000
    let u := s.restartUnlock src (pgCTLE n) 0x048
    u.gate src (pgCTLE n) 0x048 w = .ok → bitsOf w 25 24 ≤ 1 → 1 ≤ bitsOf w 15 0 → bitsOf w 15 0 ≤ 60000 → u.injCheck n w = .ok →
    bit w 30 = false →
    let x := ((u.put (F.CTLE_INJ_CTRL_POINT n) (bitsOf w 25 24)).put (F.CTLE_INJ_CTRL_MODE n) (bitsOf w 21 20)).put
      (F.CTLE_INJ_CTRL_DURATION n) (bitsOf w 15 0)
    let y := if bit w 28 then x.putB (F.CTLE_INJ_CTRL_ABORT n) false else x
    exec (.injStart src n v) s = .next (y.modCtle n (fun c => { c with injFrom := some ((y.ep + 1) % 2 ^ 48) })).done)
  ∧ (∀ (s : State) (src : Src) (n : Ch), let w := injStopWord s n
    let u := s.restartUnlock src (pgCTLE n) 0x048
    u.gate src (pgCTLE n) 0x048 w = .ok → bitsOf w 25 24 ≤ 1 → 1 ≤ bitsOf w 15 0 → bitsOf w 15 0 ≤ 60000 →
    let x := ((u.put (F.CTLE_INJ_CTRL_POINT n) (bitsOf w 25 24)).put (F.CTLE_INJ_CTRL_MODE n) (bitsOf w 21 20)).put
      (F.CTLE_INJ_CTRL_DURATION n) (bitsOf w 15 0)
    exec (.injStop src n) s = .next (if (x.ch n).ctle.injFrom.isSome then x.modCtle n (fun c => { c with injStop := true }) else x).done)
  ∧ (∀ (s : State) (src : Src) (n : Ch) (v : Word), let w := v ||| 0x80000000
    let u := s.restartUnlock src (pgCTLE n) 0x050
    u.gate src (pgCTLE n) 0x050 w = .ok → bitsOf w 27 24 ≤ 10 → bitsOf w 19 16 ≤ 10 → bitsOf w 15 8 ≠ 0 → bitsOf w 1 0 ≠ 3 →
    let x := u.setReg (R.CTLE_CAP_CTRL n) (w &&& 0x0F0FFF03)
    exec (.arm src n v) s = .next ((x.setReg (R.CTLE_CAP_STAT n) 0x40000000).modCtle n (fun c =>
      { c with cap := { CapS.reset with epoch := x.ep } })).done)
  ∧ (∀ (s : State) (src : Src) (n : Ch), s.reachable src (pgCTLE n) = .ok → s.flag (F.CTLE_CAP_STAT_DONE n) = true →
    let i := s.get (F.CTLE_CAP_STAT_RDIDX n)
    let cp := (s.ch n).ctle.cap
    (8194 ≤ i → exec (.capDataRead src n) s = .next (s.doneRead 0))
    ∧ (i < 8194 → exec (.capDataRead src n) s = .next ((s.put (F.CTLE_CAP_STAT_RDIDX n) (i + 1)).doneRead
      (if i = 0 then BitVec.ofNat 32 cp.epoch else if i = 1 then BitVec.ofNat 32 cp.first else cp.data.getD (i - 2) 0))))


/-- Where the gate accepts it: a current target within the rating, with the channel in PRECHARGE or energised, its
page on and not under the allocator, is stored and set to take effect; a legal limit likewise; a valve target in
range on a homed, fault-free axis likewise. STOP is noted for the next evaluation of the valve, which plans the
halt. CLRFAULT with its cause ended clears the fault; HOME on an energised, idle axis starts homing. Zero
current in STOPPING drops the holds and ends in ISOLATED once no feedback is closed; 5 s without it trip. What
the spec leaves open here is the model's reading (assumptions 18, 24). (R190; R191; R193; R195; R199; R201;
R202; R204; R265; 10_profiles_and_valve_axes.md; assumption 18; assumption 24) -/
def Obligations.ProfileCommands : Prop :=
  (∀ (s : State) (src : Src) (n : Ch) (v : Word), let u := s.restartUnlock src (pgPROF n) 0x020
    let m : Int := (u.get (F.CTLE_STAGE_IRATED n) : Int) * 1000
    u.gate src (pgPROF n) 0x020 v = .ok → u.chState n = stPRECHARGE ∨ u.energised n = true → u.enabled (pgPROF n) = true →
    (src = .unit ∨ u.alloc.modeNow ≠ 1 ∨ u.member n = false) → -m ≤ v.toInt → v.toInt ≤ m →
    exec (.curTargetWrite src n v) s =
      .next ((u.modCtle n (fun c => { c with wrTarget := c.wrTarget ++ [(u.tb, u.reg (R.PROF_CUR_TARGET n))] })).setReg
        (R.PROF_CUR_TARGET n) v).done)
  ∧ (∀ (s : State) (src : Src) (n : Ch) (r : LimReg) (v : Word), let u := s.restartUnlock src (pgPROF n) (limOff r)
    u.gate src (pgPROF n) (limOff r) v = .ok → bitsOf v 31 20 ≠ 0 → bitsOf v 19 10 ≠ 0 → bitsOf v 9 0 ≠ 0 →
    let w := (u.tb, u.reg (limAddr n r))
    (r = .curLim → fieldsLe v (u.reg (R.PROF_CUR_STOP n)) = true → exec (.limitWrite src n r v) s =
      .next ((u.setReg (limAddr n r) v).modCtle n (fun c => { c with wrLim := c.wrLim ++ [w] })).done)
    ∧ (r = .curStop → fieldsLe (u.reg (R.PROF_CUR_LIM n)) v = true → exec (.limitWrite src n r v) s =
      .next ((u.setReg (limAddr n r) v).modCtle n (fun c => { c with wrStop := c.wrStop ++ [w] })).done)
    ∧ (r = .vlvLim → bitsOf v 31 20 ≤ 3125 → exec (.limitWrite src n r v) s =
      .next ((u.setReg (limAddr n r) v).modProf n (fun p => { p with vWrL := p.vWrL ++ [w] })).done))
  ∧ (∀ (s : State) (src : Src) (n : Ch) (v : Word), let u := s.restartUnlock src (pgPROF n) 0x02C
    u.gate src (pgPROF n) 0x02C v = .ok → u.flag (F.VAX_STAT_HOMED n) = true → u.flag (F.VAX_STAT_HOMING n) = false →
    u.get (F.VAX_STAT_FAULT n) = 0 → u.enabled (pgPROF n) = true → u.flag (F.VAX_STAT_LIM_LO n) = false →
    u.flag (F.VAX_STAT_LIM_HI n) = false → u.inRange n v.toInt = true → u.inRange n (u.ch n).vax.refPos = true →
    exec (.vlvTargetWrite src n v) s = .next ((u.modProf n (fun p =>
      { p with vWrT := p.vWrT ++ [(u.tb, u.reg (R.PROF_VLV_TARGET n))] })).setReg (R.PROF_VLV_TARGET n) v).done)
  ∧ (∀ (s : State) (src : Src) (n : Ch), let u := s.restartUnlock src (pgPROF n) 0x034
    u.gate src (pgPROF n) 0x034 1 = .ok → u.flag (F.VAX_STAT_HOMING n) = false →
    exec (.stop src n) s = .next (u.modProf n (fun p => { p with vStop := some u.tb })).done)
  ∧ (∀ (s : State) (src : Src) (n : Ch), let w := clrWord s n
    let u := s.restartUnlock src (pgVAX n) 0x020
    u.gate src (pgVAX n) 0x020 w = .ok → u.causeEnded n = true →
    exec (.clrfault src n) s = .next ((u.setReg (R.VAX_CTRL n) (w &&& 0x307)).clrFault n).done)
  ∧ (∀ (s : State) (src : Src) (n : Ch) (v : Word), let w := v ||| 0x80000000
    let u := s.restartUnlock src (pgVAX n) 0x020
    u.gate src (pgVAX n) 0x020 w = .ok → bit w 29 = false → u.flag (F.VAX_STAT_ENERGISED n) = true → u.get (F.VAX_STAT_FAULT n) = 0 →
    u.flag (F.PROF_STAT_VLV_BUSY n) = false → u.flag (F.VAX_STAT_HOMING n) = false →
    exec (.home src n v) s = .next ((u.setReg (R.VAX_CTRL n) (w &&& 0x307)).homeStart n).done)
  ∧ (∀ (s : State) (n : Ch), s.chState n = stSTOPPING → 3 ≤ (s.ch n).pour.zeroRun → (s.ch n).safe.holdOffAt = none →
    exec (.currentZero n) s = .next (((s.holdsOff n).modSafe n (fun f =>
      if f.isolating then { f with isoWait := true, stepAt := (s.holdsOff n).tb } else f)).isolatedCheck n))
  ∧ (∀ (s : State) (n : Ch) (t : Nat), (s.ch n).prof.stopAt = some t → s.chState n = stSTOPPING → 5000000000 ≤ s.tb - t →
    (s.ch n).safe.holdOffAt = none → exec (.stopTmo n) s = .next (s.tripC n 0x14))


/-- An evaluation takes the encoder's count and, on an axis not energised or with a fault, only clears MOVING. A
following error past its time, an encoder fault outside LOCKOUT, a coil fault and a motor supply fault of an
energised axis latch their codes. A recovered supply is noted. 500 ms after the last step the axis is at
standstill. A limit edge is noted, and the fifth within 50 ms latches chatter. A level 5 ms old that changes the
switch is qualified. Homing completes from its last phase and its time-out latches code 5. What the spec leaves
open here is the model's reading (assumptions 24, 59). (R183; R189; R190; R196; R198; R199; R200; R202; R203;
R204; 10_profiles_and_valve_axes.md; assumption 24) -/
def Obligations.ValveAxisEvents : Prop :=
  (∀ (s : State) (n : Ch) (c : Int), let u := s.modVax n (fun x => { x with enc := c, drive := s.reg (R.VAX_DRIVE n) })
    (u.flag (F.VAX_STAT_ENERGISED n) = false ∨ u.get (F.VAX_STAT_FAULT n) ≠ 0 →
      exec (.vlvEval n c) s = .next (((u.modVax n (fun x => { x with vLast := 0 })).putB (F.VAX_STAT_MOVING n) false).put
        (F.VAX_STAT_DEV n) (int16 (clampI (-32767) 32767 (truncR (((u.modVax n (fun x => { x with vLast := 0 })).putB
          (F.VAX_STAT_MOVING n) false).vdev n)))))))
  ∧ (∀ (s : State) (n : Ch) (c : Int), let u := s.modVax n (fun x => { x with enc := c, drive := s.reg (R.VAX_DRIVE n) })
    u.flag (F.VAX_STAT_ENERGISED n) = true → u.get (F.VAX_STAT_FAULT n) = 0 →
    let v := if u.enabled (pgPROF n) then u.vlvReplan n else u
    let x := (v.ch n).vax
    let issued := x.issued + (x.vLast + x.rate) / 10000
    let moving := decide (issued.floor ≠ x.issued.floor)
    let w := (v.modVax n (fun x => { x with
      issued := issued, vLast := (v.vkin n).v, lastStep := if moving then v.tb else x.lastStep
      feSince := if v.posFar n then (if x.feSince.isNone then some v.tb else x.feSince) else none })).putB (F.VAX_STAT_MOVING n) moving
    let z := if moving ∧ ¬ (w.flag (F.VAX_STAT_HOMING n) ∧ w.get (F.VAX_CTRL_HSEQ n) = 2) then
      w.putB (F.VAX_STAT_STANDSTILL n) false else w
    let y := (z.put (F.VAX_STAT_DEV n) (int16 (clampI (-32767) 32767 (truncR (z.vdev n))))).vlvDone n
    let d := (y.ch n).vax.issued - (y.vpos n : Rat)
    (absR d ≤ (y.get (F.VAX_ENC_STALL_WIN n) : Rat) → (y.ch n).vax.phase = .none → exec (.vlvEval n c) s = .next y)
    ∧ ((y.get (F.VAX_ENC_STALL_WIN n) : Rat) < absR d → y.flag (F.VAX_STAT_HOMING n) = false →
      exec (.vlvEval n c) s = .next (y.axisFault n 1)))
  ∧ (∀ (s : State) (n : Ch) (t : Nat), (s.ch n).vax.feSince = some t → s.coef n 0x08C * 1000000 ≤ ((s.tb - t : Nat) : Rat) →
    exec (.fe n) s = .next ((s.raise (pgCTLE n) 6).axisFault n 2))
  ∧ (∀ (s : State) (n : Ch), s.chState n ≠ stLOCKOUT → exec (.enc n) s = .next (s.axisFault n 7))
  ∧ (∀ (s : State) (n : Ch), s.flag (F.VAX_STAT_ENERGISED n) = true → exec (.coil n) s = .next (s.axisFault n 8))
  ∧ (∀ (s : State) (ov : Bool), exec (.motorSupplyFault ov) s = .next (s.eachCh (fun t n =>
    let t := t.modVax n (fun x => { x with supplyBad := some ov })
    if t.flag (F.VAX_STAT_ENERGISED n) then t.axisFault n (if ov then 10 else 9) else t)))
  ∧ (∀ (s : State) (mv : Nat), 20000 ≤ mv → mv ≤ 32000 → exec (.motorSupplyRecover mv) s = .next (s.eachCh (fun t n =>
    if (t.ch n).vax.supplyBad.isSome then t.modVax n (fun x => { x with supplyBad := none }) else t)))
  ∧ (∀ (s : State) (n : Ch), s.flag (F.VAX_STAT_ENERGISED n) = true → 500000000 ≤ s.tb - (s.ch n).vax.lastStep →
    exec (.iholdTimer n) s = .next (s.putB (F.VAX_STAT_STANDSTILL n) true))
  ∧ (∀ (s : State) (n : Ch) (hi level : Bool),
    let ed := ((s.lim n hi).edges ++ [s.tb]).filter (fun t => decide (s.tb - t < 50000000))
    let u := s.setLim n hi { s.lim n hi with raw := level, since := s.tb, pos := s.vpos n, edges := ed }
    let f := if hi then F.VAX_STAT_LIM_HI n else F.VAX_STAT_LIM_LO n
    exec (.limitTransition n hi level) s = .next (if 4 < ed.length then
      ((u.setLim n hi { u.lim n hi with chatter := true }).putB f true).axisFault n 4 else u))
  ∧ (∀ (s : State) (n : Ch) (hi : Bool), let l := s.lim n hi
    let act := l.raw != s.flag (if hi then F.VAX_CTRL_POL_HI n else F.VAX_CTRL_POL_LO n)
    let f := if hi then F.VAX_STAT_LIM_HI n else F.VAX_STAT_LIM_LO n
    let u := (s.setLim n hi { l with active := act }).putB f (act || l.chatter)
    5000000 ≤ s.tb - l.since → act = !l.active → exec (.limitQualified n hi) s = .next (if act then u.limitEdge n hi else u))
  ∧ (∀ (s : State) (n : Ch), s.flag (F.VAX_STAT_HOMING n) = true → (s.ch n).vax.phase = .done →
    let u := ((s.homeMap n (s.vpos n)).vlvResync n).modVax n (fun x => { x with phase := .none })
    exec (.homeComplete n) s = .next (((u.putB (F.VAX_STAT_HOMED n) true).putB (F.VAX_STAT_HOMING n) false).raise (pgVAX n) 2))
  ∧ (∀ (s : State) (n : Ch), s.flag (F.VAX_STAT_HOMING n) = true →
    1000 * s.get (F.VAX_HOME_TMO n) * 1000000 ≤ s.tb - (s.ch n).vax.homeAt → exec (.homeTmo n) s = .next (s.axisFault n 5))


/-- Where the gate accepts it: IMP_START in ON_REQUEST with no block due and none running sets a block due at the
next aligned epoch; IMP_ABORT voids a running block or drops the due one. IMP_LEADIN_START at its epoch with the
tones legal and every condition met starts the lead-in; else it counts a skipped block. Every delivered epoch of
the block is captured once. The block ends after 20,000 epochs; BLOCK_DONE of a full block with no tone OK voids
it and otherwise publishes a result; BLOCK_VOID voids a running block with the lowest cause. What the spec
leaves open here is the model's reading (assumptions 5, 43). (R206; R207; R208; R209; R211; R213; R214; R215;
R216; 11_impedance_spectroscopy.md; assumption 5; assumption 43) -/
def Obligations.ImpedanceCommands : Prop :=
  (∀ (s : State) (src : Src) (n : Ch), let u := s.restartUnlock src (pgIMP n) 0x070
    (u.gate src (pgIMP n) 0x070 1 = .ok → u.impMode n = 2 → (u.ch n).imp.due = none → u.get (F.IMP_STAT_PHASE n) = 0 →
      exec (.impStart src n) s = .next (u.modImp n (fun p => { p with due := some (u.impAligned n (u.ep + 1)) })).done)
    ∧ (u.gate src (pgIMP n) 0x070 2 = .ok → u.impRunning n = true →
      exec (.impAbort src n) s = .next (u.blockVoid n ((u.voidCauses n ++ [8]).foldl min 9)).done)
    ∧ (u.gate src (pgIMP n) 0x070 2 = .ok → u.impRunning n = false → (u.ch n).imp.due = none →
      exec (.impAbort src n) s = .next u.done)
    ∧ (∀ e, u.gate src (pgIMP n) 0x070 2 = .ok → u.get (F.IMP_STAT_PHASE n) = 0 → (u.ch n).imp.due = some e →
      exec (.impAbort src n) s = .next (((((u.modImp n (fun p => { p with due := none, minE0 := (e + 20000) % 2 ^ 48 })).impPublish n
        (voidRes 8 e 0 (u.impLimit n) (u.get (F.IMP_CTRL_NTONES n)) (u.get (F.IMP_CTRL_ZRES n)))).raise (pgIMP n) 3).impResched n)).done))
  ∧ (∀ (s : State) (n : Ch) (e0 : Nat), (s.ch n).imp.due = some e0 →
    0 ≤ sdiff 48 (s.ep + 1000 * s.get (F.IMP_SCHED_LEADIN n)) e0 →
    s.get (F.IMP_STAT_PHASE n) = 0 →
    let lead := s.get (F.IMP_SCHED_LEADIN n)
    (s.tonesOk n = true → s.impMayStart n = true → exec (.impLeadinStart n) s = .next ((((s.modImp n (fun p => { p with
        due := none, lastLead := some s.ep, minE0 := 0, leadAt := s.ep, snrMin := s.get (F.IMP_SCHED_SNR_MIN n)
        e0 := e0, limit := s.impLimit n, ntones := s.get (F.IMP_CTRL_NTONES n)
        bins := (List.range (s.get (F.IMP_CTRL_NTONES n))).map (fun m => s.get (F.IMP_TONE_BIN n m))
        weights := (List.range (s.get (F.IMP_CTRL_NTONES n))).map (fun m => s.get (F.IMP_TONE_WEIGHT n m))
        ttone := s.get (F.IMP_CTRL_TTONE n), rtone := s.get (F.IMP_CTRL_RTONE n), zres := s.get (F.IMP_CTRL_ZRES n)
        cap := [], gradeMin := 0, temps := [0, 0], socs := [] })).modCtle n (fun c => { c with refLimited := false })).impPhase n
          (if lead = 0 then 2 else 1) true).impResched n))
    ∧ (s.tonesOk n = true → s.impMayStart n = false →
      let u := (s.incSat (F.IMP_STAT_SKIPPED n)).raise (pgIMP n) 4
      exec (.impLeadinStart n) s = .next ((u.modImp n (fun p => { p with due := none, minE0 := (e0 + 20000) % 2 ^ 48 })).impResched n))
    ∧ (s.tonesOk n = false →
      let u := ((s.setRaise (F.IMP_STAT_CFG_ERR n) (pgIMP n) 5).incSat (F.IMP_STAT_SKIPPED n)).raise (pgIMP n) 4
      exec (.impLeadinStart n) s = .next ((u.modImp n (fun p => { p with due := none, minE0 := (e0 + 20000) % 2 ^ 48 })).impResched n)))
  ∧ (∀ (s : State) (n : Ch), let b := (s.ch n).pour.deliv
    let ts := measured b.temp b.tempQ 16 true
    let u := if s.get (F.IMP_STAT_PHASE n) = 1 then s.put (F.IMP_STAT_PHASE n) 2 else s
    b.valid = true → s.get (F.IMP_STAT_PHASE n) ≠ 0 → b.epoch = ((s.ch n).imp.e0 + (s.ch n).imp.cap.length) % 2 ^ 48 →
    (s.ch n).imp.cap.length < 20000 →
    exec (.impedanceAccumulation n) s = .next (u.modImp n (fun p => { p with
      cap := p.cap ++ [⟨istrOf b, b.cellV, b.cellQ⟩], gradeMin := max p.gradeMin b.grade
      temps := [p.temps.getD 0 0 + sumI ts, p.temps.getD 1 0 + ts.length], socs := u.socSums n })))
  ∧ (∀ (s : State) (n : Ch), s.get (F.IMP_STAT_PHASE n) = 1 ∨ s.get (F.IMP_STAT_PHASE n) = 2 →
    20000 ≤ sdiff 48 s.ep (s.ch n).imp.e0 →
    exec (.impBlockEnd n) s = .next ((s.put (F.IMP_STAT_PHASE n) 3).putB (F.IMP_STAT_INJ n) false))
  ∧ (∀ (s : State) (n : Ch), s.get (F.IMP_STAT_PHASE n) = 3 → 20000 ≤ (s.ch n).imp.cap.length →
    let p := (s.ch n).imp
    let tones := p.bins.map (fun b => toneOf (p.cap.map (fun e => (e.istr : Rat) / 1000)) b p.snrMin)
    (tones.all (fun t => !t.ok) = true → exec (.blockDone n) s = .next (s.blockVoid n 9))
    ∧ (tones.all (fun t => !t.ok) = false → ∃ t, exec (.blockDone n) s = .next t ∧ (t.ch n).imp.res.status = 1
      ∧ (t.ch n).imp.res.startEpoch = p.e0 ∧ (t.ch n).imp.res.endEpoch = (p.e0 + 19999) % 2 ^ 48 ∧ (t.ch n).imp.res.tones = tones
      ∧ (t.ch n).imp.prev = keepRes s.ep (p.res :: p.prev)))
  ∧ (∀ (s : State) (n : Ch) (k : Nat), s.impRunning n = true →
    (s.voidCauses n ≠ [] ∨ k = 6 ∨ k = 7 → exec (.blockVoid n k) s =
      .next (s.blockVoid n ((s.voidCauses n ++ [if k = 7 then 7 else 6]).foldl min 9)))
    ∧ (s.voidCauses n = [] → k ≠ 6 → k ≠ 7 → exec (.blockVoid n k) s = .next s))


/-- On a delivered epoch, EST enabled and the channel not a standby's: the aggregate task publishes bounds over the
cells with a SoC; in the last epoch of a period the filter initialises or updates each MEASURED cell and leaves
an ABSENT one; in the 100th the state of power is at most each cell's and IRATED. After 900 s the rest point
updates the cells MEASURED for 10 epochs and no other, and starts anew. Lateness and hours are counted, 336 ask
for a rest. A calibration window is accepted within its limits, else refused. A due record goes to the older
copy. What the spec leaves open here is the model's reading (assumptions 5, 44). (R220; R224; R226; R227; R231;
R232; R233; R234; R235; R239; 12_state_estimation.md; assumption 5) -/
def Obligations.EstimatorTasks : Prop :=
  (∀ (s : State) (n : Ch), let b := (s.ch n).pour.deliv
    (s.ch n).twin.standby = false → b.valid = true → s.enabled (pgEST n) = true →
    ∃ t, exec (.aggregateTask n) s = .next t ∧ (t.ch n).pour = (s.ch n).pour ∧ (t.ch n).est.aggPend = []
      ∧ let p := (t.ch n).est.pub
        let l := (List.range (t.ch n).est.cells.length).filter (fun i => (t.estCell n i).init && b.cellQ.getD i 4 != 4)
        p.aggEpoch = b.epoch ∧ p.ncells = l.length ∧ t.get (F.EST_STAT_GRADE_MIN n) = p.gradeMin
        ∧ t.flag (F.EST_STAT_EXTRAP n) = p.extrapAny
        ∧ (l = [] → p.socMin = 0xFFFF ∧ p.socMean = 0xFFFF ∧ p.socMax = 0xFFFF ∧ p.socStr = 0xFFFF ∧ p.gradeMin = 3)
        ∧ (∀ i ∈ l, let c := t.estCell n i
          p.socMin ≤ pct c.socPub ∧ pct c.socPub ≤ p.socMax ∧ p.ahDis ≤ cAh (c.socPub * c.q) ∧ p.ahChg ≤ cAh ((1 - c.socPub) * c.q)
          ∧ c.grade ≤ p.gradeMin ∧ (c.extrap = true → p.extrapAny = true)))
  ∧ (∀ (s : State) (n : Ch), let b := (s.ch n).pour.deliv
    (s.ch n).twin.standby = false → b.valid = true → s.enabled (pgEST n) = true → (s.ch n).est.chemOk = true →
    b.epoch % s.kfPeriod n = s.kfPeriod n - 1 → (s.ch n).est.group ≠ [] →
    ∃ t, exec (.kfUpdate n) s = .next t ∧ (t.ch n).est.group = [] ∧ (t.ch n).est.pub.kfEpoch = b.epoch
      ∧ t.regs = s.regs ∧ (t.ch n).pour = (s.ch n).pour ∧ (t.ch n).est.chem = (s.ch n).est.chem
      ∧ ∀ i, i < max (s.ch n).est.cells.length (16 * s.get (F.RING_STAT_TILES n)) →
        let c := s.estCell n i
        let d := t.estCell n i
        (b.cellQ.getD i 4 = 4 → d = { c.capacity with noUpd := true })
        ∧ (b.cellQ.getD i 4 = 0 → d.init = true ∧ d.noUpd = false ∧ 0 ≤ d.soc ∧ d.soc ≤ 1 ∧ d.socPub = d.soc
          ∧ (c.init = false → d.v1 = 0 ∧ d.v2 = 0 ∧ (d.p00, d.p11, d.p22) = (1 / 100, 1 / 10000, 1 / 10000)
            ∧ (d.p01, d.p02, d.p12) = (0, 0, 0)))
        ∧ (b.cellQ.getD i 4 = 1 ∨ b.cellQ.getD i 4 = 2 → d.init = c.init ∧ d.noUpd = true ∧ 0 ≤ d.soc ∧ d.soc ≤ 1))
  ∧ (∀ (s : State) (n : Ch), let b := (s.ch n).pour.deliv
    (s.ch n).twin.standby = false → b.valid = true → s.enabled (pgEST n) = true → (s.ch n).est.chemOk = true →
    b.epoch % 100 = 99 → s.sopCells n b ≠ [] →
    ∃ t, exec (.sopUpdate n) s = .next t ∧ (t.ch n).est.pub.sopEpoch = b.epoch ∧ t.regs = s.regs
      ∧ (t.ch n).est.pub.curLim.length = 6 ∧ (t.ch n).est.pub.powLim.length = 6
      ∧ (∀ x ∈ (t.ch n).est.pub.curLim, x ≤ s.get (F.CTLE_STAGE_IRATED n) * 1000)
      ∧ (∀ i ∈ s.sopCells n b, ∀ k, k < 3 → nth (t.ch n).est.pub.curLim k ≤ s.sopCell n b i true k * 1000
        ∧ nth (t.ch n).est.pub.curLim (3 + k) ≤ s.sopCell n b i false k * 1000))
  ∧ (∀ (s : State) (n : Ch) (t0 : Nat), let b := (s.ch n).pour.deliv
    (s.ch n).twin.standby = false → (s.ch n).est.restT0 = some t0 → 900000000000 ≤ s.tb - t0 → (s.ch n).est.aggPend = [] →
    s.enabled (pgEST n) = true → ∃ t, exec (.restPoint n) s = .next t ∧ t.get (F.EST_STAT_REST_AGE n) = 0
      ∧ t.flag (F.EST_STAT_REST_NEEDED n) = false ∧ (t.ch n).est.restT0 = some s.tb ∧ (t.ch n).est.restHourAt = s.tb
      ∧ ∀ i, i < max (s.ch n).est.cells.length (16 * s.get (F.RING_STAT_TILES n)) →
        let c := s.estCell n i
        let d := if c.init = true ∧ 10 ≤ c.measRun ∧ b.cellQ.getD i 4 = 0 then s.restUpdate n (b.volt i) c else c
        { t.estCell n i with cycle := none, qNew := none } = { d with cycle := none, qNew := none })
  ∧ (∀ (s : State) (n : Ch) (k : EstTask), exec (.taskLate n k) s = .next ((s.incSat (F.EST_CNT_LATE n)).raise (pgEST n) 6))
  ∧ (∀ (s : State) (n : Ch), 3600000000000 ≤ s.tb - (s.ch n).est.restHourAt →
    let u := (s.incSat (F.EST_STAT_REST_AGE n)).modEst n (fun e => { e with restHourAt := s.tb })
    exec (.restAgeTick n) s = .next (if 336 ≤ u.get (F.EST_STAT_REST_AGE n) ∧ u.flag (F.EST_STAT_REST_NEEDED n) = false then
      ((u.putB (F.EST_STAT_REST_NEEDED n) true).raise (pgEST n) 2).logReg (pgEST n) 0x024 else u))
  ∧ (∀ (s : State) (n : Ch), let e := (s.ch n).est
    let mean : Rat := (sumI e.calWin : Rat) / 1000
    let old := e.cal.getD e.calSel (0, 1)
    let accept (c : Int × Rat) (env : Option (Rat × Rat)) : State := (s.modEst n (fun x => { x with
      calOld := x.cal, calAt := (s.ep + 1) % 2 ^ 48, cal := setAt (0, 1) x.cal x.calSel c
      calEnv := setAt none x.calEnv x.calSel env, writeDue := true })).calEnd n 1
    1000 ≤ e.calWin.length →
    (e.calKind = 1 → s.calCond n 1 = true → absR mean ≤ 2000 →
      exec (.icalDone n) s = .next (accept (roundHalf mean, old.2) (e.calEnv.getD e.calSel none)))
    ∧ (e.calKind = 1 → s.calCond n 1 = false ∨ 2000 < absR mean → exec (.icalDone n) s = .next (s.calEnd n 2))
    ∧ (e.calKind = 2 →
      let m := mean - (old.1 : Rat)
      let lo := e.calWin.foldl min (e.calWin.headD 0)
      let hi := e.calWin.foldl max (e.calWin.headD 0)
      let g := ((s.reg (R.EST_ICAL_REF n)).toInt : Rat) / m
      let good : Prop := s.calCond n 2 = true ∧ s.irated n * 200 ≤ absR m ∧ ((hi - lo : Int) : Rat) ≤ s.irated n * 10
        ∧ 95 / 100 ≤ g ∧ g ≤ 105 / 100
      (good → exec (.icalDone n) s = .next (accept (old.1, g)
        (some (((lo - old.1 : Int) : Rat) * g / 1000, ((hi - old.1 : Int) : Rat) * g / 1000))))
      ∧ (¬ good → exec (.icalDone n) s = .next (s.calEnd n 2))))
  ∧ (∀ (s : State) (n : Ch), let e := (s.ch n).est
    s.sup.vholdOk = true → e.unloaded = false → e.writeDue = true ∨ 600000000000 ≤ s.tb - e.wroteAt →
    ∃ t r, exec (.estRecordWrite n) s = .next t ∧ (t.ch n).est.writeDue = false
      ∧ r = ⟨true, (match e.newest with | some c => c.gen + 1 | none => 1), s.ep, e.cells, s.get (F.EST_STAT_REST_AGE n), e.cal, e.calEnv⟩
      ∧ ((t.ch n).est.copyA = r ∧ (t.ch n).est.copyB = e.copyB ∧ (e.copyA.valid = true → e.newest = some e.copyB)
        ∨ (t.ch n).est.copyB = r ∧ (t.ch n).est.copyA = e.copyA ∧ e.newest = some e.copyA))


/-- Where the gate accepts it: a word written through CHEM_DATA goes to the staged table at CHEM_ADDR, a read
returns the word there, and both move the address on. A commit in ISOLATED of a table with every check passed
makes it the channel's chemistry, ends the open cycles, drops what was learned under another CHEM_ID and
reinitialises the cells; another table leaves its first failing word in ERR_WORD with RANGE. REINIT in ISOLATED
reinitialises; LEARN_CLEAR there, unlocked, forgets what was learned. A calibration in its condition starts its
window for the chosen input. What the spec leaves open here is the model's reading (assumption 44). (R223; R227;
R230; R231; R237; 12_state_estimation.md; assumption 44) -/
def Obligations.EstimatorCommands : Prop :=
  (∀ (s : State) (src : Src) (n : Ch) (v : Word), let u := s.restartUnlock src (pgEST n) 0x02C
    u.gate src (pgEST n) 0x02C v = .ok → exec (.chemDataAccess src n (some v)) s =
      .next ((u.modEst n (fun e => { e with stage := mset e.stage (u.get (F.EST_CHEM_ADDR_WORD n)) v })).chemNext n).done)
  ∧ (∀ (s : State) (src : Src) (n : Ch), s.reachable src (pgEST n) = .ok → exec (.chemDataAccess src n none) s =
      .next ((s.chemNext n).doneRead (mget (s.ch n).est.stage (s.get (F.EST_CHEM_ADDR_WORD n)))))
  ∧ (∀ (s : State) (src : Src) (n : Ch), let u := s.restartUnlock src (pgEST n) 0x030
    u.gate src (pgEST n) 0x030 1 = .ok → u.chState n = stISOLATED →
    let m := (u.ch n).est.stage
    (∀ k, chemFail m = some k → exec (.commitChem src n) s = .next ((u.put (F.EST_CHEM_CMD_ERR_WORD n) k).refusedWith .range))
    ∧ (chemFail m = none →
      let w := ((u.disqualify n 8 (fun _ _ => true)).modEst n (fun e =>
        { e with chem := m, chemOk := true, chemDue := true, writeDue := true })).chemStore n
      let x := w.mapCells n (fun _ c => if mget m 0 ≠ mget (u.ch n).est.chem 0 then c.unlearn (f32D (mget m 1))
        else if c.envQ.isNone && c.qNew.isNone then { c with q := f32D (mget m 1) } else c)
      let y := ((x.reinit n).put (F.EST_CHEM_CMD_ERR_WORD n) 0xFFFF).putB (F.EST_STAT_CHEM_VALID n) true
      exec (.commitChem src n) s = .next ((y.setReg (R.EST_CHEM_ID n) (mget m 0)).openShow n).done))
  ∧ (∀ (s : State) (src : Src) (n : Ch), let w := estCtrlWord s n 31
    let u := s.restartUnlock src (pgEST n) 0x020
    u.gate src (pgEST n) 0x020 w = .ok → u.chState n = stISOLATED → bit w 31 = true → bit w 30 = false →
    exec (.reinit src n) s = .next ((u.put (F.EST_CTRL_LEARN_EN n) (b2n (bit w 0))).reinit n).done)
  ∧ (∀ (s : State) (src : Src) (n : Ch), let w := estCtrlWord s n 30
    let u := s.restartUnlock src (pgEST n) 0x020
    u.gate src (pgEST n) 0x020 w = .ok → u.chState n = stISOLATED → u.unlocked src (pgEST n) = true → bit w 31 = false → bit w 30 = true →
    exec (.learnClear src n) s = .next ((u.put (F.EST_CTRL_LEARN_EN n) (b2n (bit w 0))).learnClear n).done)
  ∧ (∀ (s : State) (src : Src) (n : Ch), let w := icalWord s n 31
    let u := s.restartUnlock src (pgEST n) 0x044
    u.gate src (pgEST n) 0x044 w = .ok → u.calCond n 1 = true → bit w 31 = true → bit w 30 = false → bitsOf w 25 24 ≤ 1 →
    exec (.icalOffset src n) s = .next (((u.put (F.EST_ICAL_SEL n) (bitsOf w 25 24)).put (F.EST_ICAL_RES n) 3).modEst n (fun e =>
      { e with calKind := 1, calSel := bitsOf w 25 24, calWin := [], calSkip := b2n (u.ch n).pour.busy })).done)
  ∧ (∀ (s : State) (src : Src) (n : Ch), let w := icalWord s n 30
    let u := s.restartUnlock src (pgEST n) 0x044
    u.gate src (pgEST n) 0x044 w = .ok → u.calCond n 2 = true → bit w 31 = false → bit w 30 = true → bitsOf w 25 24 ≤ 1 →
    exec (.icalGain src n) s = .next (((u.put (F.EST_ICAL_SEL n) (bitsOf w 25 24)).put (F.EST_ICAL_RES n) 3).modEst n (fun e =>
      { e with calKind := 2, calSel := bitsOf w 25 24, calWin := [], calSkip := b2n (u.ch n).pour.busy })).done)


/-- Outside a supervisor restart, in an epoch in which a run is due, a run of the allocator takes the limits, ends a
rest window that is over, offers one that is due, and shows the members; in POWER it further writes the targets
that changed and shows the power it could not place. An accepted power command within 200 kW is stored and its
age starts anew. A command older than the time-out marks TMO, raises the source and is recorded, once. A rest
window that is over ends. What the spec leaves open here is the model's reading (assumptions 17, 50). (R242;
R243; R244; R246; R247; 13_dispatch_allocation.md; assumption 17; assumption 50) -/
def Obligations.AllocatorCommands : Prop :=
  (∀ s : State, s.sup.restarting = false → s.allocDue = true →
    let a := ({ s with alloc := { s.alloc with pcmdNew := false } } : State).allocLimits
    let b := if a.flag F.ALLOC_STAT_REST_ACT && a.restOver then a.restEnd else a
    let u := b.restOffer
    let m := allCh.filter u.member
    (u.alloc.modeNow ≠ 1 → exec .allocRun s = .next (u.allocShow m 0))
    ∧ (u.alloc.modeNow = 1 →
      let v := (u.allocCalc m).1.foldl (fun t x => if t.reg (R.PROF_CUR_TARGET x.1) = intWord x.2 then t
        else (t.doCurTarget .unit x.1 (intWord x.2)).2) u
      exec .allocRun s = .next { (v.allocShow m (u.allocCalc m).2) with free := v.free + 8 }))
  ∧ (∀ (s : State) (src : Src) (v : Word), let u := s.restartUnlock src pgALLOC 0x024
    u.gate src pgALLOC 0x024 v = .ok → -200000 ≤ v.toInt → v.toInt ≤ 200000 →
    exec (.pcmdWrite src v) s = .next ({ (u.setReg R.ALLOC_PCMD v) with alloc := { u.alloc with cmdAt := u.tb, pcmdNew := true, tmoDone := false } } : State).done)
  ∧ (∀ s : State, s.get F.ALLOC_PCMD_TMO_TMO ≠ 0 → 100 * s.get F.ALLOC_PCMD_TMO_TMO * 1000000 ≤ s.tb - s.alloc.cmdAt →
    s.alloc.tmoDone = false → let u : State := { s with alloc := { s.alloc with tmoDone := true } }
    exec .pcmdTmo s = .next (((u.putB F.ALLOC_STAT_TMO true).raise pgALLOC 3).logReg pgALLOC 0x02C))
  ∧ (∀ s : State, s.flag F.ALLOC_STAT_REST_ACT = true → s.restOver = true →
    let u : State := { (s.putB F.ALLOC_STAT_REST_ACT false) with alloc := { s.alloc with restAt := none } }
    exec .restWindowEnd s = .next ((u.raise pgALLOC 5).logReg pgALLOC 0x02C))


/-- In an epoch that is a multiple of 10 a sample of the nine die sensors judges each sensor that has not failed,
shows the highest reading and its sensor, and judges the levels with it; each level entered or left raises the
source and is recorded. 100 ms after the last, a compensation step moves the frequency correction towards what
the host block's temperature asks by at most 0.05 ppm, gives each channel's references theirs, and leaves the
correction of a block whose sensor has failed. An evaluation of the limits takes axes that rise, else keeps the
last good ones and marks the error in the native mode, and gives every channel that is due its two limits. What
the spec leaves open here is the model's reading (assumption 51). (R275; R276; R277; R278; R279; R280; R281;
R282; 15_thermal_management.md; assumption 51) -/
def Obligations.ThermalCommands : Prop :=
  (∀ (s : State) (l : List (Option Int)), s.ep % 10 = 0 → let u := (List.range 9).foldl (fun u k => u.dieSensor k (l.getD k none)) s
    let x := u.tmodOf l
    let th := u.thermNext x
    let v := ({ u.tmodShow x with therm := th } : State).put F.THERM_STAT_LEVEL th.shown
    let w := ([0, 1, 2] : List Nat).foldl (fun t k =>
      if th.inForce k = u.therm.inForce k then t else (t.raise pgTHERM 2).logReg pgTHERM 0x024) v
    let y := if th.throttled = u.therm.throttled then w else w.throttle th.throttled
    exec (.dieSample l) s = .next (if th.level.getD 2 false && !(u.therm.level.getD 2 false) then y.shutdown else y))
  ∧ (∀ s : State, 100000000 ≤ s.tb - s.clock.compAt → ∃ t, exec .compensationStep s = .next t ∧ t.clock.compAt = s.tb
    ∧ (s.dieNow 8 = none → t.clock.comp = s.clock.comp)
    ∧ s.clock.comp - 1 / 20 ≤ t.clock.comp ∧ t.clock.comp ≤ s.clock.comp + 1 / 20
    ∧ (∀ n : Ch, s.dieNow n.val = none → t.clock.refComp.getD n.val 0 = s.clock.refComp.getD n.val 0)
    ∧ (∀ (n : Ch) (x : Rat), s.dieNow n.val = some x → t.clock.refComp.getD n.val 0 = Config.refComp n.val x)
    ∧ (∀ x : Rat, s.dieNow 8 = some x → s.clock.comp - 1 / 20 ≤ Config.oscComp x → Config.oscComp x ≤ s.clock.comp + 1 / 20 →
      t.clock.comp = Config.oscComp x)
    ∧ t.regs = s.regs ∧ t.chans = s.chans)
  ∧ (∀ (s : State) (n : Ch), s.thermDue n = true → let ax := [0, 1, 2, 3].map (fun k => s.reg (R.THERM_AX k))
    (axesOk ax = true → exec .thermLimitEval s = .next (({ s with therm := { s.therm with axes := ax } } : State).eachCh
      (fun t n => t.thermLimit ax n)))
    ∧ (axesOk ax = false → s.flag F.THERM_CTRL_COMPAT = false →
      let u := s.setRaise F.THERM_STAT_CFG_ERR pgTHERM 4
      exec .thermLimitEval s = .next (u.eachCh (fun t n => t.thermLimit u.therm.axes n)))
    ∧ (axesOk ax = false → s.flag F.THERM_CTRL_COMPAT = true →
      exec .thermLimitEval s = .next (s.eachCh (fun t n => t.thermLimit s.therm.axes n))))


/-- An overcurrent detection outside LOCKOUT of a path that has not failed, above the limit, inhibits the PWM and is
kept with its path; 30 us later OVERCURRENT trips with the paths seen. A demand of an enabled input, outside
LOCKOUT, shows the line low and trips with its line and input. A closing feedback late in steps 1, 3 and 4, a
precharge past its time, a closed feedback 100 ms after the holds went off, and a TRIP that stayed closed in its
test each trip with their cause. 1 ms after a trip TRIP opens with the holds. What the spec leaves open here is
the model's reading (assumptions 11, 60, 75). (R46; R251; R257; R258; R264; R265; R271; R272;
14_protection_and_safety.md; assumption 11; assumption 60; assumption 75) -/
def Obligations.TripSources : Prop :=
  (∀ (s : State) (n : Ch) (aux : Bool) (mA : Int), s.chState n ≠ stLOCKOUT → s.get (F.SAFE_LIMIT_IOC n) ≠ 0 →
    s.flag (if aux then F.CTLE_STAT_IAUX_FAIL n else F.CTLE_STAT_IMAIN_FAIL n) = false →
    s.get (F.SAFE_LIMIT_IOC n) * 1000 < ((s.calIn n aux (some mA)).getD mA).natAbs →
    exec (.overcurrentDetect n aux mA) s = .next (((s.putB (F.CONT_STAT_INHIBIT n) true).pwmOff n).modSafe n (fun f => { f with
      ocAt := if f.ocAt.isNone then some s.tb else f.ocAt
      ocPath := (if f.ocAt.isNone then 0 else f.ocPath) ||| (if aux then 2 else 1) })))
  ∧ (∀ (s : State) (n : Ch) (t : Nat), (s.ch n).safe.ocAt = some t → 30000 ≤ s.tb - t →
    exec (.overcurrent n) s =
      .next ((s.trip n 0x05 (s.ch n).safe.ocPath 0).modSafe n (fun f => { f with ocAt := none, ocPath := 0 })))
  ∧ (∀ (s : State) (n : Ch) (k : Fin 4) (b : Bool), s.chState n ≠ stLOCKOUT → s.getBit (F.SAFE_SICFG_EN n) k.val = true →
    let u := s.modSafe n (fun f => { f with low := f.low ||| BitVec.ofNat 8 (2 ^ lineIx k b) })
    exec (.siDemand n k b) s = .next (((u.putBit (if b then F.SAFE_SISTAT_B n else F.SAFE_SISTAT_A n) k.val false).siShow n k.val).trip n
      0x06 (if b then 2 else 1) k.val))
  ∧ (∀ (s : State) (n : Ch) (t : Nat), (s.ch n).safe.tripAt = some t → 1000000 ≤ s.tb - t →
    exec (.tripOpen n) s = .next (((s.holdsOff n).putB (F.CONT_STAT_TRIP_ON n) false).modSafe n (fun f =>
      { f with tripAt := none, holdOffAt := if s.anyFb n = true ∧ s.get (F.SAFE_TRIPREC_CAUSE n) ≠ 0x09 then some s.tb else none })))
  ∧ (∀ (s : State) (n : Ch), let k := s.get (F.CONT_STAT_STEP n)
    s.chState n = stPRECHARGE → k = 1 ∨ k = 3 ∨ k = 4 → s.get (F.CONT_CFG_CLOSE_TMO n) * 1000000 ≤ s.tb - (s.ch n).safe.stepAt →
    exec (.fbClose n) s = .next (s.tripC n 0x0A))
  ∧ (∀ (s : State) (n : Ch), s.chState n = stPRECHARGE → s.get (F.CONT_STAT_STEP n) = 2 →
    1000 * s.get (F.CONT_CFG_PRE_TMO n) * 1000000 ≤ s.tb - (s.ch n).safe.stepAt → exec (.preTmo n) s = .next (s.tripC n 0x0B))
  ∧ (∀ (s : State) (n : Ch) (t : Nat), (s.ch n).safe.holdOffAt = some t → 100000000 ≤ s.tb - t → s.chState n ≠ stPRECHARGE →
    (s.anyFb n = true → exec (.weld n) s =
      .next ((s.tripC n 0x09).modSafe n (fun f => { f with holdOffAt := none, isolating := false, isoWait := false })))
    ∧ (s.anyFb n = false → exec (.weld n) s = .next (s.isolatedCheck n)))
  ∧ (∀ (s : State) (n : Ch), s.flag F.HLTH_CTRL_EN = true → s.chState n ≠ stLOCKOUT → s.tripTestDue n = true →
    let u := s.finding (some F.HLTH_STAT_TRIPTEST) [n]
    exec (.tripTest n false) s = .next (if u.twinCh n then u.limp else (u.tripC n 0x19).limp))


/-- Where the gate accepts it: CONNECT with none of its refusals holding begins PRECHARGE step 1 with HOLD_NEG;
DISCONNECT stops a channel in PRECHARGE, CONNECTED or DERATED; RESET of a tripped channel with its conditions
met restores TRIP and ends in ISOLATED; DEG_ACK from service clears EXPIRED; HLTH's disable from service stops
the checks and is recorded. Feedbacks are taken as they change. Test pulses begin and are judged line by line;
50 good pulses restore a faulty line. DERATED past its time stops the channel. A bad check is a finding. What
the spec leaves open here is the model's reading (assumptions 19, 60, 61). (R141; R259; R260; R263; R264; R265;
R267; R268; R270; R271; R273; 14_protection_and_safety.md) -/
def Obligations.ProtectionCommands : Prop :=
  (∀ (s : State) (src : Src) (n : Ch), let u := s.restartUnlock src (pgCONT n) 0x020
    (u.gate src (pgCONT n) 0x020 1 = .ok → u.connectRefused n = false →
      let v := (((u.enterState n stPRECHARGE 0).put (F.CONT_STAT_STEP n) 1).putB (F.CONT_STAT_HOLD_NEG n) true).putB (F.CTLE_STAT_PRE_DONE n) false
      exec (.connect src n) s = .next (((v.modPour n (fun p => { p with preRun := 0 })).modSafe n (fun f => { f with stepAt := v.tb })).modCtle n
        (fun c => { c with irefPre := 0, feSince := none })).done)
    ∧ (u.gate src (pgCONT n) 0x020 2 = .ok → u.chState n = stPRECHARGE ∨ u.energised n = true →
      exec (.disconnect src n) s = .next (u.enterState n stSTOPPING 0x60).done))
  ∧ (∀ (s : State) (src : Src) (n : Ch), let u := s.restartUnlock src (pgSAFE n) 0x040
    (u.gate src (pgSAFE n) 0x040 1 = .ok → u.chState n = stTRIPPED → (classS (u.get (F.SAFE_TRIPREC_CAUSE n)) = true → u.service src = true) →
      1000000000 ≤ u.tb - (u.ch n).safe.tripTb → u.anyFb n = false → u.tripPresent n = false → (u.ch n).safe.isolating = false →
      let v := (u.putB (F.CONT_STAT_INHIBIT n) (u.mode == mBOOT)).putB (F.CONT_STAT_TRIP_ON n) true
      exec (.reset src n) s = .next ((v.modSafe n (fun f =>
        { f with tripAt := none, ocAt := none, ocPath := 0, holdOffAt := none })).enterState n stISOLATED 0).done)
    ∧ (u.gate src (pgSAFE n) 0x040 2 = .ok → u.service src = true →
      exec (.degAck src n) s = .next (u.putB (F.SAFE_DEG_STAT_EXPIRED n) false).done))
  ∧ (∀ (s : State) (src : Src), let u := s.restartUnlock src pgHLTH 0x020
    u.gate src pgHLTH 0x020 0 = .ok → u.service src = true → u.flag F.HLTH_CTRL_EN = true →
    exec (.hlthDisable src) s = .next (((u.putB F.HLTH_CTRL_EN false).condUpdate).logReg pgHLTH 0x020).done)
  ∧ (∀ (s : State) (n : Ch) (a b c : Bool),
    let u := ((s.putB (F.CONT_STAT_FB_POS n) a).putB (F.CONT_STAT_FB_NEG n) b).putB (F.CONT_STAT_FB_PRE n) c
    let v := (u.preStep n).isolatedCheck n
    exec (.fbChange n a b c) s = .next (if v.anyFb n = false ∧ v.chState n ≠ stPRECHARGE ∧ v.chState n ≠ stSTOPPING
      then v.modSafe n (fun f => { f with holdOffAt := none }) else v))
  ∧ (∀ (s : State) (n : Ch), s.chState n ≠ stLOCKOUT →
    (s.sincePulse n true < 400000 → exec (.testPulseStart n true) s = .next (s.modSafe n (fun f => { f with pulseB := true })))
    ∧ (s.sincePulse n false < 400000 → exec (.testPulseStart n false) s = .next (s.modSafe n (fun f => { f with pulseA := true })))
    ∧ (∀ (b : Bool) (h x l : BitVec 4), 400000 ≤ s.sincePulse n b → s.sincePulse n b < 1250000 → exec (.testPulse n b h x l) s = .next ([0, 1, 2, 3].foldl (fun t k => t.lineCheck n b h x l k)
      (s.modSafe n (fun f => if b then { f with pulseB := false } else { f with pulseA := false })))))
  ∧ (∀ (s : State) (n : Ch) (k : Fin 4) (b : Bool), let fld := if b then F.SAFE_SISTAT_FAULT_B n else F.SAFE_SISTAT_FAULT_A n
    let u := (s.putBit fld k.val false).logReg (pgSAFE n) 0x02C
    s.getBit fld k.val = true → s.chState n = stISOLATED ∨ s.chState n = stTRIPPED → 50 ≤ nth (s.ch n).safe.linePass (lineIx k b) →
    exec (.siLineRestore n k b) s = .next (u.setCause n 0 ([0, 1, 2, 3].any (fun x => u.getBit (F.SAFE_SICFG_EN n) x &&
      (u.getBit (F.SAFE_SISTAT_FAULT_A n) x || u.getBit (F.SAFE_SISTAT_FAULT_B n) x)))))
  ∧ (∀ (s : State) (n : Ch), s.chState n = stDERATED → 60000 * s.get (F.SAFE_DEG_TMAX n) ≤ s.degNow n →
    exec (.degradeTmax n) s =
      .next ((((s.putB (F.SAFE_DEG_STAT_EXPIRED n) true).raise (pgSAFE n) 4).logReg (pgSAFE n) 0x034).enterState n stSTOPPING 0x62))
  ∧ (∀ (s : State) (r : CremaResult), s.flag F.HLTH_CTRL_EN = true → r.bad = true →
    (r.kind = .core → exec (.cremaCheck r) s = .next ((r.chans.foldl (fun t n => t.tripC n 0x16) (s.finding none r.chans)).limp))
    ∧ (r.kind = .reference → exec (.cremaCheck r) s = .next (((s.finding (some F.HLTH_STAT_REF) r.chans).limp).limpChans r.chans))
    ∧ (r.kind = .latent → exec (.cremaCheck r) s = .next (((s.finding (some F.HLTH_STAT_LATENT) r.chans).limp).limpChans r.chans))
    ∧ (r.kind = .pourX → exec (.cremaCheck r) s = .next (s.finding (some F.HLTH_STAT_POUR_X) r.chans))
    ∧ (r.kind = .timebase → exec (.cremaCheck r) s = .next (s.finding (some F.HLTH_STAT_TIMEBASE) r.chans).timebaseFail)
    ∧ (r.kind = .supercap → exec (.cremaCheck r) s =
      .next (((s.finding (some F.HLTH_STAT_HOLDUP) r.chans).putB F.SYS_STAT_HOLDUP_OK false).limp))
    ∧ (r.kind = .sram → let wrong := allCh.filter (fun n => (s.ch n).fifo.flips.any (fun x => !correctable x.2))
      let u := s.eachCh (fun t n => t.fifoScrub n)
      let v := if wrong = [] then u else u.finding (some F.HLTH_STAT_MEMORY) wrong
      exec (.cremaCheck r) s = .next ((r.chans.foldl (fun t n => t.tripC n 0x16) (v.finding (some F.HLTH_STAT_MEMORY) r.chans)).limp)))


/-- In RUN, a synchronous task whose phase the delivered epoch meets takes, once for that epoch, the input image and
the sample instant and runs; at its deadline a finished task latches the outputs it owns, and an unfinished one
stops the program with fault 1. A free task past its watchdog stops it with fault 2; a free switch, 50 us after
the last, takes the other free task. From +900 us the output image of every tile is queued as class 1 in place
of the waiting one; a free task's output is latched and queued as class 2. A block's read or write gives the
status, and the data, of that access by user code. What the spec leaves open here is the model's reading
(assumptions 7, 41). (R284; R285; R286; R287; R288; R289; R291; R292; R296; 16_percolator.md; assumption 7;
assumption 41) -/
def Obligations.PercolatorTasks : Prop :=
  (∀ (s : State) (n : Ch) (k : Nat) (t : TaskDef), let p := (s.ch n).perc
    let b := (s.ch n).pour.deliv
    p.info.tasks[k]? = some t → s.get (F.PERC_STAT_MODE n) = 1 → t.cls = 1 → (s.ch n).pour.on = true → b.valid = true →
    b.epoch % (max 1 t.period) = t.phase → p.starts.getD k none ≠ some b.epoch →
    exec (.syncCycleStart n k) s = .next (s.modPerc n (fun p => { p with
      starts := setAt none p.starts k (some b.epoch), inputs := setAt [] p.inputs k p.image, times := setAt 0 p.times k b.smpTb, running := if k ∈ p.running then p.running else p.running ++ [k] })))
  ∧ (∀ (s : State) (n : Ch) (k : Nat) (outs : List (Nat × Nat × Bool)), let p := (s.ch n).perc
    s.get (F.PERC_STAT_MODE n) = 1 → (s.ch n).pour.on = true → k ∈ p.running → s.percDue n k = true →
    (exec (.syncDeadline n k true outs) s = .next ((s.modPerc n (fun q => { q with
      latched := (outs.filter (fun o => progOwner p.info o.1 o.2.1 == some k)).foldl (fun l o => latchSet l o.1 o.2.1 o.2.2) q.latched
      running := q.running.filter (· != k) })).taskTime n k))
    ∧ exec (.syncDeadline n k false outs) s = .next ((s.put (F.PERC_STAT_TASK n) k).percStop n 1))
  ∧ (∀ (s : State) (n : Ch) (k : Nat), s.get (F.PERC_STAT_MODE n) = 1 → progCls (s.ch n).perc.info k = 2 →
    exec (.freeWdog n k) s = .next ((s.put (F.PERC_STAT_TASK n) k).percStop n 2))
  ∧ (∀ (s : State) (n : Ch) (a b : Nat), s.get (F.PERC_STAT_MODE n) = 1 → progFree (s.ch n).perc.info = [a, b] → a ≠ b →
    (s.ch n).perc.freeAt + 50000 ≤ s.tb →
    ((s.ch n).perc.freeNow = a → exec (.freeSwitch n) s = .next ((s.modPerc n (fun p => { p with freeNow := b, freeAt := s.tb })).taskTime n a))
    ∧ ((s.ch n).perc.freeNow = b → exec (.freeSwitch n) s = .next ((s.modPerc n (fun p => { p with freeNow := a, freeAt := s.tb })).taskTime n b)))
  ∧ (∀ (s : State) (n : Ch), (s.ch n).pour.on = true → s.ringRuns n = true → s.masters n = true → s.mode ≠ mHALT → s.mode ≠ mDECAF →
    0 < s.tiles n → 900000 ≤ s.winTime.getD 0 → exec (.outputImageSend n) s = .next ((s.modRing n (fun r => { r with queue := r.queue.filter (fun f => f.cls != 1) })).queueFrame n
      (wrReg 1 0xFF 0x0050 ((List.range (s.tiles n)).map (fun k => s.outWord n (k + 1))))))
  ∧ (∀ (s : State) (n : Ch) (inst : Word) (tile out k : Nat) (on : Bool), progOwner (s.ch n).perc.info tile out = some k →
    s.get (F.PERC_STAT_MODE n) = 1 → progCls (s.ch n).perc.info k = 2 →
    let u := s.modPerc n (fun p => { p with
      latched := latchSet p.latched tile out on
      freeOut := (inst, tile, out, on) :: p.freeOut.filter (fun f => !(f.1 == inst && f.2.1 == tile && f.2.2.1 == out)) })
    (u.ringRuns n = true → u.masters n = true → tile ≤ u.tiles n → exec (.freeOutputWrite n inst tile out on) s =
      .next ((u.modRing n (fun r => { r with queue := r.queue.filter (fun f => !(f.cls == 2 && f.addr == tile)) })).queueFrame n
        (wrReg 2 tile 0x0050 [u.outWord n tile])))
    ∧ (u.ringRuns n = false ∨ u.masters n = false → exec (.freeOutputWrite n inst tile out on) s = .next (u.freeResult n tile false)))
  ∧ (∀ (s : State) (n : Ch) (sync : Bool) (a : Nat), let r := s.readAddr (.perc n sync) a
    exec (.wscRead n sync a) s = .next (r.2.1.modPerc n (fun p => { p with lastStatus := r.1, lastData := if r.1 = .ok then r.2.2 else 0 })))
  ∧ (∀ (s : State) (n : Ch) (sync : Bool) (a : Nat) (v : Word), let r := (s.enter (.perc n sync) false).writeWords (.perc n sync) [] a [(0xFFFFFFFF, v)]
    exec (.wscWrite n sync a v) s = .next (r.2.modPerc n (fun p => { p with lastStatus := r.1.status })))


/-- Where the gate accepts it: a write of the present mode changes nothing but the register; RUN where the program
may run starts it; STOP ends it; HOLD in RUN with the channel ISOLATED suspends it. A program word goes to the
staged words and a read returns one. LOAD and EXCHANGE from service, with none under way, begin the check;
RET_INIT in STOP sets the retained instances to their initial values. A checked load is installed, an exchange
waits, is installed at its cycle's end or refused with 8 after 1,000 epochs; flash and the retained copy are
written while the supply holds. What the spec leaves open here is the model's reading (assumptions 41, 42).
(R292; R293; R295; R297; R298; R299; R300; R301; R302; 16_percolator.md; assumption 41; assumption 42) -/
def Obligations.PercolatorCommands : Prop :=
  (∀ (s : State) (src : Src) (n : Ch), let v (m : Nat) : Word := putBits (s.reg (R.PERC_CTRL n)) 1 0 m
    let u := s.restartUnlock src (pgPERC n) 0x020
    let w (m : Nat) : State := u.setReg (R.PERC_CTRL n) (v m &&& 0x103)
    (u.gate src (pgPERC n) 0x020 (v 1) = .ok → u.get (F.PERC_STAT_MODE n) ≠ 1 → u.percMayRun n = true →
      exec (.percModeRun src n) s = .next ((w 1).percRun n).done)
    ∧ (u.gate src (pgPERC n) 0x020 (v 1) = .ok → u.get (F.PERC_STAT_MODE n) = 1 → exec (.percModeRun src n) s = .next (w 1).done)
    ∧ (u.gate src (pgPERC n) 0x020 (v 0) = .ok → u.get (F.PERC_STAT_MODE n) ≠ 0 →
      exec (.percModeStop src n) s = .next ((w 0).percStop n 0).done)
    ∧ (u.gate src (pgPERC n) 0x020 (v 2) = .ok → u.get (F.PERC_STAT_MODE n) = 1 → u.chState n = stISOLATED → u.enabled (pgPERC n) = true →
      exec (.percModeHold src n) s = .next (((w 2).put (F.PERC_STAT_MODE n) 2).modPerc n (fun p => { p with running := [] })).done))
  ∧ (∀ (s : State) (src : Src) (n : Ch) (v : Word), let u := s.restartUnlock src (pgPERC n) 0x030
    u.gate src (pgPERC n) 0x030 v = .ok → exec (.progDataAccess src n (some v)) s =
      .next ((u.modPerc n (fun p => { p with stage := mset p.stage (u.get (F.PERC_PROG_ADDR_WORD n)) v })).progNext n).done)
  ∧ (∀ (s : State) (src : Src) (n : Ch), s.reachable src (pgPERC n) = .ok → exec (.progDataAccess src n none) s =
    .next ((s.progNext n).doneRead (mget (s.ch n).perc.stage (s.get (F.PERC_PROG_ADDR_WORD n)))))
  ∧ (∀ (s : State) (src : Src) (n : Ch), let u := s.restartUnlock src (pgPERC n) 0x034
    let x := u.put (F.PERC_STAT_XCHG n) 1
    (u.gate src (pgPERC n) 0x034 1 = .ok → u.service src = true → u.xchgBusy n = false →
      exec (.load src n) s = .next (x.modPerc n (fun p => { p with cmdLoad := true, xsince := u.ep })).done)
    ∧ (u.gate src (pgPERC n) 0x034 2 = .ok → u.service src = true → u.xchgBusy n = false →
      exec (.exchange src n) s = .next (x.modPerc n (fun p => { p with cmdLoad := false, xsince := u.ep })).done)
    ∧ (u.gate src (pgPERC n) 0x034 4 = .ok → u.service src = true → u.get (F.PERC_STAT_MODE n) = 0 →
      exec (.retInit src n) s = .next (u.modPerc n (fun p =>
        { p with retain := (p.info.insts.filter (·.retained)).map (fun i => (i.id, i.init)) })).done))
  ∧ (∀ (s : State) (n : Ch) (info : ProgInfo), s.get (F.PERC_STAT_XCHG n) = 1 →
    (s.progRefusal n info ≠ 0 → exec (.progCheckDone n info) s = .next (s.progRefuse n (s.progRefusal n info)))
    ∧ (s.progRefusal n info = 0 → (s.ch n).perc.cmdLoad = true →
      exec (.progCheckDone n info) s = .next ((s.progInstall n info (s.ch n).perc.stage).put (F.PERC_STAT_XCHG n) 0))
    ∧ (s.progRefusal n info = 0 → (s.ch n).perc.cmdLoad = false → exec (.progCheckDone n info) s =
      .next ((s.put (F.PERC_STAT_XCHG n) 2).modPerc n (fun p => { p with staged := some info, stagedImg := p.stage, xsince := s.ep }))))
  ∧ (∀ (s : State) (n : Ch) (info : ProgInfo) (idle : Bool), (s.ch n).perc.staged = some info → s.get (F.PERC_STAT_XCHG n) = 2 →
    (0 < sdiff 48 (s.ch n).pour.deliv.epoch (s.ch n).perc.xsince → (s.ch n).perc.running = [] ∨ idle = true →
      let u := ((s.progInstall n info (s.ch n).perc.stagedImg).modPerc n (fun p => { p with staged := none, stagedImg := [] })).put
        (F.PERC_STAT_XCHG n) 3
      exec (.xdone n ⟨idle, true⟩) s = .next (((u.incSat (F.PERC_CNT_EXCHANGES n)).raise (pgPERC n) 5).logReg (pgPERC n) 0x024))
    ∧ (1000 ≤ sdiff 48 s.ep (s.ch n).perc.xsince → exec (.xdone n ⟨idle, false⟩) s =
      .next ((s.progRefuse n 8).modPerc n (fun p => { p with staged := none, stagedImg := [] }))))
  ∧ (∀ (s : State) (n : Ch), s.sup.vholdOk = true →
    ((s.ch n).perc.flashDue = true → exec (.progFlashWrite n) s =
      .next (s.modPerc n (fun p => { p with flash := some (p.info, p.img, mget p.img 2), flashDue := false })))
    ∧ (s.mode ≠ mDECAF → 100000000 ≤ s.tb - (s.ch n).perc.retAt →
      exec (.retainCopy n) s = .next ((s.retainSave n).modPerc n (fun p => { p with retAt := s.tb }))))


/-- On an enabled port that is neither MASTER nor PASSIVE, outside a restart, a Sync of a legal interval is used and
another makes the port UNCALIBRATED. Three Sync intervals without one lose the lock. A slew ends after its time
with plant time moved by it; a step acts from +500 us, is counted, raises its source and records the jump.
Announcements of the domain and path delays are kept and the port states decided anew; a transparent clock
forwards with the corrected field; a master port sends a Sync and its Follow_Up. A legal control write restarts
both ports. What the spec leaves open here is the model's reading (assumptions 25, 52). (R14; R304; R306; R307;
R308; R309; R310; 17_plant_time_and_can.md; assumption 25; assumption 52) -/
def Obligations.PlantTimeCommands : Prop :=
  (∀ (s : State) (m : SyncMsg), let st := s.get (ptpState m.portB)
    s.ptpOn m.portB = true → st ≠ psMASTER → st ≠ psPASSIVE → s.sup.restarting = false →
    (-4 ≤ m.logInt → m.logInt ≤ 1 → exec (.ptpSync m) s = .next (s.ptpUse m))
    ∧ (m.logInt < -4 ∨ 1 < m.logInt → st ≠ psSLAVE → exec (.ptpSync m) s = .next (s.put (ptpState m.portB) psUNCALIBRATED)))
  ∧ (∀ s : State, s.locked = true → s.clock.syncLimit ≤ s.tb - s.clock.lastSync →
    let u := (s.putB F.PTP_STAT_LOCKED false).putB F.PTP_STAT_HOLDOVER true
    exec .ptpSyncTimeout s = .next ((({ u with clock := { u.clock with lossAt := some u.tb, good := 0, bad := 0, firstOff := none
                                                                       acted := false } } : State).incSat F.PTP_CNT_LOSSES).raise pgPTP 3))
  ∧ (∀ (s : State) (d : Int), s.clock.slewBy = some d → d.natAbs * 10000 ≤ s.tb - s.clock.slewAt →
    let u : State := { s with clock := { s.clock with plant := s.clock.shift d, slewBy := none } }
    exec .slewEnd s = .next ((u.putB F.PTP_STAT_SLEWING false).ptpLock (u.get F.PTP_STAT_STATE_B == psSLAVE)))
  ∧ (∀ (s : State) (d : Int), s.clock.stepBy = some d → 500000 ≤ s.inEpoch →
    let u : State := { s with clock := { s.clock with plant := s.clock.shift d, stepBy := none } }
    exec .step s = .next (((u.incSat F.PTP_CNT_STEPS).raise pgPTP 4).epochJump s.ep (nextSample u.clock.plant)))
  ∧ (∀ (s : State) (ns : Int), s.ptpOn false = true →
    exec (.ptpPathDelay false ns) s = .next (({ s with clock := { s.clock with pathA := some ns } } : State).ptpLock false))
  ∧ (∀ (s : State) (ns : Int), s.ptpOn true = true →
    exec (.ptpPathDelay true ns) s = .next (({ s with clock := { s.clock with pathB := some ns } } : State).ptpLock true))
  ∧ (∀ (s : State) (m : AnnounceMsg), s.ptpOn m.portB = true → m.domain = s.get F.PTP_CTRL_DOMAIN →
    exec (.ptpAnnounce m) s = .next ({ s with clock := if m.portB then { s.clock with bestB := bestNext s.clock.bestB m }
      else { s.clock with bestA := bestNext s.clock.bestA m } } : State).ptpDecide)
  ∧ (∀ s : State, s.get F.PTP_CTRL_ROLE = 1 → exec .ptpMasterSync s = .next ([false, true].foldl (fun t b =>
    if t.get (ptpState b) = psMASTER then (t.emit (.ptpSync b false)).emit (.ptpSync b true) else t) s.ptpDecide))
  ∧ (∀ (s : State) (m : FwdMsg), s.flag F.PTP_CTRL_TC = true → s.ptpOn false = true → s.ptpOn true = true →
    exec (.ptpForward m) s = .next (s.emit (.ptpForward m.fromB (m.correction + m.residence + m.linkDelay))))
  ∧ (∀ (s : State) (src : Src) (v : Word), let u := s.restartUnlock src pgPTP 0x020
    u.gate src pgPTP 0x020 v = .ok → bitsOf v 31 24 ≤ 127 → bitsOf v 7 6 ≤ 1 → bitsOf v 5 4 ≤ 1 → (bit v 3 = true → bitsOf v 7 6 = 1) →
    exec (.ptpCtrlWrite src v) s = .next ((u.setReg R.PTP_CTRL (v &&& 0xFFFFFFFE)).ptpRestart).done)


/-- Where the gate accepts it: a request of unreserved buffers with good content makes those not being sent PENDING,
a cancel makes PENDING ones CANCELLED and marks the one being sent, RECOVER in bus-off begins recovery. On a
live controller that is not listening and has no frame out, the next buffer becomes ACTIVE with its stamp. A
sent frame leaves and becomes SENT, a failed one PENDING again, an error adds 8 to the transmit counter; past
255 it is bus-off; recovery clears the counters. An enabled controller joins the bus. A due status frame is
queued. What the spec leaves open here is the model's reading (assumption 53). (R315; R316; R317; R318; R321;
R394; 17_plant_time_and_can.md; assumption 53) -/
def Obligations.CanTransmission : Prop :=
  (∀ (s : State) (src : Src) (m : BitVec 3), let v := BitVec.ofNat 32 m.toNat
    let u := s.restartUnlock src pgCAN 0x030
    u.gate src pgCAN 0x030 v = .ok → (bufs m.toNat).any u.txReserved = false → (bufs m.toNat).any u.txBad = false →
    exec (.canTxReq src m) s = .next ((bufs m.toNat).foldl (fun t k => if t.txState k = 2 then t else t.setTx k 1) u).done)
  ∧ (∀ (s : State) (src : Src) (m : BitVec 3), let v := BitVec.ofNat 32 (m.toNat * 16)
    let u := s.restartUnlock src pgCAN 0x030
    u.gate src pgCAN 0x030 v = .ok → (bufs m.toNat).any u.txReserved = false →
    exec (.canTxCancel src m) s = .next ((bufs m.toNat).foldl (fun t k => if t.txState k = 1 then t.setTx k 4
      else if t.txState k = 2 then t.putBit F.CAN_TXSTAT_CFAIL k true else t) u).done)
  ∧ (∀ (s : State) (k : Nat), s.canLive = true → s.flag F.CAN_CTRL_LISTEN = false → s.can.active = none → s.get F.CAN_ERR_TEC ≤ 255 →
    s.nextTx = some k → let u := (s.setTx k 2).stamp k
    exec .canTxArbitration s = .next { u with can := { u.can with active := some k } })
  ∧ (∀ (s : State) (k : Nat), s.can.active = some k →
    let u := (s.emit (.can (s.txFrame k))).setTx k 3
    let x : State := { u with can := { u.can with active := none } }
    let y := (x.put F.CAN_ERR_TEC (x.get F.CAN_ERR_TEC - 1)).errJudge
    let z : State := { (s.setTx k 1) with can := { (s.setTx k 1).can with active := none } }
    exec .canTxComplete s = .next (if k = 2 ∧ y.can.nextStatus ∧ y.flag F.CAN_CTRL_STATUS_EN then y.statusQueue else y)
    ∧ exec (.canTxError .lostArbitration) s = .next z
    ∧ exec (.canTxError .error) s = .next (z.put F.CAN_ERR_TEC (min 511 (z.get F.CAN_ERR_TEC + 8))).errJudge)
  ∧ (∀ s : State, s.get F.CAN_ERR_STATE < 2 → 255 < s.get F.CAN_ERR_TEC →
    exec .canBusOff s = .next ((s.put F.CAN_ERR_STATE (if s.flag F.CAN_CTRL_ABO then 3 else 2)).raise pgCAN 5))
  ∧ (∀ (s : State) (src : Src), let u := s.restartUnlock src pgCAN 0x024
    u.gate src pgCAN 0x024 1 = .ok → u.get F.CAN_ERR_STATE = 2 →
    exec (.recover src) s = .next ((u.put F.CAN_ERR_STATE 3).raise pgCAN 5).done)
  ∧ (∀ s : State, s.get F.CAN_ERR_STATE = 3 → exec .canRecoveryDone s = .next (((s.put F.CAN_ERR_TEC 0).put F.CAN_ERR_REC 0).errState 0))
  ∧ (∀ s : State, s.enabled pgCAN = true → exec .canBusJoin s = .next { s with can := { s.can with onBus := true } })
  ∧ (∀ s : State, s.flag F.CAN_CTRL_STATUS_EN = true →
    (statusKey s.statusBytes ≠ statusKey s.can.last ∨ 1000000000 ≤ s.tb - s.can.lastAt) →
    (s.txState 2 = 2 → exec .canStatusFrame s = .next { s with can := { s.can with nextStatus := true } })
    ∧ (s.txState 2 ≠ 2 → exec .canStatusFrame s = .next s.statusQueue))


/-- On a live controller a received frame lowers the receive counter and joins the FIFO with plant time; at 64 held
frames it is counted as lost instead, which the next stored frame marks. A receive error raises the counter. A
reader that may reach CAN locks the window with the first word of the oldest frame when no lock is held; its
read of the last word returns it, removes the frame and ends the lock. A lock of 100 ms ends with LOCK_TMO. What
the spec leaves open here is the model's reading (assumption 53). (R313; R318; R319; R320;
17_plant_time_and_can.md; assumption 53) -/
def Obligations.CanReception : Prop :=
  (∀ (s : State) (f : CanFrame), s.canLive = true →
    let u := s.recDown
    (u.can.rx.length < 64 → exec (.canRxFrame f) s =
      .next (({ u with can := { u.can with rx := u.can.rx ++ [(f, u.clock.plant, u.can.lost)], lost := false } } : State).rxShow))
    ∧ (64 ≤ u.can.rx.length → exec (.canRxFrame f) s =
      .next (({ (u.incSat F.CAN_RXSTAT_OVF) with can := { u.can with lost := true } } : State).raise pgCAN 4)))
  ∧ (∀ s : State, s.canLive = true → exec .canRxError s = .next (s.incSat F.CAN_ERR_REC).errJudge)
  ∧ (∀ (s : State) (src : Src) (e : CanFrame × Nat × Bool) (l : List (CanFrame × Nat × Bool)), s.reachable src pgCAN = .ok →
    s.can.rx = e :: l →
    (s.can.lock = none → exec (.canRxLock src) s =
      .next (((s.modCan (fun c => { c with lock := some (src, s.tb) })).rxShow).doneRead (rxWord e 0)))
    ∧ (∀ t, s.can.lock = some (src, t) → exec (.canRxRelease src) s =
      .next (((s.modCan (fun c => { c with rx := l, lock := none })).rxShow).doneRead (rxWord e 19))))
  ∧ (∀ (s : State) (src : Src) (t : Nat), s.can.lock = some (src, t) → 100000000 ≤ s.tb - t →
    exec .lockTmo s = .next (((s.modCan (fun c => { c with lock := none })).rxShow).putB F.CAN_RXSTAT_LOCK_TMO true))


/-- A configured module outside the HALT of a time-base fault sends its heartbeat; a good one is taken, a bad
message is counted, one missing for an epoch is counted. A TRIP notice trips a channel that this module owns; a
RELEASE notice lets it claim; a RESTART notice is dated. The owner of a twin channel mirrors in every hundredth
epoch while the link is up, and to a joining partner at once. A standby stores segments and applies a complete
record; one incomplete after 100 ms is counted. Three missed heartbeats with a claim still held take the link
down. What the spec leaves open here is the model's reading (assumptions 36, 38, 39). (R44; R89; R110; R329;
R330; R331; R332; R333; R334; R341; R370; 18_twin_operation.md) -/
def Obligations.TwinMessages : Prop :=
  (∀ s : State, s.twinConf = true → ¬ (s.mode = mHALT ∧ s.sup.haltCause = 4) → exec .heartbeatSend s = .next (s.emit (.twin 1 (s.ep % 2 ^ 32)
    ([s.mode, s.twin.side, b2n s.twin.ready, s.clock.tb, s.twin.lastHb] ++ allCh.flatMap s.hbChan))))
  ∧ (∀ (s : State) (m : HbMsg), (m.ok = false → exec (.heartbeat m) s = .next (s.incSat F.TWIN_CNT_BAD))
    ∧ (m.ok = true →
      let u := (s.modPair (fun p => { p with
        lastHb := s.tb, missed := 0, everHb := true, pside := some m.side
        offs := (p.offs ++ [m.offset]).drop (p.offs.length + 1 - 8) })).setLink true
      let v := if s.twin.everHb && !s.flag F.TWIN_STAT_LINK then u.emit (.twin 5 (u.ep % 2 ^ 32) []) else u
      let w := (v.put F.TWIN_STAT_PMODE m.mode).putB F.TWIN_STAT_CFG_ERR (v.twinConf && m.side == v.twin.side)
      let x := (w.setReg R.TWIN_OFFSET (intWord (clampI (-2147483647) 2147483647 m.offset))).alignShow
      let y := if m.ready && !x.flag F.TWIN_STAT_READY then (x.raise pgTWIN 5).eachCh (fun t n =>
        if t.owns n ∧ t.flag (F.CONT_STAT_BRIDGE_ON n) then t.setBridge n false else t) else x
      exec (.heartbeat m) s = .next (((List.zip allCh m.chans).foldl (fun t x =>
        t.hbApply x.1 x.2 (s.twin.everHb && s.get F.TWIN_STAT_PMODE != mBOOT))
        (y.putB F.TWIN_STAT_READY m.ready)).eachCh (fun t n => t.bridgeDown n))))
  ∧ (∀ s : State, s.twinConf = true → s.twin.everHb = true → 1000000 ≤ s.tb - max s.twin.lastHb s.twin.missAt →
    exec .heartbeatMissed s = .next ((s.modPair (fun p => { p with missed := p.missed + 1, missAt := s.tb })).incSat F.TWIN_CNT_MISSED))
  ∧ (∀ s : State, s.flag F.TWIN_STAT_LINK = true → 3 ≤ s.twin.missed → s.partnerClaims = true →
    exec .link s = .next (s.linkDown.logReg pgTWIN 0x028))
  ∧ (∀ (s : State) (n : Ch) (cause path : Nat), s.twinCh n = true →
    let u := s.modTwin n (fun w => { w with pTripAt := some s.tb })
    exec (.noticeTrip n.val cause path) s = .next (if u.owns n then u.trip n cause path 0 else u))
  ∧ (∀ (s : State) (n : Ch), s.twinCh n = true → exec (.noticeRelease n.val) s =
    .next (s.modTwin n (fun w => { w with releaseAt := some s.tb, pOwned := false, toClaim := true })))
  ∧ (∀ s : State, exec (.noticeRestart 0xFF) s = .next (s.modPair (fun p => { p with restartAt := some s.tb })))
  ∧ (∀ (s : State) (n : Ch), s.twinCh n = true → s.owns n = true → s.flag F.TWIN_STAT_LINK = true → s.ep % 100 = 50 →
    exec (.mirrorSend n) s = .next (s.emit (.twin 3 (s.ep % 2 ^ 32) (s.mirrorRecord n))))
  ∧ (∀ s : State, exec .resync s = .next (s.eachCh (fun t n => if t.twinCh n && t.owns n then t.emit (.twin 3 (t.ep % 2 ^ 32) (t.mirrorRecord n)) else t)))
  ∧ (∀ (s : State) (m : MirrorSeg), m.ok = true → s.twinCh m.ch = true → (s.ch m.ch).twin.standby = true →
    let l := (s.ch m.ch).twin.segs.filter (fun x => x.index != m.index) ++ [m]
    exec (.mirror m) s = .next (if (List.range m.total).all (fun k => l.any (fun x => x.index == k)) then s.mirrorStore m.ch l
      else s.modTwin m.ch (fun w => { w with segs := l, segAt := if w.segs = [] then s.tb else w.segAt })))
  ∧ (∀ (s : State) (n : Ch), (s.ch n).twin.segs ≠ [] → 100000000 ≤ s.tb - (s.ch n).twin.segAt →
    exec (.mirrorFail n) s = .next ((s.modTwin n (fun w => { w with segs := [] })).incSat F.TWIN_CNT_MIRROR_FAIL))
  ∧ (∀ s : State, exec (.ringMsg .bad) s = .next (s.incSat F.TWIN_CNT_BAD))
  ∧ (∀ (s : State) (n : Ch) (l : List Byte), s.twinCh n = true → exec (.ringMsg (.block n l)) s = .next (s.dataBlock n l))
  ∧ (∀ (s : State) (n : Ch) (p : Bool), s.twinCh n = true → exec (.ringMsg (.presence n p)) s =
    .next ((if s.flag (F.RING_CTRL_END n) then s else s.putB (F.CH_CONN_RING_B_REMOTE n) true).connSet n (s.remoteConn n) p))


/-- A changed OWNER_IN level is noted, a rival withdrawing a claim under watch. A claim due, with no rival for 100
us on a carrying module, is driven; after 500 us it is held. A lost partner is recorded, with the loss of a
valve wired to it, and, where it owned the channel, this module takes over; a channel it did not own is claimed.
After two good epochs a takeover enables the PWM. 12 V across the BRIDGE in its conditions closes it. A standby
with full mirrors and 1,000 matching epochs becomes ready. An accepted HANDOVER of owned, ISOLATED channels to a
ready partner releases them. What the spec leaves open here is the model's reading (assumptions 37, 38, 40).
(R326; R328; R335; R336; R338; R341; R342; 18_twin_operation.md; assumption 37; assumption 38; assumption 40) -/
def Obligations.TwinOwnership : Prop :=
  (∀ (s : State) (n : Ch), s.twinCh n = true →
    ((s.ch n).twin.claimIn = true → exec (.ownerInChange n false) s =
      .next (s.modTwin n (fun w => { w with claimIn := false, claimInAt := s.tb })))
    ∧ ((s.ch n).twin.claimIn = false → (s.ch n).twin.claimOut = true → (s.ch n).twin.held = true → exec (.ownerInChange n true) s =
      .next (s.modTwin n (fun w => { w with claimIn := true, claimInAt := s.tb })))
    ∧ ((s.ch n).twin.claimIn = false → (s.ch n).twin.claimOut = false → s.carries = true → exec (.ownerInChange n true) s =
      .next ((s.modTwin n (fun w => { w with claimIn := true, claimInAt := s.tb })).modTwin n (fun w =>
        { w with standby := true, pOwned := true, toClaim := false }))))
  ∧ (∀ (s : State) (n : Ch), let w := (s.ch n).twin
    s.twinCh n = true → s.chState n ≠ stLOCKOUT → w.toClaim = true → w.claimIn = false → w.claimOut = false → 100000 ≤ s.tb - w.claimInAt → s.carries = true →
    let a := (s.modTwin n (fun w => { w with
      claimOut := true, held := s.twin.side == 0, claimAt := s.tb, toClaim := false, standby := false, pOwned := false })).putBit
      F.TWIN_STAT_OWN n.val true
    let b := (a.putB (F.RING_STAT_MASTER_B n) (a.flag (F.RING_CTRL_END n))).putB (F.RING_STAT_RELAY n) false
    (w.taking = false → let c := b.putB (F.CONT_STAT_TRIP_ON n) (b.chState n != stTRIPPED && b.chState n != stLOCKOUT)
      exec (.claimStart n) s = .next (if c.ringRuns n then c else (c.ringStart n).percTake n))
    ∧ (w.taking = true → b.ringRuns n = false → exec (.claimStart n) s = .next ((b.ringStart n).percTake n)))
  ∧ (∀ (s : State) (n : Ch), (s.ch n).twin.claimOut = true → 500000 ≤ s.tb - (s.ch n).twin.claimAt →
    exec (.claimWatchEnd n) s = .next (s.modTwin n (fun w => { w with held := true })))
  ∧ (∀ (s : State) (n : Ch), s.twinCh n = true → s.carries = true → s.claimGone n = true → s.hbGone = false →
    (s.partnerDown && s.flag F.TWIN_STAT_LINK) = false →
    let u := if s.getBit F.TWIN_STAT_LOST n.val then s else ((s.putBit F.TWIN_STAT_LOST n.val true).raise pgTWIN 3).valveLost n
    (u.hbGone = false → u.owns n = false → (u.ch n).twin.claimOut = false → (u.ch n).twin.pOwned = true →
      exec (.lost n) s = .next (u.takeover n)))
  ∧ (∀ (s : State) (n : Ch), s.twinCh n = true → s.carries = true → (s.partnerDown && s.flag F.TWIN_STAT_LINK) = true →
    let u := if s.getBit F.TWIN_STAT_LOST n.val then s else ((s.putBit F.TWIN_STAT_LOST n.val true).raise pgTWIN 3).valveLost n
    (u.hbGone = false → u.owns n = false → (u.ch n).twin.claimOut = false →
      exec (.lost n) s = .next (u.modTwin n (fun w => { w with toClaim := true, standby := false, pOwned := false }))))
  ∧ (∀ (s : State) (n : Ch), (s.ch n).twin.taking = true → (s.ch n).twin.claimOut = true → 2 ≤ (s.ch n).twin.takeN →
    exec (.takeoverEnable n) s = .next ((s.modTwin n (fun w => { w with taking := false })).modProf n (fun p => { p with curOn := false })))
  ∧ (∀ (s : State) (n : Ch), s.twinCh n = true → s.flag (F.CONT_STAT_TRIP_ON n) = true → s.flag (F.CONT_STAT_HOLD_POS n) = true →
    s.testWindow n = false → (s.ch n).twin.pTripAt = none → s.twin.everHb = true → s.flag F.TWIN_STAT_LINK = true →
    s.tb - s.twin.lastHb ≤ 3100000 → exec (.bridgeClose n) s = .next (s.setBridge n true))
  ∧ (∀ s : State, let l := allCh.filter (fun n => s.twinCh n && (s.ch n).twin.standby)
    l ≠ [] → l.all (fun n => (s.ch n).twin.full && decide (1000 ≤ (s.ch n).twin.sniffGood)) = true →
    exec .ready s = .next (l.foldl (fun t n => t.putB (F.CONT_STAT_TRIP_ON n) (t.chState n != stTRIPPED && t.chState n != stLOCKOUT))
      (s.modPair (fun p => { p with ready := true }))))
  ∧ (∀ (s : State) (src : Src) (v : Word), let u := s.restartUnlock src pgTWIN 0x030
    let l := allCh.filter (fun n => bit v n.val)
    u.gate src pgTWIN 0x030 v = .ok → l.all (fun n => u.owns n && u.chState n == stISOLATED && u.flag F.TWIN_STAT_READY) = true →
    exec (.handover src v) s = .next (l.foldl (fun t n =>
      ((t.emit (.twin 2 (t.ep % 2 ^ 32) [2, n.val, 0, 0])).dropClaim n).modTwin n (fun w => { w with standby := true })) u).done)


/-- A granted staging write with service privilege outside VERIFYING, ARMED and TRIAL stores its word in the
inactive slot, marks it invalid and shows STAGING. VERIFY starts the check; its end shows VERIFIED with the slot
valid, or FAILED with VERR. ARM of an unlocked VERIFIED bundle for a time not due arms it, CANCEL undoes it, and
at the due time the module activates in STANDBY, RUN or LIMP, else returns to VERIFIED. ACCEPT is noted; CONFIRM
in its conditions sets CONFIRMED, IDLE, the floor and the revocations. A window that ends unconfirmed falls
back; the restart ends. What the spec leaves open here is the model's reading (assumptions 6, 64, 65). (R365;
R366; R367; R368; R371; R372; Table 21.2; Table 21.6; 21_update_test_access_and_secrets.md; assumption 6;
assumption 64; assumption 65) -/
def Obligations.UpdateCommands : Prop :=
  (∀ (s : State) (src : Src) (k : Fin 128) (v : Word), let u := s.restartUnlock src pgUPD (0x200 + 4 * k.val)
    u.gate src pgUPD (0x200 + 4 * k.val) v = .ok → u.service src = true →
    ¬ (u.get F.UPD_STAT_STATE = 2 ∨ u.get F.UPD_STAT_STATE = 4 ∨ u.get F.UPD_STAT_STATE = 5) →
    let x := { u.inactive with mem := mset u.inactive.mem ((u.reg R.UPD_STAGE_OFF).toNat / 4 + k.val) v, valid := false }
    exec (.stageWrite src k v) s = .next ((((u.setInactive x).put F.UPD_STAT_STATE 1).verShow).done))
  ∧ (∀ (s : State) (src : Src), let u := s.restartUnlock src pgUPD 0x024
    (u.gate src pgUPD 0x024 1 = .ok → u.service src = true →
      u.get F.UPD_STAT_STATE = 1 ∨ u.get F.UPD_STAT_STATE = 3 ∨ u.get F.UPD_STAT_STATE = 6 →
      exec (.verify src) s = .next (u.put F.UPD_STAT_STATE 2).done)
    ∧ (u.gate src pgUPD 0x024 2 = .ok → u.unlocked src pgUPD = true → u.get F.UPD_STAT_STATE = 3 → sdiff 48 u.plantS u.actTime < 0 →
      exec (.updArm src) s = .next ((u.put F.UPD_STAT_STATE 4).modUpd (fun p => { p with actAt := some u.actTime })).done)
    ∧ (u.gate src pgUPD 0x024 4 = .ok → u.get F.UPD_STAT_STATE = 4 → u.actDue = false →
      exec (.cancel src) s = .next ((u.put F.UPD_STAT_STATE 3).modUpd (fun p => { p with actAt := none })).done)
    ∧ (u.gate src pgUPD 0x024 8 = .ok → u.get F.UPD_STAT_STATE = 5 →
      exec (.accept src) s = .next (u.modUpd (fun p => { p with accepted := true })).done))
  ∧ (∀ s : State, s.get F.UPD_STAT_STATE = 2 →
    let x := s.inactive
    let e := s.verifyErr x
    let y : Slot := { x with valid := true, version := x.field 12 2, floor := x.field 14 2, revoke := x.field 25 1 % 16 }
    exec .verifyDone s = .next (if e = 0 then
      ((((s.put F.UPD_STAT_VERR e).setInactive y).put F.UPD_STAT_STATE 3).verShow).raise pgUPD 2
    else ((((s.put F.UPD_STAT_VERR e).setInactive { x with valid := false }).put F.UPD_STAT_STATE 6).verShow).raise pgUPD 3))
  ∧ (∀ s : State, s.get F.UPD_STAT_STATE = 4 → s.actDue = true → s.actHeld = false →
    exec .activated s = .next (if s.carries ∧ s.sup.holdupAt.isNone then s.activate
      else ((s.put F.UPD_STAT_STATE 3).modUpd (fun u => { u with actAt := none })).logReg pgUPD 0x028))
  ∧ (∀ s : State, (s.restartUnlock .unit pgUPD 0x024).gate .unit pgUPD 0x024 16 = .ok →
    let u := s.restartUnlock .unit pgUPD 0x024
    let x := if u.flag F.UPD_STAT_ACTIVE then u.upd.slotB else u.upd.slotA
    u.get F.UPD_STAT_STATE = 5 → u.mayConfirm = true →
    let a := (u.putB F.UPD_STAT_CONFIRMED true).put F.UPD_STAT_STATE 0
    let b := a.put F.SEC_STAT_FLOOR (max (a.get F.SEC_STAT_FLOOR) x.floor)
    exec .confirm s = .next ((b.put F.SEC_STAT_REVOKED (b.get F.SEC_STAT_REVOKED ||| x.revoke)).raise pgUPD 5).done)
  ∧ (∀ s : State, s.get F.UPD_STAT_STATE = 5 → 1000 * s.upd.trialLen * 1000000 ≤ s.tb - s.upd.trialAt →
    exec .fallback s = .next s.fallBack.hitless.imageSwitch)
  ∧ (∀ s : State, s.sup.restarting = true →
    let a := s.evt.defer.foldl (fun t r => (t.stage r).1)
      ((s.modSup (fun p => { p with restarting := false })).modEvt (fun e => { e with defer := [] }))
    exec .supervisorRestartDone s = .next { a.pmcReset pgPMCS with alloc := { a.alloc with cmdAt := a.tb } })


/-- COMMIT is refused with RANGE unless the certificate has the identity key and chains to a staged anchor;
otherwise it stores the certificate and anchors, shows the anchors and becomes PROVISIONED. DEPROVISION zeroises
the secrets without the TAP; TEST.UNLOCK outside hold-up and an opened cover zeroise them with it. After
zeroisation, with the cover closed and the TAP disabled, a new identity key makes the module UNPROVISIONED. With
the TAP enabled, a restricted instruction loads while RESTRICT_OK, else BYPASS is selected and REFUSED set;
IDCODE and SAMPLE load; other opcodes select BYPASS. What the spec leaves open here is the model's reading
(assumptions 6, 66, 67). (R374; R375; R376; R377; R378; Table 21.4; 21_update_test_access_and_secrets.md;
assumption 6; assumption 66; assumption 67) -/
def Obligations.SecretsAndTestAccess : Prop :=
  (∀ (s : State) (src : Src), let u := s.restartUnlock src pgSEC 0x024
    (u.gate src pgSEC 0x024 1 = .ok →
      let good := (match u.upd.key with | some k => Config.certHasKey k (u.object 1) | none => false)
        && ([2, 3, 4, 5].map u.object).any (fun a => a != [] && Config.certChains (u.object 1) a)
      let mask := b2n ((u.object 2) != []) + 2 * b2n ((u.object 3) != []) + 4 * b2n ((u.object 4) != []) + 8 * b2n ((u.object 5) != [])
      let t := ((u.modUpd (fun p => { p with cert := u.object 1, anchors := [2, 3, 4, 5].map u.object })).put F.SEC_STAT_ANCHORS mask).put
        F.SEC_STAT_PROV 1
      exec (.commit src) s = if good then .next (if u.get F.SEC_STAT_PROV ≠ 1 then t.raise pgSEC 3 else t).done
        else answer (refuse .range u))
    ∧ (u.gate src pgSEC 0x024 2 = .ok → exec (.deprovision src) s = .next (u.zeroise false).done))
  ∧ (∀ (s : State) (src : Src) (v : Word), let u := s.restartUnlock src pgTEST 0x020
    u.gate src pgTEST 0x020 v = .ok → u.sup.holdupAt = none → bit v 0 = true → exec (.unlock src v) s = .next (u.zeroise true).done)
  ∧ (∀ s : State, exec .coverOpen s = .next ((s.putB F.TEST_STAT_COVER_OPEN true).zeroise true))
  ∧ (∀ (s : State) (tap : Bool), (s.zeroise tap).upd.key = none ∧ (s.zeroise tap).sessions = [])
  ∧ (∀ s : State, let u := s.putB F.TEST_STAT_COVER_OPEN false
    u.get F.SEC_STAT_PROV = 2 → u.flag F.TEST_STAT_TAP_EN = false → u.flag F.TEST_STAT_COVER_OPEN = false →
    exec (.identityKeygen true) s = .next ((u.modUpd (fun p =>
      { p with keyGen := p.keyGen + 1, key := some (Config.genKey (p.keyGen + 1)) })).put F.SEC_STAT_PROV 0))
  ∧ (∀ (s : State) (d : Fin 3) (op : Byte), s.flag F.TEST_STAT_TAP_EN = true →
    (op.toNat = 3 ∨ op.toNat = 4 ∨ op.toNat = 5 ∨ op.toNat = 0x20 →
      (s.restrictOk = true → exec (.tapInstruction d op) s = .next (s.modUpd (fun u => { u with ir := setAt 0x01 u.ir d.val op })))
      ∧ (s.restrictOk = false → exec (.tapInstruction d op) s =
        .next ((s.modUpd (fun u => { u with ir := setAt 0x01 u.ir d.val 0xFF })).putB F.TEST_STAT_REFUSED true)))
    ∧ (op.toNat = 1 ∨ op.toNat = 2 →
      exec (.tapInstruction d op) s = .next (s.modUpd (fun u => { u with ir := setAt 0x01 u.ir d.val op })))
    ∧ (¬ (op.toNat = 3 ∨ op.toNat = 4 ∨ op.toNat = 5 ∨ op.toNat = 0x20 ∨ op.toNat = 1 ∨ op.toNat = 2) →
      exec (.tapInstruction d op) s = .next (s.modUpd (fun u => { u with ir := setAt 0x01 u.ir d.val 0xFF }))))


/-- For a source that may reach the FIFO page: while RPTR equals WPTR, a read of FIFO.DATA answers the word last
returned, leaves RPTR and WPTR unchanged and sets FIFO.STAT.UNDERRUN and IRQ_RAW.UNDERRUN (bit 2); while words
are left, the word read, as its memory error correction gives it, becomes the word last returned, which is 0
after a reset of the FIFO. READ_REPEAT of m words answers the words of m single reads one after another; from
RPTR = WPTR these are m times the word last returned, with RPTR unchanged. (R135) -/
def Obligations.FifoUnderrunRepeats : Prop :=
  (∀ (s : State) (src : Src) (n : Ch), s.reachable src (pgFIFO n) = .ok → s.rptr n = s.wptr n →
    ∃ t : State, exec (.fifoDataRead src n) s = .next (t.doneRead (s.ch n).fifo.lastWord)
      ∧ t.rptr n = s.rptr n ∧ t.wptr n = s.wptr n ∧ (t.ch n).fifo = (s.ch n).fifo
      ∧ t.flag (F.FIFO_STAT_UNDERRUN n) = true ∧ bit (t.reg (R.IRQ_RAW (pgFIFO n))) 2 = true)
  ∧ (∀ (s : State) (src : Src) (n : Ch), s.reachable src (pgFIFO n) = .ok → s.rptr n ≠ s.wptr n →
    let w := flipped ((s.ch n).fifo.flipAt (s.rptr n)) (s.fifoWord n (s.rptr n))
    ∃ t : State, exec (.fifoDataRead src n) s = .next (t.doneRead w) ∧ (t.ch n).fifo.lastWord = w)
  ∧ (∀ (s : State) (n : Ch), ((s.fifoReset n).ch n).fifo.lastWord = 0)
  ∧ (∀ (s : State) (src : Src) (n : Ch) (m : Nat), s.reachable src (pgFIFO n) = .ok →
    exec (.readRepeat src (hdr (pgFIFO n) 0x034) m) s = .next { (fifoReads n m s).1 with last := ⟨.ok, m, false, 0, (fifoReads n m s).2⟩ })
  ∧ (∀ (s : State) (n : Ch) (m : Nat), s.rptr n = s.wptr n →
    (fifoReads n m s).2 = List.replicate m (s.ch n).fifo.lastWord ∧ (fifoReads n m s).1.rptr n = s.rptr n)


/-- On the PMC pages and PMCS, for every counter of both cores and every source that may read the page: a read of
CNTL answers bits 31:0 of the counter and latches its bits 47:32; a read of CNTH answers the latch, whichever
source latched it, and changes nothing; CNTH lies 4 bytes after CNTL, and a READ of 2 words from CNTL answers
both halves of one 48-bit value. (R358) -/
def Obligations.LatchedCounterReads : Prop :=
  ∀ (s : State) (src : Src) (pg : PageRef) (c : Fin 2) (k : Fin 6), (pg = pgPMCS ∨ ∃ n : Ch, pg = pgPMC n) →
    s.pmcReadable src pg = .ok → s.reachable src pg = .ok →
    let v := ((s.pmcOf pg).get c.val k.val).val
    let t := s.modCtr pg c.val k.val (fun x => { x with latch := v / 2 ^ 32 })
    s.readReg src pg (cntlOff c.val k.val) = (.ok, t, BitVec.ofNat 32 v)
    ∧ s.readReg src pg (cntlOff c.val k.val + 4) = (.ok, s, BitVec.ofNat 32 ((s.pmcOf pg).get c.val k.val).latch)
    ∧ exec (.pmcCntlRead src pg c k) s = .next (t.doneRead (BitVec.ofNat 32 v))
    ∧ ((t.pmcOf pg).get c.val k.val).latch = v / 2 ^ 32
    ∧ exec (.read src (hdr pg (cntlOff c.val k.val)) 2) s =
      .next { t with last := ⟨.ok, 2, false, 0, [BitVec.ofNat 32 v, BitVec.ofNat 32 (v / 2 ^ 32)]⟩ }


/-- ISOLATE_ABANDON, the release of ISOLATE before 3 s have passed or the touch of another pad during the hold,
answers a next state in which every channel's part of the state and its registers are unchanged; the key
indications ACK and ISOLATE of PANEL.STAT read 0, its other bits and every other register stay, and no other
part of the state. (R47) -/
def Obligations.HoldAbandoned : Prop :=
  ∀ s : State, ∃ t : State, exec .isolateAbandon s = .next t ∧ t.chans = s.chans ∧ t.flag F.PANEL_STAT_ISOLATE = false
    ∧ t.flag F.PANEL_STAT_ACK = false ∧ sameRegs s t [R.PANEL_STAT] ∧ sameParts s t
    ∧ (∀ i, i < 32 → i ≠ F.PANEL_STAT_ISOLATE.lo → i ≠ F.PANEL_STAT_ACK.lo → bit (t.reg R.PANEL_STAT) i = bit (s.reg R.PANEL_STAT) i)


/-- A demand of an enabled safety input line answers a next state in every channel state. In LOCKOUT nothing
changes. In TRIPPED the state stays TRIPPED and the trip record and its epoch keep their values. In every other
state the channel is TRIPPED with no law running and the gate inhibited, SAFE.TRIPREC holds cause 0x06 with the
line's path and the input as parameter, SAFE.TRIPEPOCH holds the epoch, the previous state is shown and the
opening of TRIP is due from now. Whatever the state, other channels, the clock and the registers off the
channel's pages are unchanged but for the mode, the panel's lights and the sources of SYS and EVT. (R251; R269;
R258; R52; 14_protection_and_safety.md) -/
def Obligations.TripEffects : Prop :=
  ∀ (s : State) (n : Ch) (k : Fin 4) (b : Bool), s.getBit (F.SAFE_SICFG_EN n) k.val = true →
    (s.chState n = stLOCKOUT → exec (.siDemand n k b) s = .next s)
    ∧ (s.chState n = stTRIPPED → ∃ t : State, exec (.siDemand n k b) s = .next t ∧ t.chState n = stTRIPPED
      ∧ t.reg (R.SAFE_TRIPREC n) = s.reg (R.SAFE_TRIPREC n) ∧ t.reg (R.SAFE_TRIPEPOCH n) = s.reg (R.SAFE_TRIPEPOCH n)
      ∧ onlyChannel s t n)
    ∧ (s.chState n ≠ stLOCKOUT → s.chState n ≠ stTRIPPED → ∃ t : State, exec (.siDemand n k b) s = .next t
      ∧ t.tripSafe n ∧ t.flag (F.CONT_STAT_INHIBIT n) = true ∧ t.get (F.CH_STATE_PREV n) = s.chState n
      ∧ t.reg (R.SAFE_TRIPREC n) = tripWord 0x06 (if b then 2 else 1) k.val ∧ t.reg (R.SAFE_TRIPEPOCH n) = s.ep32
      ∧ (t.ch n).safe.tripAt = some s.tb ∧ onlyChannel s t n)


/-- When a source of a page other than EVT occurs, its IRQ_RAW bit is set and no other bit of IRQ_RAW changes. If
its IRQ_EN bit is 1 and it is not pending, its IRQ_PEND bit is set and one NOTIFY record of that bit with the
page's address and the epoch falls due, after those of the event recorder; otherwise IRQ_PEND keeps its value
and no NOTIFY record is made. No other register changes but the sources of EVT, and nothing beside registers,
event records and NOTIFY records. A source that occurs again counts as a new edge (assumption 15). (R74; R75;
R347; 04_host_access_and_registers.md; assumption 15) -/
def Obligations.InterruptEdges : Prop :=
  ∀ (s : State) (pg : PageRef) (b : Nat), pg.page ≠ .evt → b < 32 →
    let t := s.raise pg b
    let newly := bit (s.reg (R.IRQ_EN pg)) b && !bit (s.reg (R.IRQ_PEND pg)) b
    t.reg (R.IRQ_RAW pg) = s.reg (R.IRQ_RAW pg) ||| BitVec.ofNat 32 (2 ^ b)
    ∧ t.reg (R.IRQ_PEND pg) = (if newly then s.reg (R.IRQ_PEND pg) ||| BitVec.ofNat 32 (2 ^ b) else s.reg (R.IRQ_PEND pg))
    ∧ (newly = true → ∃ l seq, t.notifies = s.notifies ++ l ++ [⟨pageBase pg, BitVec.ofNat 32 (2 ^ b), s.ep32, seq⟩]
      ∧ l.length ≤ 2 ∧ ∀ x ∈ l, x.page = pageBase pgEVT)
    ∧ (newly = false → t.notifies = s.notifies)
    ∧ sameRegs s t (irqOf pg) ∧ sameParts s t


/-- For each of these commands on a channel, in every state: overcurrent detection and trip, demand, TRIP's opening,
the stop time-out, late feedback, precharge time-out, test pulse start, the degradation limit, a FIFO commit,
and the FIFO's MARK, REWIND, FLUSH and CLRMARK: the module goes to a next state in which every other channel's
part of the state, the clock, and every register off the channel's pages is unchanged, but for the mode, the
panel's LOCKOUT lights and the interrupt sources of SYS and EVT. (R1; R52; R132; R195; R251; R257; R258; R264;
R267; 14_protection_and_safety.md; 07_epoch_fifos.md) -/
def Obligations.ChannelEventsStayLocal : Prop :=
  ∀ (s : State) (n : Ch), let only (c : Instr) : Prop := ∃ t, exec c s = .next t ∧ onlyChannel s t n
    (∀ aux mA, only (.overcurrentDetect n aux mA)) ∧ only (.overcurrent n) ∧ (∀ k b, only (.siDemand n k b))
    ∧ only (.tripOpen n) ∧ only (.stopTmo n) ∧ only (.fbClose n) ∧ only (.preTmo n) ∧ (∀ b, only (.testPulseStart n b))
    ∧ only (.degradeTmax n) ∧ (∀ l, only (.fifoCommit ⟨n, l⟩))
    ∧ (∀ src, only (.mark src n) ∧ only (.rewind src n) ∧ only (.flush src n) ∧ only (.clrmark src n))


/-- For each of these commands in every state: an opened cover, DEPROVISION, TEST.UNLOCK, a staging write, VERIFY
and its end, CANCEL, ACCEPT, an identity key, a TAP instruction, a received CAN frame, a CAN reception error,
the FIFO lock's time-out and a snapshot's time-out: the module goes to a next state in which no channel's part
of the state and no register of a channel page changed (channels keep running). Zeroisation besides leaves the
parameter MRAM and the sequence state of every host identity. (R366; R365; R367; R374; R376; R377; R319; R24;
21_update_test_access_and_secrets.md; 17_plant_time_and_can.md) -/
def Obligations.SharedCommandsLeaveChannels : Prop :=
  ∀ s : State, let only (c : Instr) : Prop := ∃ t, exec c s = .next t ∧ sharedOnly s t
    only .coverOpen ∧ (∀ src, only (.deprovision src)) ∧ (∀ src v, only (.unlock src v))
    ∧ (∀ src k v, only (.stageWrite src k v)) ∧ (∀ src, only (.verify src)) ∧ only .verifyDone ∧ (∀ src, only (.cancel src))
    ∧ (∀ src, only (.accept src)) ∧ (∀ b, only (.identityKeygen b)) ∧ (∀ d op, only (.tapInstruction d op))
    ∧ (∀ f, only (.canRxFrame f)) ∧ only .canRxError ∧ only .lockTmo ∧ only .snapTimeout
    ∧ (∀ tap, (s.zeroise tap).mram = s.mram ∧ (s.zeroise tap).idents = s.idents)
end

