-- ==== Sys2Proof/Laws/Bits.lean ====
section
/-! SUPPORT. Reading a bit field after writing one. -/

namespace Sys2Proof.Machine
open Sys2Proof

theorem getLsbD_fieldMask (hi lo i : Nat) (hi32 : hi < 32) (hlo : lo ≤ hi) :
    (fieldMask hi lo).getLsbD i = (decide (lo ≤ i) && decide (i ≤ hi)) := by
  unfold fieldMask
  rw [← Nat.shiftLeft_eq, BitVec.getLsbD_ofNat, Nat.testBit_shiftLeft, Nat.testBit_two_pow_sub_one]
  by_cases h1 : lo ≤ i <;> by_cases h2 : i ≤ hi <;> simp [h1, h2] <;> omega

theorem bit_eq_testBit (w : Word) (i : Nat) : bit w i = w.toNat.testBit i := rfl

theorem bitsOf_testBit (w : Word) (hi lo i : Nat) :
    (bitsOf w hi lo).testBit i = (decide (i < hi + 1 - lo) && w.getLsbD (lo + i)) := by
  unfold bitsOf
  rw [Nat.testBit_mod_two_pow, ← Nat.shiftRight_eq_div_pow, Nat.testBit_shiftRight]
  rfl

theorem getLsbD_putBits (w : Word) (hi lo v i : Nat) (hi32 : hi < 32) (hlo : lo ≤ hi) :
    (putBits w hi lo v).getLsbD i =
      if lo ≤ i ∧ i ≤ hi then v.testBit (i - lo) else w.getLsbD i := by
  unfold putBits
  rw [BitVec.getLsbD_or, BitVec.getLsbD_and, BitVec.getLsbD_not, getLsbD_fieldMask _ _ _ hi32 hlo, ← Nat.shiftLeft_eq,
    BitVec.getLsbD_ofNat, Nat.testBit_shiftLeft, Nat.testBit_mod_two_pow]
  by_cases h1 : lo ≤ i <;> by_cases h2 : i ≤ hi
  · have h3 : i < 32 := by omega
    have h4 : i - lo < hi + 1 - lo := by omega
    simp [h1, h2, h3, h4]
  · have h4 : ¬ i - lo < hi + 1 - lo := by omega
    by_cases h3 : i < 32
    · simp [h1, h2, h3, h4]
    · have : w.getLsbD i = false := BitVec.getLsbD_of_ge w i (by omega)
      simp [h1, h2, h3, this]
  · by_cases h3 : i < 32
    · simp [h1, h3]
    · omega
  · by_cases h3 : i < 32
    · simp [h1, h3]
    · have : w.getLsbD i = false := BitVec.getLsbD_of_ge w i (by omega)
      simp [h1, h3, this]

/-- A field reads the value written to it, modulo its width. -/
theorem bitsOf_putBits_same (w : Word) (hi lo v : Nat) (hi32 : hi < 32) (hlo : lo ≤ hi) :
    bitsOf (putBits w hi lo v) hi lo = v % 2 ^ (hi + 1 - lo) := by
  apply Nat.eq_of_testBit_eq
  intro i
  rw [bitsOf_testBit, getLsbD_putBits _ _ _ _ _ hi32 hlo, Nat.testBit_mod_two_pow]
  by_cases h : i < hi + 1 - lo
  · have h1 : lo ≤ lo + i ∧ lo + i ≤ hi := ⟨by omega, by omega⟩
    simp [h, h1]
  · simp [h]

/-- A field keeps its value when another field of the word is written. -/
theorem bitsOf_putBits_ne (w : Word) (hi lo v h' l' : Nat) (hi32 : hi < 32) (hlo : lo ≤ hi)
    (hd : h' < lo ∨ hi < l') : bitsOf (putBits w hi lo v) h' l' = bitsOf w h' l' := by
  apply Nat.eq_of_testBit_eq
  intro i
  rw [bitsOf_testBit, bitsOf_testBit]
  by_cases h : i < h' + 1 - l'
  · have h1 : ¬ (lo ≤ l' + i ∧ l' + i ≤ hi) := by omega
    rw [getLsbD_putBits _ _ _ _ _ hi32 hlo, if_neg h1]
  · simp [h]

/-- One bit reads as its value. -/
theorem bitsOf_bit (w : Word) (i : Nat) : bitsOf w i i = (w.getLsbD i).toNat := by
  apply Nat.eq_of_testBit_eq
  intro j
  rw [bitsOf_testBit]
  cases j with
  | zero => cases h : w.getLsbD i <;> simp [h]
  | succ j => cases w.getLsbD i <;> simp [Nat.testBit_add_one]

end Sys2Proof.Machine
end

