-- ==== Sys2Proof/Laws/Mem.lean ====
section
/-! SUPPORT. The sparse memories of registers and buffers: what a read after a write gives, and that a write keeps the
canonical form. -/

namespace Sys2Proof.Machine
open Sys2Proof

@[simp] theorem sget_nil (d : Nat → Word) (a : Nat) : sget d [] a = d a := rfl

theorem sget_cons (d : Nat → Word) (k : Nat) (v : Word) (t : Mem) (a : Nat) :
    sget d ((k, v) :: t) a = if k = a then v else sget d t a := rfl

/-- An address that no entry lists reads as unlisted. -/
theorem sget_unlisted (d : Nat → Word) (m : Mem) (a : Nat) (h : ∀ p ∈ m, p.1 ≠ a) : sget d m a = d a := by
  induction m with
  | nil => rfl
  | cons p t ih =>
    obtain ⟨k, v⟩ := p
    have hk : k ≠ a := h (k, v) (by simp)
    simp only [sget_cons, hk, if_false]
    exact ih (fun q hq => h q (by simp [hq]))

/-- Dropping the entries of one address leaves every other address. -/
theorem sget_drop_ne (d : Nat → Word) (m : Mem) (a b : Nat) (h : a ≠ b) :
    sget d (m.filter (fun p => p.1 != a)) b = sget d m b := by
  induction m with
  | nil => rfl
  | cons p t ih =>
    obtain ⟨k, v⟩ := p
    by_cases hk : k = a
    · subst hk
      simp [sget_cons, h, ih]
    · have : (k != a) = true := by simpa using hk
      simp only [List.filter_cons, this, if_true, sget_cons, ih]

theorem sget_insert_same (d : Nat → Word) (m : Mem) (a : Nat) (v : Word) (h : ∀ p ∈ m, p.1 ≠ a) :
    sget d (insertMem a v m) a = v := by
  induction m with
  | nil => simp [insertMem, sget_cons]
  | cons p t ih =>
    obtain ⟨k, w⟩ := p
    have hk : k ≠ a := h (k, w) (by simp)
    unfold insertMem
    split
    · simp [sget_cons]
    · simp only [sget_cons, hk, if_false]
      exact ih (fun q hq => h q (by simp [hq]))

theorem sget_insert_ne (d : Nat → Word) (m : Mem) (a b : Nat) (v : Word) (h : a ≠ b) :
    sget d (insertMem a v m) b = sget d m b := by
  induction m with
  | nil => simp [insertMem, sget_cons, h]
  | cons p t ih =>
    obtain ⟨k, w⟩ := p
    unfold insertMem
    split
    · simp [sget_cons, h]
    · simp only [sget_cons, ih]

/-- A read after a write of the same address gives the word written. -/
theorem sget_sset_same (d : Nat → Word) (m : Mem) (a : Nat) (v : Word) : sget d (sset d m a v) a = v := by
  unfold sset
  split
  · rename_i h
    rw [sget_unlisted, h]
    intro p hp
    simpa using (List.mem_filter.mp hp).2
  · apply sget_insert_same
    intro p hp
    simpa using (List.mem_filter.mp hp).2

/-- A write leaves every other address. -/
theorem sget_sset_ne (d : Nat → Word) (m : Mem) (a b : Nat) (v : Word) (h : a ≠ b) :
    sget d (sset d m a v) b = sget d m b := by
  unfold sset
  split
  · exact sget_drop_ne d m a b h
  · simp only []
    rw [sget_insert_ne d _ a b v h, sget_drop_ne d m a b h]

theorem sget_sset (d : Nat → Word) (m : Mem) (a b : Nat) (v : Word) :
    sget d (sset d m a v) b = if b = a then v else sget d m b := by
  split
  · rename_i h; subst h; exact sget_sset_same d m b v
  · rename_i h; exact sget_sset_ne d m a b v (Ne.symm h)

/-! ## The canonical form -/

theorem Mem.wfFrom_mono (d : Nat → Word) (lo lo' : Nat) (m : Mem) (h : lo' ≤ lo)
    (hm : Mem.wfFrom d (some lo) m = true) : Mem.wfFrom d (some lo') m = true := by
  cases m with
  | nil => rfl
  | cons p t =>
    obtain ⟨k, v⟩ := p
    simp only [Mem.wfFrom, Bool.and_eq_true, decide_eq_true_eq] at hm ⊢
    exact ⟨⟨by omega, hm.1.2⟩, hm.2⟩

theorem Mem.wfFrom_none (d : Nat → Word) (lo : Nat) (m : Mem) (hm : Mem.wfFrom d (some lo) m = true) :
    Mem.wfFrom d none m = true := by
  cases m with
  | nil => rfl
  | cons p t =>
    obtain ⟨k, v⟩ := p
    simp only [Mem.wfFrom, Bool.and_eq_true, decide_eq_true_eq] at hm ⊢
    exact ⟨hm.1.2, hm.2⟩

theorem Mem.wfFrom_drop (d : Nat → Word) (a : Nat) (m : Mem) :
    ∀ lo : Option Nat, Mem.wfFrom d lo m = true → Mem.wfFrom d lo (m.filter (fun p => p.1 != a)) = true := by
  induction m with
  | nil => intro lo h; simpa using h
  | cons p t ih =>
    obtain ⟨k, v⟩ := p
    intro lo h
    by_cases hk : k = a
    · subst hk
      simp only [List.filter_cons, bne_self_eq_false, Bool.false_eq_true, if_false]
      cases lo with
      | none =>
        simp only [Mem.wfFrom, Bool.and_eq_true, decide_eq_true_eq] at h
        exact Mem.wfFrom_none d k _ (ih _ h.2)
      | some b =>
        simp only [Mem.wfFrom, Bool.and_eq_true, decide_eq_true_eq] at h
        exact Mem.wfFrom_mono d k b _ (by omega) (ih _ h.2)
    · have hb : (k != a) = true := by simpa using hk
      simp only [List.filter_cons, hb, if_true]
      cases lo with
      | none =>
        simp only [Mem.wfFrom, Bool.and_eq_true, decide_eq_true_eq] at h ⊢
        exact ⟨h.1, ih _ h.2⟩
      | some b =>
        simp only [Mem.wfFrom, Bool.and_eq_true, decide_eq_true_eq] at h ⊢
        exact ⟨h.1, ih _ h.2⟩

theorem Mem.wfFrom_insert (d : Nat → Word) (a : Nat) (v : Word) (hv : v ≠ d a) (m : Mem) :
    ∀ lo : Option Nat, (∀ b, lo = some b → b < a) → (∀ p ∈ m, p.1 ≠ a) → Mem.wfFrom d lo m = true →
      Mem.wfFrom d lo (insertMem a v m) = true := by
  induction m with
  | nil =>
    intro lo hlo _ _
    cases lo with
    | none => simp [insertMem, Mem.wfFrom, hv]
    | some b => simp [insertMem, Mem.wfFrom, hv, hlo b rfl]
  | cons p t ih =>
    obtain ⟨k, w⟩ := p
    intro lo hlo hne h
    have hka : k ≠ a := hne (k, w) (by simp)
    unfold insertMem
    split
    · rename_i hlt
      cases lo with
      | none =>
        simp only [Mem.wfFrom, Bool.and_eq_true, decide_eq_true_eq] at h ⊢
        exact ⟨hv, ⟨hlt, h.1⟩, h.2⟩
      | some b =>
        simp only [Mem.wfFrom, Bool.and_eq_true, decide_eq_true_eq] at h ⊢
        exact ⟨⟨hlo b rfl, hv⟩, ⟨hlt, h.1.2⟩, h.2⟩
    · rename_i hge
      have hlt : k < a := by omega
      have hrec := ih (some k) (by intro b hb; cases hb; exact hlt) (fun q hq => hne q (by simp [hq]))
      cases lo with
      | none =>
        simp only [Mem.wfFrom, Bool.and_eq_true, decide_eq_true_eq] at h ⊢
        exact ⟨h.1, hrec h.2⟩
      | some b =>
        simp only [Mem.wfFrom, Bool.and_eq_true, decide_eq_true_eq] at h ⊢
        exact ⟨h.1, hrec h.2⟩

/-- A write keeps the canonical form. -/
theorem Mem.wf_sset (d : Nat → Word) (m : Mem) (a : Nat) (v : Word) (h : Mem.wf d m = true) :
    Mem.wf d (sset d m a v) = true := by
  unfold sset Mem.wf
  have h1 := Mem.wfFrom_drop d a m none h
  split
  · exact h1
  · rename_i hv
    refine Mem.wfFrom_insert d a v hv _ none (by intro b hb; cases hb) ?_ h1
    intro p hp
    simpa using (List.mem_filter.mp hp).2

end Sys2Proof.Machine
end

