-- ==== Sys2Proof/Laws/State.lean ====
section
/-! SUPPORT. The state's updates field by field: what each leaves as it was (true by unfolding the update). -/

namespace Sys2Proof.Machine
open Sys2Proof

/-! ## setReg -/

@[simp] theorem pending_setReg (s : State) (a : Nat) (v : Word) : (s.setReg a v).pending = s.pending := rfl
@[simp] theorem mram_setReg (s : State) (a : Nat) (v : Word) : (s.setReg a v).mram = s.mram := rfl
@[simp] theorem chans_setReg (s : State) (a : Nat) (v : Word) : (s.setReg a v).chans = s.chans := rfl
@[simp] theorem clock_setReg (s : State) (a : Nat) (v : Word) : (s.setReg a v).clock = s.clock := rfl
@[simp] theorem sup_setReg (s : State) (a : Nat) (v : Word) : (s.setReg a v).sup = s.sup := rfl
@[simp] theorem snap_setReg (s : State) (a : Nat) (v : Word) : (s.setReg a v).snap = s.snap := rfl
@[simp] theorem sessions_setReg (s : State) (a : Nat) (v : Word) : (s.setReg a v).sessions = s.sessions := rfl
@[simp] theorem idents_setReg (s : State) (a : Nat) (v : Word) : (s.setReg a v).idents = s.idents := rfl
@[simp] theorem nextSid_setReg (s : State) (a : Nat) (v : Word) : (s.setReg a v).nextSid = s.nextSid := rfl
@[simp] theorem joined_setReg (s : State) (a : Nat) (v : Word) : (s.setReg a v).joined = s.joined := rfl
@[simp] theorem last_setReg (s : State) (a : Nat) (v : Word) : (s.setReg a v).last = s.last := rfl
@[simp] theorem notifies_setReg (s : State) (a : Nat) (v : Word) : (s.setReg a v).notifies = s.notifies := rfl
@[simp] theorem outbox_setReg (s : State) (a : Nat) (v : Word) : (s.setReg a v).outbox = s.outbox := rfl
@[simp] theorem panel_setReg (s : State) (a : Nat) (v : Word) : (s.setReg a v).panel = s.panel := rfl
@[simp] theorem therm_setReg (s : State) (a : Nat) (v : Word) : (s.setReg a v).therm = s.therm := rfl
@[simp] theorem alloc_setReg (s : State) (a : Nat) (v : Word) : (s.setReg a v).alloc = s.alloc := rfl
@[simp] theorem can_setReg (s : State) (a : Nat) (v : Word) : (s.setReg a v).can = s.can := rfl
@[simp] theorem twin_setReg (s : State) (a : Nat) (v : Word) : (s.setReg a v).twin = s.twin := rfl
@[simp] theorem evt_setReg (s : State) (a : Nat) (v : Word) : (s.setReg a v).evt = s.evt := rfl
@[simp] theorem upd_setReg (s : State) (a : Nat) (v : Word) : (s.setReg a v).upd = s.upd := rfl
@[simp] theorem pmcs_setReg (s : State) (a : Nat) (v : Word) : (s.setReg a v).pmcs = s.pmcs := rfl
@[simp] theorem free_setReg (s : State) (a : Nat) (v : Word) : (s.setReg a v).free = s.free := rfl
@[simp] theorem ch_setReg (s : State) (a : Nat) (v : Word) (k : Ch) : (s.setReg a v).ch k = s.ch k := rfl

/-! ## put -/

@[simp] theorem pending_put (s : State) (f : RF) (v : Nat) : (s.put f v).pending = s.pending := rfl
@[simp] theorem mram_put (s : State) (f : RF) (v : Nat) : (s.put f v).mram = s.mram := rfl
@[simp] theorem chans_put (s : State) (f : RF) (v : Nat) : (s.put f v).chans = s.chans := rfl
@[simp] theorem clock_put (s : State) (f : RF) (v : Nat) : (s.put f v).clock = s.clock := rfl
@[simp] theorem sup_put (s : State) (f : RF) (v : Nat) : (s.put f v).sup = s.sup := rfl
@[simp] theorem snap_put (s : State) (f : RF) (v : Nat) : (s.put f v).snap = s.snap := rfl
@[simp] theorem sessions_put (s : State) (f : RF) (v : Nat) : (s.put f v).sessions = s.sessions := rfl
@[simp] theorem idents_put (s : State) (f : RF) (v : Nat) : (s.put f v).idents = s.idents := rfl
@[simp] theorem nextSid_put (s : State) (f : RF) (v : Nat) : (s.put f v).nextSid = s.nextSid := rfl
@[simp] theorem joined_put (s : State) (f : RF) (v : Nat) : (s.put f v).joined = s.joined := rfl
@[simp] theorem last_put (s : State) (f : RF) (v : Nat) : (s.put f v).last = s.last := rfl
@[simp] theorem notifies_put (s : State) (f : RF) (v : Nat) : (s.put f v).notifies = s.notifies := rfl
@[simp] theorem outbox_put (s : State) (f : RF) (v : Nat) : (s.put f v).outbox = s.outbox := rfl
@[simp] theorem panel_put (s : State) (f : RF) (v : Nat) : (s.put f v).panel = s.panel := rfl
@[simp] theorem therm_put (s : State) (f : RF) (v : Nat) : (s.put f v).therm = s.therm := rfl
@[simp] theorem alloc_put (s : State) (f : RF) (v : Nat) : (s.put f v).alloc = s.alloc := rfl
@[simp] theorem can_put (s : State) (f : RF) (v : Nat) : (s.put f v).can = s.can := rfl
@[simp] theorem twin_put (s : State) (f : RF) (v : Nat) : (s.put f v).twin = s.twin := rfl
@[simp] theorem evt_put (s : State) (f : RF) (v : Nat) : (s.put f v).evt = s.evt := rfl
@[simp] theorem upd_put (s : State) (f : RF) (v : Nat) : (s.put f v).upd = s.upd := rfl
@[simp] theorem pmcs_put (s : State) (f : RF) (v : Nat) : (s.put f v).pmcs = s.pmcs := rfl
@[simp] theorem free_put (s : State) (f : RF) (v : Nat) : (s.put f v).free = s.free := rfl
@[simp] theorem ch_put (s : State) (f : RF) (v : Nat) (k : Ch) : (s.put f v).ch k = s.ch k := rfl

/-! ## putB -/

@[simp] theorem pending_putB (s : State) (f : RF) (b : Bool) : (s.putB f b).pending = s.pending := rfl
@[simp] theorem mram_putB (s : State) (f : RF) (b : Bool) : (s.putB f b).mram = s.mram := rfl
@[simp] theorem chans_putB (s : State) (f : RF) (b : Bool) : (s.putB f b).chans = s.chans := rfl
@[simp] theorem clock_putB (s : State) (f : RF) (b : Bool) : (s.putB f b).clock = s.clock := rfl
@[simp] theorem sup_putB (s : State) (f : RF) (b : Bool) : (s.putB f b).sup = s.sup := rfl
@[simp] theorem snap_putB (s : State) (f : RF) (b : Bool) : (s.putB f b).snap = s.snap := rfl
@[simp] theorem sessions_putB (s : State) (f : RF) (b : Bool) : (s.putB f b).sessions = s.sessions := rfl
@[simp] theorem idents_putB (s : State) (f : RF) (b : Bool) : (s.putB f b).idents = s.idents := rfl
@[simp] theorem nextSid_putB (s : State) (f : RF) (b : Bool) : (s.putB f b).nextSid = s.nextSid := rfl
@[simp] theorem joined_putB (s : State) (f : RF) (b : Bool) : (s.putB f b).joined = s.joined := rfl
@[simp] theorem last_putB (s : State) (f : RF) (b : Bool) : (s.putB f b).last = s.last := rfl
@[simp] theorem notifies_putB (s : State) (f : RF) (b : Bool) : (s.putB f b).notifies = s.notifies := rfl
@[simp] theorem outbox_putB (s : State) (f : RF) (b : Bool) : (s.putB f b).outbox = s.outbox := rfl
@[simp] theorem panel_putB (s : State) (f : RF) (b : Bool) : (s.putB f b).panel = s.panel := rfl
@[simp] theorem therm_putB (s : State) (f : RF) (b : Bool) : (s.putB f b).therm = s.therm := rfl
@[simp] theorem alloc_putB (s : State) (f : RF) (b : Bool) : (s.putB f b).alloc = s.alloc := rfl
@[simp] theorem can_putB (s : State) (f : RF) (b : Bool) : (s.putB f b).can = s.can := rfl
@[simp] theorem twin_putB (s : State) (f : RF) (b : Bool) : (s.putB f b).twin = s.twin := rfl
@[simp] theorem evt_putB (s : State) (f : RF) (b : Bool) : (s.putB f b).evt = s.evt := rfl
@[simp] theorem upd_putB (s : State) (f : RF) (b : Bool) : (s.putB f b).upd = s.upd := rfl
@[simp] theorem pmcs_putB (s : State) (f : RF) (b : Bool) : (s.putB f b).pmcs = s.pmcs := rfl
@[simp] theorem free_putB (s : State) (f : RF) (b : Bool) : (s.putB f b).free = s.free := rfl
@[simp] theorem ch_putB (s : State) (f : RF) (b : Bool) (k : Ch) : (s.putB f b).ch k = s.ch k := rfl

/-! ## putI -/

@[simp] theorem pending_putI (s : State) (f : RF) (i : Int) : (s.putI f i).pending = s.pending := rfl
@[simp] theorem mram_putI (s : State) (f : RF) (i : Int) : (s.putI f i).mram = s.mram := rfl
@[simp] theorem chans_putI (s : State) (f : RF) (i : Int) : (s.putI f i).chans = s.chans := rfl
@[simp] theorem clock_putI (s : State) (f : RF) (i : Int) : (s.putI f i).clock = s.clock := rfl
@[simp] theorem sup_putI (s : State) (f : RF) (i : Int) : (s.putI f i).sup = s.sup := rfl
@[simp] theorem snap_putI (s : State) (f : RF) (i : Int) : (s.putI f i).snap = s.snap := rfl
@[simp] theorem sessions_putI (s : State) (f : RF) (i : Int) : (s.putI f i).sessions = s.sessions := rfl
@[simp] theorem idents_putI (s : State) (f : RF) (i : Int) : (s.putI f i).idents = s.idents := rfl
@[simp] theorem nextSid_putI (s : State) (f : RF) (i : Int) : (s.putI f i).nextSid = s.nextSid := rfl
@[simp] theorem joined_putI (s : State) (f : RF) (i : Int) : (s.putI f i).joined = s.joined := rfl
@[simp] theorem last_putI (s : State) (f : RF) (i : Int) : (s.putI f i).last = s.last := rfl
@[simp] theorem notifies_putI (s : State) (f : RF) (i : Int) : (s.putI f i).notifies = s.notifies := rfl
@[simp] theorem outbox_putI (s : State) (f : RF) (i : Int) : (s.putI f i).outbox = s.outbox := rfl
@[simp] theorem panel_putI (s : State) (f : RF) (i : Int) : (s.putI f i).panel = s.panel := rfl
@[simp] theorem therm_putI (s : State) (f : RF) (i : Int) : (s.putI f i).therm = s.therm := rfl
@[simp] theorem alloc_putI (s : State) (f : RF) (i : Int) : (s.putI f i).alloc = s.alloc := rfl
@[simp] theorem can_putI (s : State) (f : RF) (i : Int) : (s.putI f i).can = s.can := rfl
@[simp] theorem twin_putI (s : State) (f : RF) (i : Int) : (s.putI f i).twin = s.twin := rfl
@[simp] theorem evt_putI (s : State) (f : RF) (i : Int) : (s.putI f i).evt = s.evt := rfl
@[simp] theorem upd_putI (s : State) (f : RF) (i : Int) : (s.putI f i).upd = s.upd := rfl
@[simp] theorem pmcs_putI (s : State) (f : RF) (i : Int) : (s.putI f i).pmcs = s.pmcs := rfl
@[simp] theorem free_putI (s : State) (f : RF) (i : Int) : (s.putI f i).free = s.free := rfl
@[simp] theorem ch_putI (s : State) (f : RF) (i : Int) (k : Ch) : (s.putI f i).ch k = s.ch k := rfl

/-! ## incSat -/

@[simp] theorem pending_incSat (s : State) (f : RF) : (s.incSat f).pending = s.pending := rfl
@[simp] theorem mram_incSat (s : State) (f : RF) : (s.incSat f).mram = s.mram := rfl
@[simp] theorem chans_incSat (s : State) (f : RF) : (s.incSat f).chans = s.chans := rfl
@[simp] theorem clock_incSat (s : State) (f : RF) : (s.incSat f).clock = s.clock := rfl
@[simp] theorem sup_incSat (s : State) (f : RF) : (s.incSat f).sup = s.sup := rfl
@[simp] theorem snap_incSat (s : State) (f : RF) : (s.incSat f).snap = s.snap := rfl
@[simp] theorem sessions_incSat (s : State) (f : RF) : (s.incSat f).sessions = s.sessions := rfl
@[simp] theorem idents_incSat (s : State) (f : RF) : (s.incSat f).idents = s.idents := rfl
@[simp] theorem nextSid_incSat (s : State) (f : RF) : (s.incSat f).nextSid = s.nextSid := rfl
@[simp] theorem joined_incSat (s : State) (f : RF) : (s.incSat f).joined = s.joined := rfl
@[simp] theorem last_incSat (s : State) (f : RF) : (s.incSat f).last = s.last := rfl
@[simp] theorem notifies_incSat (s : State) (f : RF) : (s.incSat f).notifies = s.notifies := rfl
@[simp] theorem outbox_incSat (s : State) (f : RF) : (s.incSat f).outbox = s.outbox := rfl
@[simp] theorem panel_incSat (s : State) (f : RF) : (s.incSat f).panel = s.panel := rfl
@[simp] theorem therm_incSat (s : State) (f : RF) : (s.incSat f).therm = s.therm := rfl
@[simp] theorem alloc_incSat (s : State) (f : RF) : (s.incSat f).alloc = s.alloc := rfl
@[simp] theorem can_incSat (s : State) (f : RF) : (s.incSat f).can = s.can := rfl
@[simp] theorem twin_incSat (s : State) (f : RF) : (s.incSat f).twin = s.twin := rfl
@[simp] theorem evt_incSat (s : State) (f : RF) : (s.incSat f).evt = s.evt := rfl
@[simp] theorem upd_incSat (s : State) (f : RF) : (s.incSat f).upd = s.upd := rfl
@[simp] theorem pmcs_incSat (s : State) (f : RF) : (s.incSat f).pmcs = s.pmcs := rfl
@[simp] theorem free_incSat (s : State) (f : RF) : (s.incSat f).free = s.free := rfl
@[simp] theorem ch_incSat (s : State) (f : RF) (k : Ch) : (s.incSat f).ch k = s.ch k := rfl

/-! ## putBit -/

@[simp] theorem pending_putBit (s : State) (f : RF) (i : Nat) (b : Bool) : (s.putBit f i b).pending = s.pending := rfl
@[simp] theorem mram_putBit (s : State) (f : RF) (i : Nat) (b : Bool) : (s.putBit f i b).mram = s.mram := rfl
@[simp] theorem chans_putBit (s : State) (f : RF) (i : Nat) (b : Bool) : (s.putBit f i b).chans = s.chans := rfl
@[simp] theorem clock_putBit (s : State) (f : RF) (i : Nat) (b : Bool) : (s.putBit f i b).clock = s.clock := rfl
@[simp] theorem sup_putBit (s : State) (f : RF) (i : Nat) (b : Bool) : (s.putBit f i b).sup = s.sup := rfl
@[simp] theorem snap_putBit (s : State) (f : RF) (i : Nat) (b : Bool) : (s.putBit f i b).snap = s.snap := rfl
@[simp] theorem sessions_putBit (s : State) (f : RF) (i : Nat) (b : Bool) : (s.putBit f i b).sessions = s.sessions := rfl
@[simp] theorem idents_putBit (s : State) (f : RF) (i : Nat) (b : Bool) : (s.putBit f i b).idents = s.idents := rfl
@[simp] theorem nextSid_putBit (s : State) (f : RF) (i : Nat) (b : Bool) : (s.putBit f i b).nextSid = s.nextSid := rfl
@[simp] theorem joined_putBit (s : State) (f : RF) (i : Nat) (b : Bool) : (s.putBit f i b).joined = s.joined := rfl
@[simp] theorem last_putBit (s : State) (f : RF) (i : Nat) (b : Bool) : (s.putBit f i b).last = s.last := rfl
@[simp] theorem notifies_putBit (s : State) (f : RF) (i : Nat) (b : Bool) : (s.putBit f i b).notifies = s.notifies := rfl
@[simp] theorem outbox_putBit (s : State) (f : RF) (i : Nat) (b : Bool) : (s.putBit f i b).outbox = s.outbox := rfl
@[simp] theorem panel_putBit (s : State) (f : RF) (i : Nat) (b : Bool) : (s.putBit f i b).panel = s.panel := rfl
@[simp] theorem therm_putBit (s : State) (f : RF) (i : Nat) (b : Bool) : (s.putBit f i b).therm = s.therm := rfl
@[simp] theorem alloc_putBit (s : State) (f : RF) (i : Nat) (b : Bool) : (s.putBit f i b).alloc = s.alloc := rfl
@[simp] theorem can_putBit (s : State) (f : RF) (i : Nat) (b : Bool) : (s.putBit f i b).can = s.can := rfl
@[simp] theorem twin_putBit (s : State) (f : RF) (i : Nat) (b : Bool) : (s.putBit f i b).twin = s.twin := rfl
@[simp] theorem evt_putBit (s : State) (f : RF) (i : Nat) (b : Bool) : (s.putBit f i b).evt = s.evt := rfl
@[simp] theorem upd_putBit (s : State) (f : RF) (i : Nat) (b : Bool) : (s.putBit f i b).upd = s.upd := rfl
@[simp] theorem pmcs_putBit (s : State) (f : RF) (i : Nat) (b : Bool) : (s.putBit f i b).pmcs = s.pmcs := rfl
@[simp] theorem free_putBit (s : State) (f : RF) (i : Nat) (b : Bool) : (s.putBit f i b).free = s.free := rfl
@[simp] theorem ch_putBit (s : State) (f : RF) (i : Nat) (b : Bool) (k : Ch) : (s.putBit f i b).ch k = s.ch k := rfl

/-! ## setCh -/

@[simp] theorem pending_setCh (s : State) (n : Ch) (c : Chan) : (s.setCh n c).pending = s.pending := rfl
@[simp] theorem regs_setCh (s : State) (n : Ch) (c : Chan) : (s.setCh n c).regs = s.regs := rfl
@[simp] theorem mram_setCh (s : State) (n : Ch) (c : Chan) : (s.setCh n c).mram = s.mram := rfl
@[simp] theorem dirty_setCh (s : State) (n : Ch) (c : Chan) : (s.setCh n c).dirty = s.dirty := rfl
@[simp] theorem clock_setCh (s : State) (n : Ch) (c : Chan) : (s.setCh n c).clock = s.clock := rfl
@[simp] theorem sup_setCh (s : State) (n : Ch) (c : Chan) : (s.setCh n c).sup = s.sup := rfl
@[simp] theorem snap_setCh (s : State) (n : Ch) (c : Chan) : (s.setCh n c).snap = s.snap := rfl
@[simp] theorem sessions_setCh (s : State) (n : Ch) (c : Chan) : (s.setCh n c).sessions = s.sessions := rfl
@[simp] theorem idents_setCh (s : State) (n : Ch) (c : Chan) : (s.setCh n c).idents = s.idents := rfl
@[simp] theorem nextSid_setCh (s : State) (n : Ch) (c : Chan) : (s.setCh n c).nextSid = s.nextSid := rfl
@[simp] theorem joined_setCh (s : State) (n : Ch) (c : Chan) : (s.setCh n c).joined = s.joined := rfl
@[simp] theorem last_setCh (s : State) (n : Ch) (c : Chan) : (s.setCh n c).last = s.last := rfl
@[simp] theorem notifies_setCh (s : State) (n : Ch) (c : Chan) : (s.setCh n c).notifies = s.notifies := rfl
@[simp] theorem outbox_setCh (s : State) (n : Ch) (c : Chan) : (s.setCh n c).outbox = s.outbox := rfl
@[simp] theorem panel_setCh (s : State) (n : Ch) (c : Chan) : (s.setCh n c).panel = s.panel := rfl
@[simp] theorem therm_setCh (s : State) (n : Ch) (c : Chan) : (s.setCh n c).therm = s.therm := rfl
@[simp] theorem alloc_setCh (s : State) (n : Ch) (c : Chan) : (s.setCh n c).alloc = s.alloc := rfl
@[simp] theorem can_setCh (s : State) (n : Ch) (c : Chan) : (s.setCh n c).can = s.can := rfl
@[simp] theorem twin_setCh (s : State) (n : Ch) (c : Chan) : (s.setCh n c).twin = s.twin := rfl
@[simp] theorem evt_setCh (s : State) (n : Ch) (c : Chan) : (s.setCh n c).evt = s.evt := rfl
@[simp] theorem upd_setCh (s : State) (n : Ch) (c : Chan) : (s.setCh n c).upd = s.upd := rfl
@[simp] theorem pmcs_setCh (s : State) (n : Ch) (c : Chan) : (s.setCh n c).pmcs = s.pmcs := rfl
@[simp] theorem free_setCh (s : State) (n : Ch) (c : Chan) : (s.setCh n c).free = s.free := rfl
@[simp] theorem reg_setCh (s : State) (n : Ch) (c : Chan) (a : Nat) : (s.setCh n c).reg a = s.reg a := rfl
@[simp] theorem get_setCh (s : State) (n : Ch) (c : Chan) (g : RF) : (s.setCh n c).get g = s.get g := rfl

/-! ## modCh -/

@[simp] theorem pending_modCh (s : State) (n : Ch) (f : Chan → Chan) : (s.modCh n f).pending = s.pending := rfl
@[simp] theorem regs_modCh (s : State) (n : Ch) (f : Chan → Chan) : (s.modCh n f).regs = s.regs := rfl
@[simp] theorem mram_modCh (s : State) (n : Ch) (f : Chan → Chan) : (s.modCh n f).mram = s.mram := rfl
@[simp] theorem dirty_modCh (s : State) (n : Ch) (f : Chan → Chan) : (s.modCh n f).dirty = s.dirty := rfl
@[simp] theorem clock_modCh (s : State) (n : Ch) (f : Chan → Chan) : (s.modCh n f).clock = s.clock := rfl
@[simp] theorem sup_modCh (s : State) (n : Ch) (f : Chan → Chan) : (s.modCh n f).sup = s.sup := rfl
@[simp] theorem snap_modCh (s : State) (n : Ch) (f : Chan → Chan) : (s.modCh n f).snap = s.snap := rfl
@[simp] theorem sessions_modCh (s : State) (n : Ch) (f : Chan → Chan) : (s.modCh n f).sessions = s.sessions := rfl
@[simp] theorem idents_modCh (s : State) (n : Ch) (f : Chan → Chan) : (s.modCh n f).idents = s.idents := rfl
@[simp] theorem nextSid_modCh (s : State) (n : Ch) (f : Chan → Chan) : (s.modCh n f).nextSid = s.nextSid := rfl
@[simp] theorem joined_modCh (s : State) (n : Ch) (f : Chan → Chan) : (s.modCh n f).joined = s.joined := rfl
@[simp] theorem last_modCh (s : State) (n : Ch) (f : Chan → Chan) : (s.modCh n f).last = s.last := rfl
@[simp] theorem notifies_modCh (s : State) (n : Ch) (f : Chan → Chan) : (s.modCh n f).notifies = s.notifies := rfl
@[simp] theorem outbox_modCh (s : State) (n : Ch) (f : Chan → Chan) : (s.modCh n f).outbox = s.outbox := rfl
@[simp] theorem panel_modCh (s : State) (n : Ch) (f : Chan → Chan) : (s.modCh n f).panel = s.panel := rfl
@[simp] theorem therm_modCh (s : State) (n : Ch) (f : Chan → Chan) : (s.modCh n f).therm = s.therm := rfl
@[simp] theorem alloc_modCh (s : State) (n : Ch) (f : Chan → Chan) : (s.modCh n f).alloc = s.alloc := rfl
@[simp] theorem can_modCh (s : State) (n : Ch) (f : Chan → Chan) : (s.modCh n f).can = s.can := rfl
@[simp] theorem twin_modCh (s : State) (n : Ch) (f : Chan → Chan) : (s.modCh n f).twin = s.twin := rfl
@[simp] theorem evt_modCh (s : State) (n : Ch) (f : Chan → Chan) : (s.modCh n f).evt = s.evt := rfl
@[simp] theorem upd_modCh (s : State) (n : Ch) (f : Chan → Chan) : (s.modCh n f).upd = s.upd := rfl
@[simp] theorem pmcs_modCh (s : State) (n : Ch) (f : Chan → Chan) : (s.modCh n f).pmcs = s.pmcs := rfl
@[simp] theorem free_modCh (s : State) (n : Ch) (f : Chan → Chan) : (s.modCh n f).free = s.free := rfl
@[simp] theorem reg_modCh (s : State) (n : Ch) (f : Chan → Chan) (a : Nat) : (s.modCh n f).reg a = s.reg a := rfl
@[simp] theorem get_modCh (s : State) (n : Ch) (f : Chan → Chan) (g : RF) : (s.modCh n f).get g = s.get g := rfl

/-! ## modRing -/

@[simp] theorem pending_modRing (s : State) (n : Ch) (f : RingS → RingS) : (s.modRing n f).pending = s.pending := rfl
@[simp] theorem regs_modRing (s : State) (n : Ch) (f : RingS → RingS) : (s.modRing n f).regs = s.regs := rfl
@[simp] theorem mram_modRing (s : State) (n : Ch) (f : RingS → RingS) : (s.modRing n f).mram = s.mram := rfl
@[simp] theorem dirty_modRing (s : State) (n : Ch) (f : RingS → RingS) : (s.modRing n f).dirty = s.dirty := rfl
@[simp] theorem clock_modRing (s : State) (n : Ch) (f : RingS → RingS) : (s.modRing n f).clock = s.clock := rfl
@[simp] theorem sup_modRing (s : State) (n : Ch) (f : RingS → RingS) : (s.modRing n f).sup = s.sup := rfl
@[simp] theorem snap_modRing (s : State) (n : Ch) (f : RingS → RingS) : (s.modRing n f).snap = s.snap := rfl
@[simp] theorem sessions_modRing (s : State) (n : Ch) (f : RingS → RingS) : (s.modRing n f).sessions = s.sessions := rfl
@[simp] theorem idents_modRing (s : State) (n : Ch) (f : RingS → RingS) : (s.modRing n f).idents = s.idents := rfl
@[simp] theorem nextSid_modRing (s : State) (n : Ch) (f : RingS → RingS) : (s.modRing n f).nextSid = s.nextSid := rfl
@[simp] theorem joined_modRing (s : State) (n : Ch) (f : RingS → RingS) : (s.modRing n f).joined = s.joined := rfl
@[simp] theorem last_modRing (s : State) (n : Ch) (f : RingS → RingS) : (s.modRing n f).last = s.last := rfl
@[simp] theorem notifies_modRing (s : State) (n : Ch) (f : RingS → RingS) : (s.modRing n f).notifies = s.notifies := rfl
@[simp] theorem outbox_modRing (s : State) (n : Ch) (f : RingS → RingS) : (s.modRing n f).outbox = s.outbox := rfl
@[simp] theorem panel_modRing (s : State) (n : Ch) (f : RingS → RingS) : (s.modRing n f).panel = s.panel := rfl
@[simp] theorem therm_modRing (s : State) (n : Ch) (f : RingS → RingS) : (s.modRing n f).therm = s.therm := rfl
@[simp] theorem alloc_modRing (s : State) (n : Ch) (f : RingS → RingS) : (s.modRing n f).alloc = s.alloc := rfl
@[simp] theorem can_modRing (s : State) (n : Ch) (f : RingS → RingS) : (s.modRing n f).can = s.can := rfl
@[simp] theorem twin_modRing (s : State) (n : Ch) (f : RingS → RingS) : (s.modRing n f).twin = s.twin := rfl
@[simp] theorem evt_modRing (s : State) (n : Ch) (f : RingS → RingS) : (s.modRing n f).evt = s.evt := rfl
@[simp] theorem upd_modRing (s : State) (n : Ch) (f : RingS → RingS) : (s.modRing n f).upd = s.upd := rfl
@[simp] theorem pmcs_modRing (s : State) (n : Ch) (f : RingS → RingS) : (s.modRing n f).pmcs = s.pmcs := rfl
@[simp] theorem free_modRing (s : State) (n : Ch) (f : RingS → RingS) : (s.modRing n f).free = s.free := rfl
@[simp] theorem reg_modRing (s : State) (n : Ch) (f : RingS → RingS) (a : Nat) : (s.modRing n f).reg a = s.reg a := rfl
@[simp] theorem get_modRing (s : State) (n : Ch) (f : RingS → RingS) (g : RF) : (s.modRing n f).get g = s.get g := rfl

/-! ## modPour -/

@[simp] theorem pending_modPour (s : State) (n : Ch) (f : PourS → PourS) : (s.modPour n f).pending = s.pending := rfl
@[simp] theorem regs_modPour (s : State) (n : Ch) (f : PourS → PourS) : (s.modPour n f).regs = s.regs := rfl
@[simp] theorem mram_modPour (s : State) (n : Ch) (f : PourS → PourS) : (s.modPour n f).mram = s.mram := rfl
@[simp] theorem dirty_modPour (s : State) (n : Ch) (f : PourS → PourS) : (s.modPour n f).dirty = s.dirty := rfl
@[simp] theorem clock_modPour (s : State) (n : Ch) (f : PourS → PourS) : (s.modPour n f).clock = s.clock := rfl
@[simp] theorem sup_modPour (s : State) (n : Ch) (f : PourS → PourS) : (s.modPour n f).sup = s.sup := rfl
@[simp] theorem snap_modPour (s : State) (n : Ch) (f : PourS → PourS) : (s.modPour n f).snap = s.snap := rfl
@[simp] theorem sessions_modPour (s : State) (n : Ch) (f : PourS → PourS) : (s.modPour n f).sessions = s.sessions := rfl
@[simp] theorem idents_modPour (s : State) (n : Ch) (f : PourS → PourS) : (s.modPour n f).idents = s.idents := rfl
@[simp] theorem nextSid_modPour (s : State) (n : Ch) (f : PourS → PourS) : (s.modPour n f).nextSid = s.nextSid := rfl
@[simp] theorem joined_modPour (s : State) (n : Ch) (f : PourS → PourS) : (s.modPour n f).joined = s.joined := rfl
@[simp] theorem last_modPour (s : State) (n : Ch) (f : PourS → PourS) : (s.modPour n f).last = s.last := rfl
@[simp] theorem notifies_modPour (s : State) (n : Ch) (f : PourS → PourS) : (s.modPour n f).notifies = s.notifies := rfl
@[simp] theorem outbox_modPour (s : State) (n : Ch) (f : PourS → PourS) : (s.modPour n f).outbox = s.outbox := rfl
@[simp] theorem panel_modPour (s : State) (n : Ch) (f : PourS → PourS) : (s.modPour n f).panel = s.panel := rfl
@[simp] theorem therm_modPour (s : State) (n : Ch) (f : PourS → PourS) : (s.modPour n f).therm = s.therm := rfl
@[simp] theorem alloc_modPour (s : State) (n : Ch) (f : PourS → PourS) : (s.modPour n f).alloc = s.alloc := rfl
@[simp] theorem can_modPour (s : State) (n : Ch) (f : PourS → PourS) : (s.modPour n f).can = s.can := rfl
@[simp] theorem twin_modPour (s : State) (n : Ch) (f : PourS → PourS) : (s.modPour n f).twin = s.twin := rfl
@[simp] theorem evt_modPour (s : State) (n : Ch) (f : PourS → PourS) : (s.modPour n f).evt = s.evt := rfl
@[simp] theorem upd_modPour (s : State) (n : Ch) (f : PourS → PourS) : (s.modPour n f).upd = s.upd := rfl
@[simp] theorem pmcs_modPour (s : State) (n : Ch) (f : PourS → PourS) : (s.modPour n f).pmcs = s.pmcs := rfl
@[simp] theorem free_modPour (s : State) (n : Ch) (f : PourS → PourS) : (s.modPour n f).free = s.free := rfl
@[simp] theorem reg_modPour (s : State) (n : Ch) (f : PourS → PourS) (a : Nat) : (s.modPour n f).reg a = s.reg a := rfl
@[simp] theorem get_modPour (s : State) (n : Ch) (f : PourS → PourS) (g : RF) : (s.modPour n f).get g = s.get g := rfl

/-! ## modFifo -/

@[simp] theorem pending_modFifo (s : State) (n : Ch) (f : FifoS → FifoS) : (s.modFifo n f).pending = s.pending := rfl
@[simp] theorem regs_modFifo (s : State) (n : Ch) (f : FifoS → FifoS) : (s.modFifo n f).regs = s.regs := rfl
@[simp] theorem mram_modFifo (s : State) (n : Ch) (f : FifoS → FifoS) : (s.modFifo n f).mram = s.mram := rfl
@[simp] theorem dirty_modFifo (s : State) (n : Ch) (f : FifoS → FifoS) : (s.modFifo n f).dirty = s.dirty := rfl
@[simp] theorem clock_modFifo (s : State) (n : Ch) (f : FifoS → FifoS) : (s.modFifo n f).clock = s.clock := rfl
@[simp] theorem sup_modFifo (s : State) (n : Ch) (f : FifoS → FifoS) : (s.modFifo n f).sup = s.sup := rfl
@[simp] theorem snap_modFifo (s : State) (n : Ch) (f : FifoS → FifoS) : (s.modFifo n f).snap = s.snap := rfl
@[simp] theorem sessions_modFifo (s : State) (n : Ch) (f : FifoS → FifoS) : (s.modFifo n f).sessions = s.sessions := rfl
@[simp] theorem idents_modFifo (s : State) (n : Ch) (f : FifoS → FifoS) : (s.modFifo n f).idents = s.idents := rfl
@[simp] theorem nextSid_modFifo (s : State) (n : Ch) (f : FifoS → FifoS) : (s.modFifo n f).nextSid = s.nextSid := rfl
@[simp] theorem joined_modFifo (s : State) (n : Ch) (f : FifoS → FifoS) : (s.modFifo n f).joined = s.joined := rfl
@[simp] theorem last_modFifo (s : State) (n : Ch) (f : FifoS → FifoS) : (s.modFifo n f).last = s.last := rfl
@[simp] theorem notifies_modFifo (s : State) (n : Ch) (f : FifoS → FifoS) : (s.modFifo n f).notifies = s.notifies := rfl
@[simp] theorem outbox_modFifo (s : State) (n : Ch) (f : FifoS → FifoS) : (s.modFifo n f).outbox = s.outbox := rfl
@[simp] theorem panel_modFifo (s : State) (n : Ch) (f : FifoS → FifoS) : (s.modFifo n f).panel = s.panel := rfl
@[simp] theorem therm_modFifo (s : State) (n : Ch) (f : FifoS → FifoS) : (s.modFifo n f).therm = s.therm := rfl
@[simp] theorem alloc_modFifo (s : State) (n : Ch) (f : FifoS → FifoS) : (s.modFifo n f).alloc = s.alloc := rfl
@[simp] theorem can_modFifo (s : State) (n : Ch) (f : FifoS → FifoS) : (s.modFifo n f).can = s.can := rfl
@[simp] theorem twin_modFifo (s : State) (n : Ch) (f : FifoS → FifoS) : (s.modFifo n f).twin = s.twin := rfl
@[simp] theorem evt_modFifo (s : State) (n : Ch) (f : FifoS → FifoS) : (s.modFifo n f).evt = s.evt := rfl
@[simp] theorem upd_modFifo (s : State) (n : Ch) (f : FifoS → FifoS) : (s.modFifo n f).upd = s.upd := rfl
@[simp] theorem pmcs_modFifo (s : State) (n : Ch) (f : FifoS → FifoS) : (s.modFifo n f).pmcs = s.pmcs := rfl
@[simp] theorem free_modFifo (s : State) (n : Ch) (f : FifoS → FifoS) : (s.modFifo n f).free = s.free := rfl
@[simp] theorem reg_modFifo (s : State) (n : Ch) (f : FifoS → FifoS) (a : Nat) : (s.modFifo n f).reg a = s.reg a := rfl
@[simp] theorem get_modFifo (s : State) (n : Ch) (f : FifoS → FifoS) (g : RF) : (s.modFifo n f).get g = s.get g := rfl

/-! ## modCdiag -/

@[simp] theorem pending_modCdiag (s : State) (n : Ch) (f : CdiagS → CdiagS) : (s.modCdiag n f).pending = s.pending := rfl
@[simp] theorem regs_modCdiag (s : State) (n : Ch) (f : CdiagS → CdiagS) : (s.modCdiag n f).regs = s.regs := rfl
@[simp] theorem mram_modCdiag (s : State) (n : Ch) (f : CdiagS → CdiagS) : (s.modCdiag n f).mram = s.mram := rfl
@[simp] theorem dirty_modCdiag (s : State) (n : Ch) (f : CdiagS → CdiagS) : (s.modCdiag n f).dirty = s.dirty := rfl
@[simp] theorem clock_modCdiag (s : State) (n : Ch) (f : CdiagS → CdiagS) : (s.modCdiag n f).clock = s.clock := rfl
@[simp] theorem sup_modCdiag (s : State) (n : Ch) (f : CdiagS → CdiagS) : (s.modCdiag n f).sup = s.sup := rfl
@[simp] theorem snap_modCdiag (s : State) (n : Ch) (f : CdiagS → CdiagS) : (s.modCdiag n f).snap = s.snap := rfl
@[simp] theorem sessions_modCdiag (s : State) (n : Ch) (f : CdiagS → CdiagS) : (s.modCdiag n f).sessions = s.sessions := rfl
@[simp] theorem idents_modCdiag (s : State) (n : Ch) (f : CdiagS → CdiagS) : (s.modCdiag n f).idents = s.idents := rfl
@[simp] theorem nextSid_modCdiag (s : State) (n : Ch) (f : CdiagS → CdiagS) : (s.modCdiag n f).nextSid = s.nextSid := rfl
@[simp] theorem joined_modCdiag (s : State) (n : Ch) (f : CdiagS → CdiagS) : (s.modCdiag n f).joined = s.joined := rfl
@[simp] theorem last_modCdiag (s : State) (n : Ch) (f : CdiagS → CdiagS) : (s.modCdiag n f).last = s.last := rfl
@[simp] theorem notifies_modCdiag (s : State) (n : Ch) (f : CdiagS → CdiagS) : (s.modCdiag n f).notifies = s.notifies := rfl
@[simp] theorem outbox_modCdiag (s : State) (n : Ch) (f : CdiagS → CdiagS) : (s.modCdiag n f).outbox = s.outbox := rfl
@[simp] theorem panel_modCdiag (s : State) (n : Ch) (f : CdiagS → CdiagS) : (s.modCdiag n f).panel = s.panel := rfl
@[simp] theorem therm_modCdiag (s : State) (n : Ch) (f : CdiagS → CdiagS) : (s.modCdiag n f).therm = s.therm := rfl
@[simp] theorem alloc_modCdiag (s : State) (n : Ch) (f : CdiagS → CdiagS) : (s.modCdiag n f).alloc = s.alloc := rfl
@[simp] theorem can_modCdiag (s : State) (n : Ch) (f : CdiagS → CdiagS) : (s.modCdiag n f).can = s.can := rfl
@[simp] theorem twin_modCdiag (s : State) (n : Ch) (f : CdiagS → CdiagS) : (s.modCdiag n f).twin = s.twin := rfl
@[simp] theorem evt_modCdiag (s : State) (n : Ch) (f : CdiagS → CdiagS) : (s.modCdiag n f).evt = s.evt := rfl
@[simp] theorem upd_modCdiag (s : State) (n : Ch) (f : CdiagS → CdiagS) : (s.modCdiag n f).upd = s.upd := rfl
@[simp] theorem pmcs_modCdiag (s : State) (n : Ch) (f : CdiagS → CdiagS) : (s.modCdiag n f).pmcs = s.pmcs := rfl
@[simp] theorem free_modCdiag (s : State) (n : Ch) (f : CdiagS → CdiagS) : (s.modCdiag n f).free = s.free := rfl
@[simp] theorem reg_modCdiag (s : State) (n : Ch) (f : CdiagS → CdiagS) (a : Nat) : (s.modCdiag n f).reg a = s.reg a := rfl
@[simp] theorem get_modCdiag (s : State) (n : Ch) (f : CdiagS → CdiagS) (g : RF) : (s.modCdiag n f).get g = s.get g := rfl

/-! ## modBal -/

@[simp] theorem pending_modBal (s : State) (n : Ch) (f : BalS → BalS) : (s.modBal n f).pending = s.pending := rfl
@[simp] theorem regs_modBal (s : State) (n : Ch) (f : BalS → BalS) : (s.modBal n f).regs = s.regs := rfl
@[simp] theorem mram_modBal (s : State) (n : Ch) (f : BalS → BalS) : (s.modBal n f).mram = s.mram := rfl
@[simp] theorem dirty_modBal (s : State) (n : Ch) (f : BalS → BalS) : (s.modBal n f).dirty = s.dirty := rfl
@[simp] theorem clock_modBal (s : State) (n : Ch) (f : BalS → BalS) : (s.modBal n f).clock = s.clock := rfl
@[simp] theorem sup_modBal (s : State) (n : Ch) (f : BalS → BalS) : (s.modBal n f).sup = s.sup := rfl
@[simp] theorem snap_modBal (s : State) (n : Ch) (f : BalS → BalS) : (s.modBal n f).snap = s.snap := rfl
@[simp] theorem sessions_modBal (s : State) (n : Ch) (f : BalS → BalS) : (s.modBal n f).sessions = s.sessions := rfl
@[simp] theorem idents_modBal (s : State) (n : Ch) (f : BalS → BalS) : (s.modBal n f).idents = s.idents := rfl
@[simp] theorem nextSid_modBal (s : State) (n : Ch) (f : BalS → BalS) : (s.modBal n f).nextSid = s.nextSid := rfl
@[simp] theorem joined_modBal (s : State) (n : Ch) (f : BalS → BalS) : (s.modBal n f).joined = s.joined := rfl
@[simp] theorem last_modBal (s : State) (n : Ch) (f : BalS → BalS) : (s.modBal n f).last = s.last := rfl
@[simp] theorem notifies_modBal (s : State) (n : Ch) (f : BalS → BalS) : (s.modBal n f).notifies = s.notifies := rfl
@[simp] theorem outbox_modBal (s : State) (n : Ch) (f : BalS → BalS) : (s.modBal n f).outbox = s.outbox := rfl
@[simp] theorem panel_modBal (s : State) (n : Ch) (f : BalS → BalS) : (s.modBal n f).panel = s.panel := rfl
@[simp] theorem therm_modBal (s : State) (n : Ch) (f : BalS → BalS) : (s.modBal n f).therm = s.therm := rfl
@[simp] theorem alloc_modBal (s : State) (n : Ch) (f : BalS → BalS) : (s.modBal n f).alloc = s.alloc := rfl
@[simp] theorem can_modBal (s : State) (n : Ch) (f : BalS → BalS) : (s.modBal n f).can = s.can := rfl
@[simp] theorem twin_modBal (s : State) (n : Ch) (f : BalS → BalS) : (s.modBal n f).twin = s.twin := rfl
@[simp] theorem evt_modBal (s : State) (n : Ch) (f : BalS → BalS) : (s.modBal n f).evt = s.evt := rfl
@[simp] theorem upd_modBal (s : State) (n : Ch) (f : BalS → BalS) : (s.modBal n f).upd = s.upd := rfl
@[simp] theorem pmcs_modBal (s : State) (n : Ch) (f : BalS → BalS) : (s.modBal n f).pmcs = s.pmcs := rfl
@[simp] theorem free_modBal (s : State) (n : Ch) (f : BalS → BalS) : (s.modBal n f).free = s.free := rfl
@[simp] theorem reg_modBal (s : State) (n : Ch) (f : BalS → BalS) (a : Nat) : (s.modBal n f).reg a = s.reg a := rfl
@[simp] theorem get_modBal (s : State) (n : Ch) (f : BalS → BalS) (g : RF) : (s.modBal n f).get g = s.get g := rfl

/-! ## modCtle -/

@[simp] theorem pending_modCtle (s : State) (n : Ch) (f : CtleS → CtleS) : (s.modCtle n f).pending = s.pending := rfl
@[simp] theorem regs_modCtle (s : State) (n : Ch) (f : CtleS → CtleS) : (s.modCtle n f).regs = s.regs := rfl
@[simp] theorem mram_modCtle (s : State) (n : Ch) (f : CtleS → CtleS) : (s.modCtle n f).mram = s.mram := rfl
@[simp] theorem dirty_modCtle (s : State) (n : Ch) (f : CtleS → CtleS) : (s.modCtle n f).dirty = s.dirty := rfl
@[simp] theorem clock_modCtle (s : State) (n : Ch) (f : CtleS → CtleS) : (s.modCtle n f).clock = s.clock := rfl
@[simp] theorem sup_modCtle (s : State) (n : Ch) (f : CtleS → CtleS) : (s.modCtle n f).sup = s.sup := rfl
@[simp] theorem snap_modCtle (s : State) (n : Ch) (f : CtleS → CtleS) : (s.modCtle n f).snap = s.snap := rfl
@[simp] theorem sessions_modCtle (s : State) (n : Ch) (f : CtleS → CtleS) : (s.modCtle n f).sessions = s.sessions := rfl
@[simp] theorem idents_modCtle (s : State) (n : Ch) (f : CtleS → CtleS) : (s.modCtle n f).idents = s.idents := rfl
@[simp] theorem nextSid_modCtle (s : State) (n : Ch) (f : CtleS → CtleS) : (s.modCtle n f).nextSid = s.nextSid := rfl
@[simp] theorem joined_modCtle (s : State) (n : Ch) (f : CtleS → CtleS) : (s.modCtle n f).joined = s.joined := rfl
@[simp] theorem last_modCtle (s : State) (n : Ch) (f : CtleS → CtleS) : (s.modCtle n f).last = s.last := rfl
@[simp] theorem notifies_modCtle (s : State) (n : Ch) (f : CtleS → CtleS) : (s.modCtle n f).notifies = s.notifies := rfl
@[simp] theorem outbox_modCtle (s : State) (n : Ch) (f : CtleS → CtleS) : (s.modCtle n f).outbox = s.outbox := rfl
@[simp] theorem panel_modCtle (s : State) (n : Ch) (f : CtleS → CtleS) : (s.modCtle n f).panel = s.panel := rfl
@[simp] theorem therm_modCtle (s : State) (n : Ch) (f : CtleS → CtleS) : (s.modCtle n f).therm = s.therm := rfl
@[simp] theorem alloc_modCtle (s : State) (n : Ch) (f : CtleS → CtleS) : (s.modCtle n f).alloc = s.alloc := rfl
@[simp] theorem can_modCtle (s : State) (n : Ch) (f : CtleS → CtleS) : (s.modCtle n f).can = s.can := rfl
@[simp] theorem twin_modCtle (s : State) (n : Ch) (f : CtleS → CtleS) : (s.modCtle n f).twin = s.twin := rfl
@[simp] theorem evt_modCtle (s : State) (n : Ch) (f : CtleS → CtleS) : (s.modCtle n f).evt = s.evt := rfl
@[simp] theorem upd_modCtle (s : State) (n : Ch) (f : CtleS → CtleS) : (s.modCtle n f).upd = s.upd := rfl
@[simp] theorem pmcs_modCtle (s : State) (n : Ch) (f : CtleS → CtleS) : (s.modCtle n f).pmcs = s.pmcs := rfl
@[simp] theorem free_modCtle (s : State) (n : Ch) (f : CtleS → CtleS) : (s.modCtle n f).free = s.free := rfl
@[simp] theorem reg_modCtle (s : State) (n : Ch) (f : CtleS → CtleS) (a : Nat) : (s.modCtle n f).reg a = s.reg a := rfl
@[simp] theorem get_modCtle (s : State) (n : Ch) (f : CtleS → CtleS) (g : RF) : (s.modCtle n f).get g = s.get g := rfl

/-! ## modProf -/

@[simp] theorem pending_modProf (s : State) (n : Ch) (f : ProfS → ProfS) : (s.modProf n f).pending = s.pending := rfl
@[simp] theorem regs_modProf (s : State) (n : Ch) (f : ProfS → ProfS) : (s.modProf n f).regs = s.regs := rfl
@[simp] theorem mram_modProf (s : State) (n : Ch) (f : ProfS → ProfS) : (s.modProf n f).mram = s.mram := rfl
@[simp] theorem dirty_modProf (s : State) (n : Ch) (f : ProfS → ProfS) : (s.modProf n f).dirty = s.dirty := rfl
@[simp] theorem clock_modProf (s : State) (n : Ch) (f : ProfS → ProfS) : (s.modProf n f).clock = s.clock := rfl
@[simp] theorem sup_modProf (s : State) (n : Ch) (f : ProfS → ProfS) : (s.modProf n f).sup = s.sup := rfl
@[simp] theorem snap_modProf (s : State) (n : Ch) (f : ProfS → ProfS) : (s.modProf n f).snap = s.snap := rfl
@[simp] theorem sessions_modProf (s : State) (n : Ch) (f : ProfS → ProfS) : (s.modProf n f).sessions = s.sessions := rfl
@[simp] theorem idents_modProf (s : State) (n : Ch) (f : ProfS → ProfS) : (s.modProf n f).idents = s.idents := rfl
@[simp] theorem nextSid_modProf (s : State) (n : Ch) (f : ProfS → ProfS) : (s.modProf n f).nextSid = s.nextSid := rfl
@[simp] theorem joined_modProf (s : State) (n : Ch) (f : ProfS → ProfS) : (s.modProf n f).joined = s.joined := rfl
@[simp] theorem last_modProf (s : State) (n : Ch) (f : ProfS → ProfS) : (s.modProf n f).last = s.last := rfl
@[simp] theorem notifies_modProf (s : State) (n : Ch) (f : ProfS → ProfS) : (s.modProf n f).notifies = s.notifies := rfl
@[simp] theorem outbox_modProf (s : State) (n : Ch) (f : ProfS → ProfS) : (s.modProf n f).outbox = s.outbox := rfl
@[simp] theorem panel_modProf (s : State) (n : Ch) (f : ProfS → ProfS) : (s.modProf n f).panel = s.panel := rfl
@[simp] theorem therm_modProf (s : State) (n : Ch) (f : ProfS → ProfS) : (s.modProf n f).therm = s.therm := rfl
@[simp] theorem alloc_modProf (s : State) (n : Ch) (f : ProfS → ProfS) : (s.modProf n f).alloc = s.alloc := rfl
@[simp] theorem can_modProf (s : State) (n : Ch) (f : ProfS → ProfS) : (s.modProf n f).can = s.can := rfl
@[simp] theorem twin_modProf (s : State) (n : Ch) (f : ProfS → ProfS) : (s.modProf n f).twin = s.twin := rfl
@[simp] theorem evt_modProf (s : State) (n : Ch) (f : ProfS → ProfS) : (s.modProf n f).evt = s.evt := rfl
@[simp] theorem upd_modProf (s : State) (n : Ch) (f : ProfS → ProfS) : (s.modProf n f).upd = s.upd := rfl
@[simp] theorem pmcs_modProf (s : State) (n : Ch) (f : ProfS → ProfS) : (s.modProf n f).pmcs = s.pmcs := rfl
@[simp] theorem free_modProf (s : State) (n : Ch) (f : ProfS → ProfS) : (s.modProf n f).free = s.free := rfl
@[simp] theorem reg_modProf (s : State) (n : Ch) (f : ProfS → ProfS) (a : Nat) : (s.modProf n f).reg a = s.reg a := rfl
@[simp] theorem get_modProf (s : State) (n : Ch) (f : ProfS → ProfS) (g : RF) : (s.modProf n f).get g = s.get g := rfl

/-! ## modVax -/

@[simp] theorem pending_modVax (s : State) (n : Ch) (f : VaxS → VaxS) : (s.modVax n f).pending = s.pending := rfl
@[simp] theorem regs_modVax (s : State) (n : Ch) (f : VaxS → VaxS) : (s.modVax n f).regs = s.regs := rfl
@[simp] theorem mram_modVax (s : State) (n : Ch) (f : VaxS → VaxS) : (s.modVax n f).mram = s.mram := rfl
@[simp] theorem dirty_modVax (s : State) (n : Ch) (f : VaxS → VaxS) : (s.modVax n f).dirty = s.dirty := rfl
@[simp] theorem clock_modVax (s : State) (n : Ch) (f : VaxS → VaxS) : (s.modVax n f).clock = s.clock := rfl
@[simp] theorem sup_modVax (s : State) (n : Ch) (f : VaxS → VaxS) : (s.modVax n f).sup = s.sup := rfl
@[simp] theorem snap_modVax (s : State) (n : Ch) (f : VaxS → VaxS) : (s.modVax n f).snap = s.snap := rfl
@[simp] theorem sessions_modVax (s : State) (n : Ch) (f : VaxS → VaxS) : (s.modVax n f).sessions = s.sessions := rfl
@[simp] theorem idents_modVax (s : State) (n : Ch) (f : VaxS → VaxS) : (s.modVax n f).idents = s.idents := rfl
@[simp] theorem nextSid_modVax (s : State) (n : Ch) (f : VaxS → VaxS) : (s.modVax n f).nextSid = s.nextSid := rfl
@[simp] theorem joined_modVax (s : State) (n : Ch) (f : VaxS → VaxS) : (s.modVax n f).joined = s.joined := rfl
@[simp] theorem last_modVax (s : State) (n : Ch) (f : VaxS → VaxS) : (s.modVax n f).last = s.last := rfl
@[simp] theorem notifies_modVax (s : State) (n : Ch) (f : VaxS → VaxS) : (s.modVax n f).notifies = s.notifies := rfl
@[simp] theorem outbox_modVax (s : State) (n : Ch) (f : VaxS → VaxS) : (s.modVax n f).outbox = s.outbox := rfl
@[simp] theorem panel_modVax (s : State) (n : Ch) (f : VaxS → VaxS) : (s.modVax n f).panel = s.panel := rfl
@[simp] theorem therm_modVax (s : State) (n : Ch) (f : VaxS → VaxS) : (s.modVax n f).therm = s.therm := rfl
@[simp] theorem alloc_modVax (s : State) (n : Ch) (f : VaxS → VaxS) : (s.modVax n f).alloc = s.alloc := rfl
@[simp] theorem can_modVax (s : State) (n : Ch) (f : VaxS → VaxS) : (s.modVax n f).can = s.can := rfl
@[simp] theorem twin_modVax (s : State) (n : Ch) (f : VaxS → VaxS) : (s.modVax n f).twin = s.twin := rfl
@[simp] theorem evt_modVax (s : State) (n : Ch) (f : VaxS → VaxS) : (s.modVax n f).evt = s.evt := rfl
@[simp] theorem upd_modVax (s : State) (n : Ch) (f : VaxS → VaxS) : (s.modVax n f).upd = s.upd := rfl
@[simp] theorem pmcs_modVax (s : State) (n : Ch) (f : VaxS → VaxS) : (s.modVax n f).pmcs = s.pmcs := rfl
@[simp] theorem free_modVax (s : State) (n : Ch) (f : VaxS → VaxS) : (s.modVax n f).free = s.free := rfl
@[simp] theorem reg_modVax (s : State) (n : Ch) (f : VaxS → VaxS) (a : Nat) : (s.modVax n f).reg a = s.reg a := rfl
@[simp] theorem get_modVax (s : State) (n : Ch) (f : VaxS → VaxS) (g : RF) : (s.modVax n f).get g = s.get g := rfl

/-! ## modImp -/

@[simp] theorem pending_modImp (s : State) (n : Ch) (f : ImpS → ImpS) : (s.modImp n f).pending = s.pending := rfl
@[simp] theorem regs_modImp (s : State) (n : Ch) (f : ImpS → ImpS) : (s.modImp n f).regs = s.regs := rfl
@[simp] theorem mram_modImp (s : State) (n : Ch) (f : ImpS → ImpS) : (s.modImp n f).mram = s.mram := rfl
@[simp] theorem dirty_modImp (s : State) (n : Ch) (f : ImpS → ImpS) : (s.modImp n f).dirty = s.dirty := rfl
@[simp] theorem clock_modImp (s : State) (n : Ch) (f : ImpS → ImpS) : (s.modImp n f).clock = s.clock := rfl
@[simp] theorem sup_modImp (s : State) (n : Ch) (f : ImpS → ImpS) : (s.modImp n f).sup = s.sup := rfl
@[simp] theorem snap_modImp (s : State) (n : Ch) (f : ImpS → ImpS) : (s.modImp n f).snap = s.snap := rfl
@[simp] theorem sessions_modImp (s : State) (n : Ch) (f : ImpS → ImpS) : (s.modImp n f).sessions = s.sessions := rfl
@[simp] theorem idents_modImp (s : State) (n : Ch) (f : ImpS → ImpS) : (s.modImp n f).idents = s.idents := rfl
@[simp] theorem nextSid_modImp (s : State) (n : Ch) (f : ImpS → ImpS) : (s.modImp n f).nextSid = s.nextSid := rfl
@[simp] theorem joined_modImp (s : State) (n : Ch) (f : ImpS → ImpS) : (s.modImp n f).joined = s.joined := rfl
@[simp] theorem last_modImp (s : State) (n : Ch) (f : ImpS → ImpS) : (s.modImp n f).last = s.last := rfl
@[simp] theorem notifies_modImp (s : State) (n : Ch) (f : ImpS → ImpS) : (s.modImp n f).notifies = s.notifies := rfl
@[simp] theorem outbox_modImp (s : State) (n : Ch) (f : ImpS → ImpS) : (s.modImp n f).outbox = s.outbox := rfl
@[simp] theorem panel_modImp (s : State) (n : Ch) (f : ImpS → ImpS) : (s.modImp n f).panel = s.panel := rfl
@[simp] theorem therm_modImp (s : State) (n : Ch) (f : ImpS → ImpS) : (s.modImp n f).therm = s.therm := rfl
@[simp] theorem alloc_modImp (s : State) (n : Ch) (f : ImpS → ImpS) : (s.modImp n f).alloc = s.alloc := rfl
@[simp] theorem can_modImp (s : State) (n : Ch) (f : ImpS → ImpS) : (s.modImp n f).can = s.can := rfl
@[simp] theorem twin_modImp (s : State) (n : Ch) (f : ImpS → ImpS) : (s.modImp n f).twin = s.twin := rfl
@[simp] theorem evt_modImp (s : State) (n : Ch) (f : ImpS → ImpS) : (s.modImp n f).evt = s.evt := rfl
@[simp] theorem upd_modImp (s : State) (n : Ch) (f : ImpS → ImpS) : (s.modImp n f).upd = s.upd := rfl
@[simp] theorem pmcs_modImp (s : State) (n : Ch) (f : ImpS → ImpS) : (s.modImp n f).pmcs = s.pmcs := rfl
@[simp] theorem free_modImp (s : State) (n : Ch) (f : ImpS → ImpS) : (s.modImp n f).free = s.free := rfl
@[simp] theorem reg_modImp (s : State) (n : Ch) (f : ImpS → ImpS) (a : Nat) : (s.modImp n f).reg a = s.reg a := rfl
@[simp] theorem get_modImp (s : State) (n : Ch) (f : ImpS → ImpS) (g : RF) : (s.modImp n f).get g = s.get g := rfl

/-! ## modEst -/

@[simp] theorem pending_modEst (s : State) (n : Ch) (f : EstS → EstS) : (s.modEst n f).pending = s.pending := rfl
@[simp] theorem regs_modEst (s : State) (n : Ch) (f : EstS → EstS) : (s.modEst n f).regs = s.regs := rfl
@[simp] theorem mram_modEst (s : State) (n : Ch) (f : EstS → EstS) : (s.modEst n f).mram = s.mram := rfl
@[simp] theorem dirty_modEst (s : State) (n : Ch) (f : EstS → EstS) : (s.modEst n f).dirty = s.dirty := rfl
@[simp] theorem clock_modEst (s : State) (n : Ch) (f : EstS → EstS) : (s.modEst n f).clock = s.clock := rfl
@[simp] theorem sup_modEst (s : State) (n : Ch) (f : EstS → EstS) : (s.modEst n f).sup = s.sup := rfl
@[simp] theorem snap_modEst (s : State) (n : Ch) (f : EstS → EstS) : (s.modEst n f).snap = s.snap := rfl
@[simp] theorem sessions_modEst (s : State) (n : Ch) (f : EstS → EstS) : (s.modEst n f).sessions = s.sessions := rfl
@[simp] theorem idents_modEst (s : State) (n : Ch) (f : EstS → EstS) : (s.modEst n f).idents = s.idents := rfl
@[simp] theorem nextSid_modEst (s : State) (n : Ch) (f : EstS → EstS) : (s.modEst n f).nextSid = s.nextSid := rfl
@[simp] theorem joined_modEst (s : State) (n : Ch) (f : EstS → EstS) : (s.modEst n f).joined = s.joined := rfl
@[simp] theorem last_modEst (s : State) (n : Ch) (f : EstS → EstS) : (s.modEst n f).last = s.last := rfl
@[simp] theorem notifies_modEst (s : State) (n : Ch) (f : EstS → EstS) : (s.modEst n f).notifies = s.notifies := rfl
@[simp] theorem outbox_modEst (s : State) (n : Ch) (f : EstS → EstS) : (s.modEst n f).outbox = s.outbox := rfl
@[simp] theorem panel_modEst (s : State) (n : Ch) (f : EstS → EstS) : (s.modEst n f).panel = s.panel := rfl
@[simp] theorem therm_modEst (s : State) (n : Ch) (f : EstS → EstS) : (s.modEst n f).therm = s.therm := rfl
@[simp] theorem alloc_modEst (s : State) (n : Ch) (f : EstS → EstS) : (s.modEst n f).alloc = s.alloc := rfl
@[simp] theorem can_modEst (s : State) (n : Ch) (f : EstS → EstS) : (s.modEst n f).can = s.can := rfl
@[simp] theorem twin_modEst (s : State) (n : Ch) (f : EstS → EstS) : (s.modEst n f).twin = s.twin := rfl
@[simp] theorem evt_modEst (s : State) (n : Ch) (f : EstS → EstS) : (s.modEst n f).evt = s.evt := rfl
@[simp] theorem upd_modEst (s : State) (n : Ch) (f : EstS → EstS) : (s.modEst n f).upd = s.upd := rfl
@[simp] theorem pmcs_modEst (s : State) (n : Ch) (f : EstS → EstS) : (s.modEst n f).pmcs = s.pmcs := rfl
@[simp] theorem free_modEst (s : State) (n : Ch) (f : EstS → EstS) : (s.modEst n f).free = s.free := rfl
@[simp] theorem reg_modEst (s : State) (n : Ch) (f : EstS → EstS) (a : Nat) : (s.modEst n f).reg a = s.reg a := rfl
@[simp] theorem get_modEst (s : State) (n : Ch) (f : EstS → EstS) (g : RF) : (s.modEst n f).get g = s.get g := rfl

/-! ## modSafe -/

@[simp] theorem pending_modSafe (s : State) (n : Ch) (f : SafeS → SafeS) : (s.modSafe n f).pending = s.pending := rfl
@[simp] theorem regs_modSafe (s : State) (n : Ch) (f : SafeS → SafeS) : (s.modSafe n f).regs = s.regs := rfl
@[simp] theorem mram_modSafe (s : State) (n : Ch) (f : SafeS → SafeS) : (s.modSafe n f).mram = s.mram := rfl
@[simp] theorem dirty_modSafe (s : State) (n : Ch) (f : SafeS → SafeS) : (s.modSafe n f).dirty = s.dirty := rfl
@[simp] theorem clock_modSafe (s : State) (n : Ch) (f : SafeS → SafeS) : (s.modSafe n f).clock = s.clock := rfl
@[simp] theorem sup_modSafe (s : State) (n : Ch) (f : SafeS → SafeS) : (s.modSafe n f).sup = s.sup := rfl
@[simp] theorem snap_modSafe (s : State) (n : Ch) (f : SafeS → SafeS) : (s.modSafe n f).snap = s.snap := rfl
@[simp] theorem sessions_modSafe (s : State) (n : Ch) (f : SafeS → SafeS) : (s.modSafe n f).sessions = s.sessions := rfl
@[simp] theorem idents_modSafe (s : State) (n : Ch) (f : SafeS → SafeS) : (s.modSafe n f).idents = s.idents := rfl
@[simp] theorem nextSid_modSafe (s : State) (n : Ch) (f : SafeS → SafeS) : (s.modSafe n f).nextSid = s.nextSid := rfl
@[simp] theorem joined_modSafe (s : State) (n : Ch) (f : SafeS → SafeS) : (s.modSafe n f).joined = s.joined := rfl
@[simp] theorem last_modSafe (s : State) (n : Ch) (f : SafeS → SafeS) : (s.modSafe n f).last = s.last := rfl
@[simp] theorem notifies_modSafe (s : State) (n : Ch) (f : SafeS → SafeS) : (s.modSafe n f).notifies = s.notifies := rfl
@[simp] theorem outbox_modSafe (s : State) (n : Ch) (f : SafeS → SafeS) : (s.modSafe n f).outbox = s.outbox := rfl
@[simp] theorem panel_modSafe (s : State) (n : Ch) (f : SafeS → SafeS) : (s.modSafe n f).panel = s.panel := rfl
@[simp] theorem therm_modSafe (s : State) (n : Ch) (f : SafeS → SafeS) : (s.modSafe n f).therm = s.therm := rfl
@[simp] theorem alloc_modSafe (s : State) (n : Ch) (f : SafeS → SafeS) : (s.modSafe n f).alloc = s.alloc := rfl
@[simp] theorem can_modSafe (s : State) (n : Ch) (f : SafeS → SafeS) : (s.modSafe n f).can = s.can := rfl
@[simp] theorem twin_modSafe (s : State) (n : Ch) (f : SafeS → SafeS) : (s.modSafe n f).twin = s.twin := rfl
@[simp] theorem evt_modSafe (s : State) (n : Ch) (f : SafeS → SafeS) : (s.modSafe n f).evt = s.evt := rfl
@[simp] theorem upd_modSafe (s : State) (n : Ch) (f : SafeS → SafeS) : (s.modSafe n f).upd = s.upd := rfl
@[simp] theorem pmcs_modSafe (s : State) (n : Ch) (f : SafeS → SafeS) : (s.modSafe n f).pmcs = s.pmcs := rfl
@[simp] theorem free_modSafe (s : State) (n : Ch) (f : SafeS → SafeS) : (s.modSafe n f).free = s.free := rfl
@[simp] theorem reg_modSafe (s : State) (n : Ch) (f : SafeS → SafeS) (a : Nat) : (s.modSafe n f).reg a = s.reg a := rfl
@[simp] theorem get_modSafe (s : State) (n : Ch) (f : SafeS → SafeS) (g : RF) : (s.modSafe n f).get g = s.get g := rfl

/-! ## modPerc -/

@[simp] theorem pending_modPerc (s : State) (n : Ch) (f : PercS → PercS) : (s.modPerc n f).pending = s.pending := rfl
@[simp] theorem regs_modPerc (s : State) (n : Ch) (f : PercS → PercS) : (s.modPerc n f).regs = s.regs := rfl
@[simp] theorem mram_modPerc (s : State) (n : Ch) (f : PercS → PercS) : (s.modPerc n f).mram = s.mram := rfl
@[simp] theorem dirty_modPerc (s : State) (n : Ch) (f : PercS → PercS) : (s.modPerc n f).dirty = s.dirty := rfl
@[simp] theorem clock_modPerc (s : State) (n : Ch) (f : PercS → PercS) : (s.modPerc n f).clock = s.clock := rfl
@[simp] theorem sup_modPerc (s : State) (n : Ch) (f : PercS → PercS) : (s.modPerc n f).sup = s.sup := rfl
@[simp] theorem snap_modPerc (s : State) (n : Ch) (f : PercS → PercS) : (s.modPerc n f).snap = s.snap := rfl
@[simp] theorem sessions_modPerc (s : State) (n : Ch) (f : PercS → PercS) : (s.modPerc n f).sessions = s.sessions := rfl
@[simp] theorem idents_modPerc (s : State) (n : Ch) (f : PercS → PercS) : (s.modPerc n f).idents = s.idents := rfl
@[simp] theorem nextSid_modPerc (s : State) (n : Ch) (f : PercS → PercS) : (s.modPerc n f).nextSid = s.nextSid := rfl
@[simp] theorem joined_modPerc (s : State) (n : Ch) (f : PercS → PercS) : (s.modPerc n f).joined = s.joined := rfl
@[simp] theorem last_modPerc (s : State) (n : Ch) (f : PercS → PercS) : (s.modPerc n f).last = s.last := rfl
@[simp] theorem notifies_modPerc (s : State) (n : Ch) (f : PercS → PercS) : (s.modPerc n f).notifies = s.notifies := rfl
@[simp] theorem outbox_modPerc (s : State) (n : Ch) (f : PercS → PercS) : (s.modPerc n f).outbox = s.outbox := rfl
@[simp] theorem panel_modPerc (s : State) (n : Ch) (f : PercS → PercS) : (s.modPerc n f).panel = s.panel := rfl
@[simp] theorem therm_modPerc (s : State) (n : Ch) (f : PercS → PercS) : (s.modPerc n f).therm = s.therm := rfl
@[simp] theorem alloc_modPerc (s : State) (n : Ch) (f : PercS → PercS) : (s.modPerc n f).alloc = s.alloc := rfl
@[simp] theorem can_modPerc (s : State) (n : Ch) (f : PercS → PercS) : (s.modPerc n f).can = s.can := rfl
@[simp] theorem twin_modPerc (s : State) (n : Ch) (f : PercS → PercS) : (s.modPerc n f).twin = s.twin := rfl
@[simp] theorem evt_modPerc (s : State) (n : Ch) (f : PercS → PercS) : (s.modPerc n f).evt = s.evt := rfl
@[simp] theorem upd_modPerc (s : State) (n : Ch) (f : PercS → PercS) : (s.modPerc n f).upd = s.upd := rfl
@[simp] theorem pmcs_modPerc (s : State) (n : Ch) (f : PercS → PercS) : (s.modPerc n f).pmcs = s.pmcs := rfl
@[simp] theorem free_modPerc (s : State) (n : Ch) (f : PercS → PercS) : (s.modPerc n f).free = s.free := rfl
@[simp] theorem reg_modPerc (s : State) (n : Ch) (f : PercS → PercS) (a : Nat) : (s.modPerc n f).reg a = s.reg a := rfl
@[simp] theorem get_modPerc (s : State) (n : Ch) (f : PercS → PercS) (g : RF) : (s.modPerc n f).get g = s.get g := rfl

/-! ## modTwin -/

@[simp] theorem pending_modTwin (s : State) (n : Ch) (f : TwinCh → TwinCh) : (s.modTwin n f).pending = s.pending := rfl
@[simp] theorem regs_modTwin (s : State) (n : Ch) (f : TwinCh → TwinCh) : (s.modTwin n f).regs = s.regs := rfl
@[simp] theorem mram_modTwin (s : State) (n : Ch) (f : TwinCh → TwinCh) : (s.modTwin n f).mram = s.mram := rfl
@[simp] theorem dirty_modTwin (s : State) (n : Ch) (f : TwinCh → TwinCh) : (s.modTwin n f).dirty = s.dirty := rfl
@[simp] theorem clock_modTwin (s : State) (n : Ch) (f : TwinCh → TwinCh) : (s.modTwin n f).clock = s.clock := rfl
@[simp] theorem sup_modTwin (s : State) (n : Ch) (f : TwinCh → TwinCh) : (s.modTwin n f).sup = s.sup := rfl
@[simp] theorem snap_modTwin (s : State) (n : Ch) (f : TwinCh → TwinCh) : (s.modTwin n f).snap = s.snap := rfl
@[simp] theorem sessions_modTwin (s : State) (n : Ch) (f : TwinCh → TwinCh) : (s.modTwin n f).sessions = s.sessions := rfl
@[simp] theorem idents_modTwin (s : State) (n : Ch) (f : TwinCh → TwinCh) : (s.modTwin n f).idents = s.idents := rfl
@[simp] theorem nextSid_modTwin (s : State) (n : Ch) (f : TwinCh → TwinCh) : (s.modTwin n f).nextSid = s.nextSid := rfl
@[simp] theorem joined_modTwin (s : State) (n : Ch) (f : TwinCh → TwinCh) : (s.modTwin n f).joined = s.joined := rfl
@[simp] theorem last_modTwin (s : State) (n : Ch) (f : TwinCh → TwinCh) : (s.modTwin n f).last = s.last := rfl
@[simp] theorem notifies_modTwin (s : State) (n : Ch) (f : TwinCh → TwinCh) : (s.modTwin n f).notifies = s.notifies := rfl
@[simp] theorem outbox_modTwin (s : State) (n : Ch) (f : TwinCh → TwinCh) : (s.modTwin n f).outbox = s.outbox := rfl
@[simp] theorem panel_modTwin (s : State) (n : Ch) (f : TwinCh → TwinCh) : (s.modTwin n f).panel = s.panel := rfl
@[simp] theorem therm_modTwin (s : State) (n : Ch) (f : TwinCh → TwinCh) : (s.modTwin n f).therm = s.therm := rfl
@[simp] theorem alloc_modTwin (s : State) (n : Ch) (f : TwinCh → TwinCh) : (s.modTwin n f).alloc = s.alloc := rfl
@[simp] theorem can_modTwin (s : State) (n : Ch) (f : TwinCh → TwinCh) : (s.modTwin n f).can = s.can := rfl
@[simp] theorem twin_modTwin (s : State) (n : Ch) (f : TwinCh → TwinCh) : (s.modTwin n f).twin = s.twin := rfl
@[simp] theorem evt_modTwin (s : State) (n : Ch) (f : TwinCh → TwinCh) : (s.modTwin n f).evt = s.evt := rfl
@[simp] theorem upd_modTwin (s : State) (n : Ch) (f : TwinCh → TwinCh) : (s.modTwin n f).upd = s.upd := rfl
@[simp] theorem pmcs_modTwin (s : State) (n : Ch) (f : TwinCh → TwinCh) : (s.modTwin n f).pmcs = s.pmcs := rfl
@[simp] theorem free_modTwin (s : State) (n : Ch) (f : TwinCh → TwinCh) : (s.modTwin n f).free = s.free := rfl
@[simp] theorem reg_modTwin (s : State) (n : Ch) (f : TwinCh → TwinCh) (a : Nat) : (s.modTwin n f).reg a = s.reg a := rfl
@[simp] theorem get_modTwin (s : State) (n : Ch) (f : TwinCh → TwinCh) (g : RF) : (s.modTwin n f).get g = s.get g := rfl

/-! ## modSup -/

@[simp] theorem pending_modSup (s : State) (f : SupS → SupS) : (s.modSup f).pending = s.pending := rfl
@[simp] theorem regs_modSup (s : State) (f : SupS → SupS) : (s.modSup f).regs = s.regs := rfl
@[simp] theorem mram_modSup (s : State) (f : SupS → SupS) : (s.modSup f).mram = s.mram := rfl
@[simp] theorem dirty_modSup (s : State) (f : SupS → SupS) : (s.modSup f).dirty = s.dirty := rfl
@[simp] theorem chans_modSup (s : State) (f : SupS → SupS) : (s.modSup f).chans = s.chans := rfl
@[simp] theorem clock_modSup (s : State) (f : SupS → SupS) : (s.modSup f).clock = s.clock := rfl
@[simp] theorem snap_modSup (s : State) (f : SupS → SupS) : (s.modSup f).snap = s.snap := rfl
@[simp] theorem sessions_modSup (s : State) (f : SupS → SupS) : (s.modSup f).sessions = s.sessions := rfl
@[simp] theorem idents_modSup (s : State) (f : SupS → SupS) : (s.modSup f).idents = s.idents := rfl
@[simp] theorem nextSid_modSup (s : State) (f : SupS → SupS) : (s.modSup f).nextSid = s.nextSid := rfl
@[simp] theorem joined_modSup (s : State) (f : SupS → SupS) : (s.modSup f).joined = s.joined := rfl
@[simp] theorem last_modSup (s : State) (f : SupS → SupS) : (s.modSup f).last = s.last := rfl
@[simp] theorem notifies_modSup (s : State) (f : SupS → SupS) : (s.modSup f).notifies = s.notifies := rfl
@[simp] theorem outbox_modSup (s : State) (f : SupS → SupS) : (s.modSup f).outbox = s.outbox := rfl
@[simp] theorem panel_modSup (s : State) (f : SupS → SupS) : (s.modSup f).panel = s.panel := rfl
@[simp] theorem therm_modSup (s : State) (f : SupS → SupS) : (s.modSup f).therm = s.therm := rfl
@[simp] theorem alloc_modSup (s : State) (f : SupS → SupS) : (s.modSup f).alloc = s.alloc := rfl
@[simp] theorem can_modSup (s : State) (f : SupS → SupS) : (s.modSup f).can = s.can := rfl
@[simp] theorem twin_modSup (s : State) (f : SupS → SupS) : (s.modSup f).twin = s.twin := rfl
@[simp] theorem evt_modSup (s : State) (f : SupS → SupS) : (s.modSup f).evt = s.evt := rfl
@[simp] theorem upd_modSup (s : State) (f : SupS → SupS) : (s.modSup f).upd = s.upd := rfl
@[simp] theorem pmcs_modSup (s : State) (f : SupS → SupS) : (s.modSup f).pmcs = s.pmcs := rfl
@[simp] theorem free_modSup (s : State) (f : SupS → SupS) : (s.modSup f).free = s.free := rfl
@[simp] theorem reg_modSup (s : State) (f : SupS → SupS) (a : Nat) : (s.modSup f).reg a = s.reg a := rfl
@[simp] theorem get_modSup (s : State) (f : SupS → SupS) (g : RF) : (s.modSup f).get g = s.get g := rfl
@[simp] theorem ch_modSup (s : State) (f : SupS → SupS) (k : Ch) : (s.modSup f).ch k = s.ch k := rfl
@[simp] theorem sup_modSup (s : State) (f : SupS → SupS) : (s.modSup f).sup = f s.sup := rfl

/-! ## modUpd -/

@[simp] theorem pending_modUpd (s : State) (f : UpdS → UpdS) : (s.modUpd f).pending = s.pending := rfl
@[simp] theorem regs_modUpd (s : State) (f : UpdS → UpdS) : (s.modUpd f).regs = s.regs := rfl
@[simp] theorem mram_modUpd (s : State) (f : UpdS → UpdS) : (s.modUpd f).mram = s.mram := rfl
@[simp] theorem dirty_modUpd (s : State) (f : UpdS → UpdS) : (s.modUpd f).dirty = s.dirty := rfl
@[simp] theorem chans_modUpd (s : State) (f : UpdS → UpdS) : (s.modUpd f).chans = s.chans := rfl
@[simp] theorem clock_modUpd (s : State) (f : UpdS → UpdS) : (s.modUpd f).clock = s.clock := rfl
@[simp] theorem sup_modUpd (s : State) (f : UpdS → UpdS) : (s.modUpd f).sup = s.sup := rfl
@[simp] theorem snap_modUpd (s : State) (f : UpdS → UpdS) : (s.modUpd f).snap = s.snap := rfl
@[simp] theorem sessions_modUpd (s : State) (f : UpdS → UpdS) : (s.modUpd f).sessions = s.sessions := rfl
@[simp] theorem idents_modUpd (s : State) (f : UpdS → UpdS) : (s.modUpd f).idents = s.idents := rfl
@[simp] theorem nextSid_modUpd (s : State) (f : UpdS → UpdS) : (s.modUpd f).nextSid = s.nextSid := rfl
@[simp] theorem joined_modUpd (s : State) (f : UpdS → UpdS) : (s.modUpd f).joined = s.joined := rfl
@[simp] theorem last_modUpd (s : State) (f : UpdS → UpdS) : (s.modUpd f).last = s.last := rfl
@[simp] theorem notifies_modUpd (s : State) (f : UpdS → UpdS) : (s.modUpd f).notifies = s.notifies := rfl
@[simp] theorem outbox_modUpd (s : State) (f : UpdS → UpdS) : (s.modUpd f).outbox = s.outbox := rfl
@[simp] theorem panel_modUpd (s : State) (f : UpdS → UpdS) : (s.modUpd f).panel = s.panel := rfl
@[simp] theorem therm_modUpd (s : State) (f : UpdS → UpdS) : (s.modUpd f).therm = s.therm := rfl
@[simp] theorem alloc_modUpd (s : State) (f : UpdS → UpdS) : (s.modUpd f).alloc = s.alloc := rfl
@[simp] theorem can_modUpd (s : State) (f : UpdS → UpdS) : (s.modUpd f).can = s.can := rfl
@[simp] theorem twin_modUpd (s : State) (f : UpdS → UpdS) : (s.modUpd f).twin = s.twin := rfl
@[simp] theorem evt_modUpd (s : State) (f : UpdS → UpdS) : (s.modUpd f).evt = s.evt := rfl
@[simp] theorem pmcs_modUpd (s : State) (f : UpdS → UpdS) : (s.modUpd f).pmcs = s.pmcs := rfl
@[simp] theorem free_modUpd (s : State) (f : UpdS → UpdS) : (s.modUpd f).free = s.free := rfl
@[simp] theorem reg_modUpd (s : State) (f : UpdS → UpdS) (a : Nat) : (s.modUpd f).reg a = s.reg a := rfl
@[simp] theorem get_modUpd (s : State) (f : UpdS → UpdS) (g : RF) : (s.modUpd f).get g = s.get g := rfl
@[simp] theorem ch_modUpd (s : State) (f : UpdS → UpdS) (k : Ch) : (s.modUpd f).ch k = s.ch k := rfl
@[simp] theorem upd_modUpd (s : State) (f : UpdS → UpdS) : (s.modUpd f).upd = f s.upd := rfl

/-! ## modPanel -/

@[simp] theorem pending_modPanel (s : State) (f : PanelS → PanelS) : (s.modPanel f).pending = s.pending := rfl
@[simp] theorem regs_modPanel (s : State) (f : PanelS → PanelS) : (s.modPanel f).regs = s.regs := rfl
@[simp] theorem mram_modPanel (s : State) (f : PanelS → PanelS) : (s.modPanel f).mram = s.mram := rfl
@[simp] theorem dirty_modPanel (s : State) (f : PanelS → PanelS) : (s.modPanel f).dirty = s.dirty := rfl
@[simp] theorem chans_modPanel (s : State) (f : PanelS → PanelS) : (s.modPanel f).chans = s.chans := rfl
@[simp] theorem clock_modPanel (s : State) (f : PanelS → PanelS) : (s.modPanel f).clock = s.clock := rfl
@[simp] theorem sup_modPanel (s : State) (f : PanelS → PanelS) : (s.modPanel f).sup = s.sup := rfl
@[simp] theorem snap_modPanel (s : State) (f : PanelS → PanelS) : (s.modPanel f).snap = s.snap := rfl
@[simp] theorem sessions_modPanel (s : State) (f : PanelS → PanelS) : (s.modPanel f).sessions = s.sessions := rfl
@[simp] theorem idents_modPanel (s : State) (f : PanelS → PanelS) : (s.modPanel f).idents = s.idents := rfl
@[simp] theorem nextSid_modPanel (s : State) (f : PanelS → PanelS) : (s.modPanel f).nextSid = s.nextSid := rfl
@[simp] theorem joined_modPanel (s : State) (f : PanelS → PanelS) : (s.modPanel f).joined = s.joined := rfl
@[simp] theorem last_modPanel (s : State) (f : PanelS → PanelS) : (s.modPanel f).last = s.last := rfl
@[simp] theorem notifies_modPanel (s : State) (f : PanelS → PanelS) : (s.modPanel f).notifies = s.notifies := rfl
@[simp] theorem outbox_modPanel (s : State) (f : PanelS → PanelS) : (s.modPanel f).outbox = s.outbox := rfl
@[simp] theorem therm_modPanel (s : State) (f : PanelS → PanelS) : (s.modPanel f).therm = s.therm := rfl
@[simp] theorem alloc_modPanel (s : State) (f : PanelS → PanelS) : (s.modPanel f).alloc = s.alloc := rfl
@[simp] theorem can_modPanel (s : State) (f : PanelS → PanelS) : (s.modPanel f).can = s.can := rfl
@[simp] theorem twin_modPanel (s : State) (f : PanelS → PanelS) : (s.modPanel f).twin = s.twin := rfl
@[simp] theorem evt_modPanel (s : State) (f : PanelS → PanelS) : (s.modPanel f).evt = s.evt := rfl
@[simp] theorem upd_modPanel (s : State) (f : PanelS → PanelS) : (s.modPanel f).upd = s.upd := rfl
@[simp] theorem pmcs_modPanel (s : State) (f : PanelS → PanelS) : (s.modPanel f).pmcs = s.pmcs := rfl
@[simp] theorem free_modPanel (s : State) (f : PanelS → PanelS) : (s.modPanel f).free = s.free := rfl
@[simp] theorem reg_modPanel (s : State) (f : PanelS → PanelS) (a : Nat) : (s.modPanel f).reg a = s.reg a := rfl
@[simp] theorem get_modPanel (s : State) (f : PanelS → PanelS) (g : RF) : (s.modPanel f).get g = s.get g := rfl
@[simp] theorem ch_modPanel (s : State) (f : PanelS → PanelS) (k : Ch) : (s.modPanel f).ch k = s.ch k := rfl
@[simp] theorem panel_modPanel (s : State) (f : PanelS → PanelS) : (s.modPanel f).panel = f s.panel := rfl

/-! ## modCan -/

@[simp] theorem pending_modCan (s : State) (f : CanS → CanS) : (s.modCan f).pending = s.pending := rfl
@[simp] theorem regs_modCan (s : State) (f : CanS → CanS) : (s.modCan f).regs = s.regs := rfl
@[simp] theorem mram_modCan (s : State) (f : CanS → CanS) : (s.modCan f).mram = s.mram := rfl
@[simp] theorem dirty_modCan (s : State) (f : CanS → CanS) : (s.modCan f).dirty = s.dirty := rfl
@[simp] theorem chans_modCan (s : State) (f : CanS → CanS) : (s.modCan f).chans = s.chans := rfl
@[simp] theorem clock_modCan (s : State) (f : CanS → CanS) : (s.modCan f).clock = s.clock := rfl
@[simp] theorem sup_modCan (s : State) (f : CanS → CanS) : (s.modCan f).sup = s.sup := rfl
@[simp] theorem snap_modCan (s : State) (f : CanS → CanS) : (s.modCan f).snap = s.snap := rfl
@[simp] theorem sessions_modCan (s : State) (f : CanS → CanS) : (s.modCan f).sessions = s.sessions := rfl
@[simp] theorem idents_modCan (s : State) (f : CanS → CanS) : (s.modCan f).idents = s.idents := rfl
@[simp] theorem nextSid_modCan (s : State) (f : CanS → CanS) : (s.modCan f).nextSid = s.nextSid := rfl
@[simp] theorem joined_modCan (s : State) (f : CanS → CanS) : (s.modCan f).joined = s.joined := rfl
@[simp] theorem last_modCan (s : State) (f : CanS → CanS) : (s.modCan f).last = s.last := rfl
@[simp] theorem notifies_modCan (s : State) (f : CanS → CanS) : (s.modCan f).notifies = s.notifies := rfl
@[simp] theorem outbox_modCan (s : State) (f : CanS → CanS) : (s.modCan f).outbox = s.outbox := rfl
@[simp] theorem panel_modCan (s : State) (f : CanS → CanS) : (s.modCan f).panel = s.panel := rfl
@[simp] theorem therm_modCan (s : State) (f : CanS → CanS) : (s.modCan f).therm = s.therm := rfl
@[simp] theorem alloc_modCan (s : State) (f : CanS → CanS) : (s.modCan f).alloc = s.alloc := rfl
@[simp] theorem twin_modCan (s : State) (f : CanS → CanS) : (s.modCan f).twin = s.twin := rfl
@[simp] theorem evt_modCan (s : State) (f : CanS → CanS) : (s.modCan f).evt = s.evt := rfl
@[simp] theorem upd_modCan (s : State) (f : CanS → CanS) : (s.modCan f).upd = s.upd := rfl
@[simp] theorem pmcs_modCan (s : State) (f : CanS → CanS) : (s.modCan f).pmcs = s.pmcs := rfl
@[simp] theorem free_modCan (s : State) (f : CanS → CanS) : (s.modCan f).free = s.free := rfl
@[simp] theorem reg_modCan (s : State) (f : CanS → CanS) (a : Nat) : (s.modCan f).reg a = s.reg a := rfl
@[simp] theorem get_modCan (s : State) (f : CanS → CanS) (g : RF) : (s.modCan f).get g = s.get g := rfl
@[simp] theorem ch_modCan (s : State) (f : CanS → CanS) (k : Ch) : (s.modCan f).ch k = s.ch k := rfl
@[simp] theorem can_modCan (s : State) (f : CanS → CanS) : (s.modCan f).can = f s.can := rfl

/-! ## modEvt -/

@[simp] theorem pending_modEvt (s : State) (f : EvtS → EvtS) : (s.modEvt f).pending = s.pending := rfl
@[simp] theorem regs_modEvt (s : State) (f : EvtS → EvtS) : (s.modEvt f).regs = s.regs := rfl
@[simp] theorem mram_modEvt (s : State) (f : EvtS → EvtS) : (s.modEvt f).mram = s.mram := rfl
@[simp] theorem dirty_modEvt (s : State) (f : EvtS → EvtS) : (s.modEvt f).dirty = s.dirty := rfl
@[simp] theorem chans_modEvt (s : State) (f : EvtS → EvtS) : (s.modEvt f).chans = s.chans := rfl
@[simp] theorem clock_modEvt (s : State) (f : EvtS → EvtS) : (s.modEvt f).clock = s.clock := rfl
@[simp] theorem sup_modEvt (s : State) (f : EvtS → EvtS) : (s.modEvt f).sup = s.sup := rfl
@[simp] theorem snap_modEvt (s : State) (f : EvtS → EvtS) : (s.modEvt f).snap = s.snap := rfl
@[simp] theorem sessions_modEvt (s : State) (f : EvtS → EvtS) : (s.modEvt f).sessions = s.sessions := rfl
@[simp] theorem idents_modEvt (s : State) (f : EvtS → EvtS) : (s.modEvt f).idents = s.idents := rfl
@[simp] theorem nextSid_modEvt (s : State) (f : EvtS → EvtS) : (s.modEvt f).nextSid = s.nextSid := rfl
@[simp] theorem joined_modEvt (s : State) (f : EvtS → EvtS) : (s.modEvt f).joined = s.joined := rfl
@[simp] theorem last_modEvt (s : State) (f : EvtS → EvtS) : (s.modEvt f).last = s.last := rfl
@[simp] theorem notifies_modEvt (s : State) (f : EvtS → EvtS) : (s.modEvt f).notifies = s.notifies := rfl
@[simp] theorem outbox_modEvt (s : State) (f : EvtS → EvtS) : (s.modEvt f).outbox = s.outbox := rfl
@[simp] theorem panel_modEvt (s : State) (f : EvtS → EvtS) : (s.modEvt f).panel = s.panel := rfl
@[simp] theorem therm_modEvt (s : State) (f : EvtS → EvtS) : (s.modEvt f).therm = s.therm := rfl
@[simp] theorem alloc_modEvt (s : State) (f : EvtS → EvtS) : (s.modEvt f).alloc = s.alloc := rfl
@[simp] theorem can_modEvt (s : State) (f : EvtS → EvtS) : (s.modEvt f).can = s.can := rfl
@[simp] theorem twin_modEvt (s : State) (f : EvtS → EvtS) : (s.modEvt f).twin = s.twin := rfl
@[simp] theorem upd_modEvt (s : State) (f : EvtS → EvtS) : (s.modEvt f).upd = s.upd := rfl
@[simp] theorem pmcs_modEvt (s : State) (f : EvtS → EvtS) : (s.modEvt f).pmcs = s.pmcs := rfl
@[simp] theorem free_modEvt (s : State) (f : EvtS → EvtS) : (s.modEvt f).free = s.free := rfl
@[simp] theorem reg_modEvt (s : State) (f : EvtS → EvtS) (a : Nat) : (s.modEvt f).reg a = s.reg a := rfl
@[simp] theorem get_modEvt (s : State) (f : EvtS → EvtS) (g : RF) : (s.modEvt f).get g = s.get g := rfl
@[simp] theorem ch_modEvt (s : State) (f : EvtS → EvtS) (k : Ch) : (s.modEvt f).ch k = s.ch k := rfl
@[simp] theorem evt_modEvt (s : State) (f : EvtS → EvtS) : (s.modEvt f).evt = f s.evt := rfl

/-! ## modClock -/

@[simp] theorem pending_modClock (s : State) (f : ClockS → ClockS) : (s.modClock f).pending = s.pending := rfl
@[simp] theorem regs_modClock (s : State) (f : ClockS → ClockS) : (s.modClock f).regs = s.regs := rfl
@[simp] theorem mram_modClock (s : State) (f : ClockS → ClockS) : (s.modClock f).mram = s.mram := rfl
@[simp] theorem dirty_modClock (s : State) (f : ClockS → ClockS) : (s.modClock f).dirty = s.dirty := rfl
@[simp] theorem chans_modClock (s : State) (f : ClockS → ClockS) : (s.modClock f).chans = s.chans := rfl
@[simp] theorem sup_modClock (s : State) (f : ClockS → ClockS) : (s.modClock f).sup = s.sup := rfl
@[simp] theorem snap_modClock (s : State) (f : ClockS → ClockS) : (s.modClock f).snap = s.snap := rfl
@[simp] theorem sessions_modClock (s : State) (f : ClockS → ClockS) : (s.modClock f).sessions = s.sessions := rfl
@[simp] theorem idents_modClock (s : State) (f : ClockS → ClockS) : (s.modClock f).idents = s.idents := rfl
@[simp] theorem nextSid_modClock (s : State) (f : ClockS → ClockS) : (s.modClock f).nextSid = s.nextSid := rfl
@[simp] theorem joined_modClock (s : State) (f : ClockS → ClockS) : (s.modClock f).joined = s.joined := rfl
@[simp] theorem last_modClock (s : State) (f : ClockS → ClockS) : (s.modClock f).last = s.last := rfl
@[simp] theorem notifies_modClock (s : State) (f : ClockS → ClockS) : (s.modClock f).notifies = s.notifies := rfl
@[simp] theorem outbox_modClock (s : State) (f : ClockS → ClockS) : (s.modClock f).outbox = s.outbox := rfl
@[simp] theorem panel_modClock (s : State) (f : ClockS → ClockS) : (s.modClock f).panel = s.panel := rfl
@[simp] theorem therm_modClock (s : State) (f : ClockS → ClockS) : (s.modClock f).therm = s.therm := rfl
@[simp] theorem alloc_modClock (s : State) (f : ClockS → ClockS) : (s.modClock f).alloc = s.alloc := rfl
@[simp] theorem can_modClock (s : State) (f : ClockS → ClockS) : (s.modClock f).can = s.can := rfl
@[simp] theorem twin_modClock (s : State) (f : ClockS → ClockS) : (s.modClock f).twin = s.twin := rfl
@[simp] theorem evt_modClock (s : State) (f : ClockS → ClockS) : (s.modClock f).evt = s.evt := rfl
@[simp] theorem upd_modClock (s : State) (f : ClockS → ClockS) : (s.modClock f).upd = s.upd := rfl
@[simp] theorem pmcs_modClock (s : State) (f : ClockS → ClockS) : (s.modClock f).pmcs = s.pmcs := rfl
@[simp] theorem free_modClock (s : State) (f : ClockS → ClockS) : (s.modClock f).free = s.free := rfl
@[simp] theorem reg_modClock (s : State) (f : ClockS → ClockS) (a : Nat) : (s.modClock f).reg a = s.reg a := rfl
@[simp] theorem get_modClock (s : State) (f : ClockS → ClockS) (g : RF) : (s.modClock f).get g = s.get g := rfl
@[simp] theorem ch_modClock (s : State) (f : ClockS → ClockS) (k : Ch) : (s.modClock f).ch k = s.ch k := rfl
@[simp] theorem clock_modClock (s : State) (f : ClockS → ClockS) : (s.modClock f).clock = f s.clock := rfl

/-! ## modPair -/

@[simp] theorem pending_modPair (s : State) (f : TwinS → TwinS) : (s.modPair f).pending = s.pending := rfl
@[simp] theorem regs_modPair (s : State) (f : TwinS → TwinS) : (s.modPair f).regs = s.regs := rfl
@[simp] theorem mram_modPair (s : State) (f : TwinS → TwinS) : (s.modPair f).mram = s.mram := rfl
@[simp] theorem dirty_modPair (s : State) (f : TwinS → TwinS) : (s.modPair f).dirty = s.dirty := rfl
@[simp] theorem chans_modPair (s : State) (f : TwinS → TwinS) : (s.modPair f).chans = s.chans := rfl
@[simp] theorem clock_modPair (s : State) (f : TwinS → TwinS) : (s.modPair f).clock = s.clock := rfl
@[simp] theorem sup_modPair (s : State) (f : TwinS → TwinS) : (s.modPair f).sup = s.sup := rfl
@[simp] theorem snap_modPair (s : State) (f : TwinS → TwinS) : (s.modPair f).snap = s.snap := rfl
@[simp] theorem sessions_modPair (s : State) (f : TwinS → TwinS) : (s.modPair f).sessions = s.sessions := rfl
@[simp] theorem idents_modPair (s : State) (f : TwinS → TwinS) : (s.modPair f).idents = s.idents := rfl
@[simp] theorem nextSid_modPair (s : State) (f : TwinS → TwinS) : (s.modPair f).nextSid = s.nextSid := rfl
@[simp] theorem joined_modPair (s : State) (f : TwinS → TwinS) : (s.modPair f).joined = s.joined := rfl
@[simp] theorem last_modPair (s : State) (f : TwinS → TwinS) : (s.modPair f).last = s.last := rfl
@[simp] theorem notifies_modPair (s : State) (f : TwinS → TwinS) : (s.modPair f).notifies = s.notifies := rfl
@[simp] theorem outbox_modPair (s : State) (f : TwinS → TwinS) : (s.modPair f).outbox = s.outbox := rfl
@[simp] theorem panel_modPair (s : State) (f : TwinS → TwinS) : (s.modPair f).panel = s.panel := rfl
@[simp] theorem therm_modPair (s : State) (f : TwinS → TwinS) : (s.modPair f).therm = s.therm := rfl
@[simp] theorem alloc_modPair (s : State) (f : TwinS → TwinS) : (s.modPair f).alloc = s.alloc := rfl
@[simp] theorem can_modPair (s : State) (f : TwinS → TwinS) : (s.modPair f).can = s.can := rfl
@[simp] theorem evt_modPair (s : State) (f : TwinS → TwinS) : (s.modPair f).evt = s.evt := rfl
@[simp] theorem upd_modPair (s : State) (f : TwinS → TwinS) : (s.modPair f).upd = s.upd := rfl
@[simp] theorem pmcs_modPair (s : State) (f : TwinS → TwinS) : (s.modPair f).pmcs = s.pmcs := rfl
@[simp] theorem free_modPair (s : State) (f : TwinS → TwinS) : (s.modPair f).free = s.free := rfl
@[simp] theorem reg_modPair (s : State) (f : TwinS → TwinS) (a : Nat) : (s.modPair f).reg a = s.reg a := rfl
@[simp] theorem get_modPair (s : State) (f : TwinS → TwinS) (g : RF) : (s.modPair f).get g = s.get g := rfl
@[simp] theorem ch_modPair (s : State) (f : TwinS → TwinS) (k : Ch) : (s.modPair f).ch k = s.ch k := rfl
@[simp] theorem twin_modPair (s : State) (f : TwinS → TwinS) : (s.modPair f).twin = f s.twin := rfl

/-! ## modSession -/

@[simp] theorem pending_modSession (s : State) (i : Nat) (f : Session → Session) : (s.modSession i f).pending = s.pending := rfl
@[simp] theorem regs_modSession (s : State) (i : Nat) (f : Session → Session) : (s.modSession i f).regs = s.regs := rfl
@[simp] theorem mram_modSession (s : State) (i : Nat) (f : Session → Session) : (s.modSession i f).mram = s.mram := rfl
@[simp] theorem dirty_modSession (s : State) (i : Nat) (f : Session → Session) : (s.modSession i f).dirty = s.dirty := rfl
@[simp] theorem chans_modSession (s : State) (i : Nat) (f : Session → Session) : (s.modSession i f).chans = s.chans := rfl
@[simp] theorem clock_modSession (s : State) (i : Nat) (f : Session → Session) : (s.modSession i f).clock = s.clock := rfl
@[simp] theorem sup_modSession (s : State) (i : Nat) (f : Session → Session) : (s.modSession i f).sup = s.sup := rfl
@[simp] theorem snap_modSession (s : State) (i : Nat) (f : Session → Session) : (s.modSession i f).snap = s.snap := rfl
@[simp] theorem idents_modSession (s : State) (i : Nat) (f : Session → Session) : (s.modSession i f).idents = s.idents := rfl
@[simp] theorem nextSid_modSession (s : State) (i : Nat) (f : Session → Session) : (s.modSession i f).nextSid = s.nextSid := rfl
@[simp] theorem joined_modSession (s : State) (i : Nat) (f : Session → Session) : (s.modSession i f).joined = s.joined := rfl
@[simp] theorem last_modSession (s : State) (i : Nat) (f : Session → Session) : (s.modSession i f).last = s.last := rfl
@[simp] theorem notifies_modSession (s : State) (i : Nat) (f : Session → Session) : (s.modSession i f).notifies = s.notifies := rfl
@[simp] theorem outbox_modSession (s : State) (i : Nat) (f : Session → Session) : (s.modSession i f).outbox = s.outbox := rfl
@[simp] theorem panel_modSession (s : State) (i : Nat) (f : Session → Session) : (s.modSession i f).panel = s.panel := rfl
@[simp] theorem therm_modSession (s : State) (i : Nat) (f : Session → Session) : (s.modSession i f).therm = s.therm := rfl
@[simp] theorem alloc_modSession (s : State) (i : Nat) (f : Session → Session) : (s.modSession i f).alloc = s.alloc := rfl
@[simp] theorem can_modSession (s : State) (i : Nat) (f : Session → Session) : (s.modSession i f).can = s.can := rfl
@[simp] theorem twin_modSession (s : State) (i : Nat) (f : Session → Session) : (s.modSession i f).twin = s.twin := rfl
@[simp] theorem evt_modSession (s : State) (i : Nat) (f : Session → Session) : (s.modSession i f).evt = s.evt := rfl
@[simp] theorem upd_modSession (s : State) (i : Nat) (f : Session → Session) : (s.modSession i f).upd = s.upd := rfl
@[simp] theorem pmcs_modSession (s : State) (i : Nat) (f : Session → Session) : (s.modSession i f).pmcs = s.pmcs := rfl
@[simp] theorem free_modSession (s : State) (i : Nat) (f : Session → Session) : (s.modSession i f).free = s.free := rfl
@[simp] theorem reg_modSession (s : State) (i : Nat) (f : Session → Session) (a : Nat) : (s.modSession i f).reg a = s.reg a := rfl
@[simp] theorem get_modSession (s : State) (i : Nat) (f : Session → Session) (g : RF) : (s.modSession i f).get g = s.get g := rfl
@[simp] theorem ch_modSession (s : State) (i : Nat) (f : Session → Session) (k : Ch) : (s.modSession i f).ch k = s.ch k := rfl

/-! ## modIdent -/

@[simp] theorem pending_modIdent (s : State) (i : Ident) (f : IdState → IdState) : (s.modIdent i f).pending = s.pending := rfl
@[simp] theorem regs_modIdent (s : State) (i : Ident) (f : IdState → IdState) : (s.modIdent i f).regs = s.regs := rfl
@[simp] theorem mram_modIdent (s : State) (i : Ident) (f : IdState → IdState) : (s.modIdent i f).mram = s.mram := rfl
@[simp] theorem dirty_modIdent (s : State) (i : Ident) (f : IdState → IdState) : (s.modIdent i f).dirty = s.dirty := rfl
@[simp] theorem chans_modIdent (s : State) (i : Ident) (f : IdState → IdState) : (s.modIdent i f).chans = s.chans := rfl
@[simp] theorem clock_modIdent (s : State) (i : Ident) (f : IdState → IdState) : (s.modIdent i f).clock = s.clock := rfl
@[simp] theorem sup_modIdent (s : State) (i : Ident) (f : IdState → IdState) : (s.modIdent i f).sup = s.sup := rfl
@[simp] theorem snap_modIdent (s : State) (i : Ident) (f : IdState → IdState) : (s.modIdent i f).snap = s.snap := rfl
@[simp] theorem sessions_modIdent (s : State) (i : Ident) (f : IdState → IdState) : (s.modIdent i f).sessions = s.sessions := rfl
@[simp] theorem nextSid_modIdent (s : State) (i : Ident) (f : IdState → IdState) : (s.modIdent i f).nextSid = s.nextSid := rfl
@[simp] theorem joined_modIdent (s : State) (i : Ident) (f : IdState → IdState) : (s.modIdent i f).joined = s.joined := rfl
@[simp] theorem last_modIdent (s : State) (i : Ident) (f : IdState → IdState) : (s.modIdent i f).last = s.last := rfl
@[simp] theorem notifies_modIdent (s : State) (i : Ident) (f : IdState → IdState) : (s.modIdent i f).notifies = s.notifies := rfl
@[simp] theorem outbox_modIdent (s : State) (i : Ident) (f : IdState → IdState) : (s.modIdent i f).outbox = s.outbox := rfl
@[simp] theorem panel_modIdent (s : State) (i : Ident) (f : IdState → IdState) : (s.modIdent i f).panel = s.panel := rfl
@[simp] theorem therm_modIdent (s : State) (i : Ident) (f : IdState → IdState) : (s.modIdent i f).therm = s.therm := rfl
@[simp] theorem alloc_modIdent (s : State) (i : Ident) (f : IdState → IdState) : (s.modIdent i f).alloc = s.alloc := rfl
@[simp] theorem can_modIdent (s : State) (i : Ident) (f : IdState → IdState) : (s.modIdent i f).can = s.can := rfl
@[simp] theorem twin_modIdent (s : State) (i : Ident) (f : IdState → IdState) : (s.modIdent i f).twin = s.twin := rfl
@[simp] theorem evt_modIdent (s : State) (i : Ident) (f : IdState → IdState) : (s.modIdent i f).evt = s.evt := rfl
@[simp] theorem upd_modIdent (s : State) (i : Ident) (f : IdState → IdState) : (s.modIdent i f).upd = s.upd := rfl
@[simp] theorem pmcs_modIdent (s : State) (i : Ident) (f : IdState → IdState) : (s.modIdent i f).pmcs = s.pmcs := rfl
@[simp] theorem free_modIdent (s : State) (i : Ident) (f : IdState → IdState) : (s.modIdent i f).free = s.free := rfl
@[simp] theorem reg_modIdent (s : State) (i : Ident) (f : IdState → IdState) (a : Nat) : (s.modIdent i f).reg a = s.reg a := rfl
@[simp] theorem get_modIdent (s : State) (i : Ident) (f : IdState → IdState) (g : RF) : (s.modIdent i f).get g = s.get g := rfl
@[simp] theorem ch_modIdent (s : State) (i : Ident) (f : IdState → IdState) (k : Ch) : (s.modIdent i f).ch k = s.ch k := rfl

/-! ## emit -/

@[simp] theorem pending_emit (s : State) (m : OutMsg) : (s.emit m).pending = s.pending := rfl
@[simp] theorem regs_emit (s : State) (m : OutMsg) : (s.emit m).regs = s.regs := rfl
@[simp] theorem mram_emit (s : State) (m : OutMsg) : (s.emit m).mram = s.mram := rfl
@[simp] theorem dirty_emit (s : State) (m : OutMsg) : (s.emit m).dirty = s.dirty := rfl
@[simp] theorem chans_emit (s : State) (m : OutMsg) : (s.emit m).chans = s.chans := rfl
@[simp] theorem clock_emit (s : State) (m : OutMsg) : (s.emit m).clock = s.clock := rfl
@[simp] theorem sup_emit (s : State) (m : OutMsg) : (s.emit m).sup = s.sup := rfl
@[simp] theorem snap_emit (s : State) (m : OutMsg) : (s.emit m).snap = s.snap := rfl
@[simp] theorem sessions_emit (s : State) (m : OutMsg) : (s.emit m).sessions = s.sessions := rfl
@[simp] theorem idents_emit (s : State) (m : OutMsg) : (s.emit m).idents = s.idents := rfl
@[simp] theorem nextSid_emit (s : State) (m : OutMsg) : (s.emit m).nextSid = s.nextSid := rfl
@[simp] theorem joined_emit (s : State) (m : OutMsg) : (s.emit m).joined = s.joined := rfl
@[simp] theorem last_emit (s : State) (m : OutMsg) : (s.emit m).last = s.last := rfl
@[simp] theorem notifies_emit (s : State) (m : OutMsg) : (s.emit m).notifies = s.notifies := rfl
@[simp] theorem panel_emit (s : State) (m : OutMsg) : (s.emit m).panel = s.panel := rfl
@[simp] theorem therm_emit (s : State) (m : OutMsg) : (s.emit m).therm = s.therm := rfl
@[simp] theorem alloc_emit (s : State) (m : OutMsg) : (s.emit m).alloc = s.alloc := rfl
@[simp] theorem can_emit (s : State) (m : OutMsg) : (s.emit m).can = s.can := rfl
@[simp] theorem twin_emit (s : State) (m : OutMsg) : (s.emit m).twin = s.twin := rfl
@[simp] theorem evt_emit (s : State) (m : OutMsg) : (s.emit m).evt = s.evt := rfl
@[simp] theorem upd_emit (s : State) (m : OutMsg) : (s.emit m).upd = s.upd := rfl
@[simp] theorem pmcs_emit (s : State) (m : OutMsg) : (s.emit m).pmcs = s.pmcs := rfl
@[simp] theorem free_emit (s : State) (m : OutMsg) : (s.emit m).free = s.free := rfl
@[simp] theorem reg_emit (s : State) (m : OutMsg) (a : Nat) : (s.emit m).reg a = s.reg a := rfl
@[simp] theorem get_emit (s : State) (m : OutMsg) (g : RF) : (s.emit m).get g = s.get g := rfl
@[simp] theorem ch_emit (s : State) (m : OutMsg) (k : Ch) : (s.emit m).ch k = s.ch k := rfl
@[simp] theorem outbox_emit (s : State) (m : OutMsg) : (s.emit m).outbox = s.outbox ++ [m] := rfl

/-- A TWIN message changes what an `emit` changes. -/
@[simp] theorem twinSend_eq (s : State) (k : Nat) (l : List Nat) : s.twinSend k l = s.emit (.twin k (s.ep % 2 ^ 32) l) := rfl

/-! ## notify -/

@[simp] theorem pending_notify (s : State) (pg : PageRef) (b : Nat) (q : Word) : (s.notify pg b q).pending = s.pending := rfl
@[simp] theorem regs_notify (s : State) (pg : PageRef) (b : Nat) (q : Word) : (s.notify pg b q).regs = s.regs := rfl
@[simp] theorem mram_notify (s : State) (pg : PageRef) (b : Nat) (q : Word) : (s.notify pg b q).mram = s.mram := rfl
@[simp] theorem dirty_notify (s : State) (pg : PageRef) (b : Nat) (q : Word) : (s.notify pg b q).dirty = s.dirty := rfl
@[simp] theorem chans_notify (s : State) (pg : PageRef) (b : Nat) (q : Word) : (s.notify pg b q).chans = s.chans := rfl
@[simp] theorem clock_notify (s : State) (pg : PageRef) (b : Nat) (q : Word) : (s.notify pg b q).clock = s.clock := rfl
@[simp] theorem sup_notify (s : State) (pg : PageRef) (b : Nat) (q : Word) : (s.notify pg b q).sup = s.sup := rfl
@[simp] theorem snap_notify (s : State) (pg : PageRef) (b : Nat) (q : Word) : (s.notify pg b q).snap = s.snap := rfl
@[simp] theorem sessions_notify (s : State) (pg : PageRef) (b : Nat) (q : Word) : (s.notify pg b q).sessions = s.sessions := rfl
@[simp] theorem idents_notify (s : State) (pg : PageRef) (b : Nat) (q : Word) : (s.notify pg b q).idents = s.idents := rfl
@[simp] theorem nextSid_notify (s : State) (pg : PageRef) (b : Nat) (q : Word) : (s.notify pg b q).nextSid = s.nextSid := rfl
@[simp] theorem joined_notify (s : State) (pg : PageRef) (b : Nat) (q : Word) : (s.notify pg b q).joined = s.joined := rfl
@[simp] theorem last_notify (s : State) (pg : PageRef) (b : Nat) (q : Word) : (s.notify pg b q).last = s.last := rfl
@[simp] theorem outbox_notify (s : State) (pg : PageRef) (b : Nat) (q : Word) : (s.notify pg b q).outbox = s.outbox := rfl
@[simp] theorem panel_notify (s : State) (pg : PageRef) (b : Nat) (q : Word) : (s.notify pg b q).panel = s.panel := rfl
@[simp] theorem therm_notify (s : State) (pg : PageRef) (b : Nat) (q : Word) : (s.notify pg b q).therm = s.therm := rfl
@[simp] theorem alloc_notify (s : State) (pg : PageRef) (b : Nat) (q : Word) : (s.notify pg b q).alloc = s.alloc := rfl
@[simp] theorem can_notify (s : State) (pg : PageRef) (b : Nat) (q : Word) : (s.notify pg b q).can = s.can := rfl
@[simp] theorem twin_notify (s : State) (pg : PageRef) (b : Nat) (q : Word) : (s.notify pg b q).twin = s.twin := rfl
@[simp] theorem evt_notify (s : State) (pg : PageRef) (b : Nat) (q : Word) : (s.notify pg b q).evt = s.evt := rfl
@[simp] theorem upd_notify (s : State) (pg : PageRef) (b : Nat) (q : Word) : (s.notify pg b q).upd = s.upd := rfl
@[simp] theorem pmcs_notify (s : State) (pg : PageRef) (b : Nat) (q : Word) : (s.notify pg b q).pmcs = s.pmcs := rfl
@[simp] theorem free_notify (s : State) (pg : PageRef) (b : Nat) (q : Word) : (s.notify pg b q).free = s.free := rfl
@[simp] theorem reg_notify (s : State) (pg : PageRef) (b : Nat) (q : Word) (a : Nat) : (s.notify pg b q).reg a = s.reg a := rfl
@[simp] theorem get_notify (s : State) (pg : PageRef) (b : Nat) (q : Word) (g : RF) : (s.notify pg b q).get g = s.get g := rfl
@[simp] theorem ch_notify (s : State) (pg : PageRef) (b : Nat) (q : Word) (k : Ch) : (s.notify pg b q).ch k = s.ch k := rfl

/-! ## tick -/

@[simp] theorem pending_tick (s : State) : (s.tick).pending = s.pending := rfl
@[simp] theorem regs_tick (s : State) : (s.tick).regs = s.regs := rfl
@[simp] theorem mram_tick (s : State) : (s.tick).mram = s.mram := rfl
@[simp] theorem dirty_tick (s : State) : (s.tick).dirty = s.dirty := rfl
@[simp] theorem chans_tick (s : State) : (s.tick).chans = s.chans := rfl
@[simp] theorem sup_tick (s : State) : (s.tick).sup = s.sup := rfl
@[simp] theorem snap_tick (s : State) : (s.tick).snap = s.snap := rfl
@[simp] theorem sessions_tick (s : State) : (s.tick).sessions = s.sessions := rfl
@[simp] theorem idents_tick (s : State) : (s.tick).idents = s.idents := rfl
@[simp] theorem nextSid_tick (s : State) : (s.tick).nextSid = s.nextSid := rfl
@[simp] theorem joined_tick (s : State) : (s.tick).joined = s.joined := rfl
@[simp] theorem last_tick (s : State) : (s.tick).last = s.last := rfl
@[simp] theorem notifies_tick (s : State) : (s.tick).notifies = s.notifies := rfl
@[simp] theorem outbox_tick (s : State) : (s.tick).outbox = s.outbox := rfl
@[simp] theorem panel_tick (s : State) : (s.tick).panel = s.panel := rfl
@[simp] theorem therm_tick (s : State) : (s.tick).therm = s.therm := rfl
@[simp] theorem alloc_tick (s : State) : (s.tick).alloc = s.alloc := rfl
@[simp] theorem can_tick (s : State) : (s.tick).can = s.can := rfl
@[simp] theorem twin_tick (s : State) : (s.tick).twin = s.twin := rfl
@[simp] theorem evt_tick (s : State) : (s.tick).evt = s.evt := rfl
@[simp] theorem upd_tick (s : State) : (s.tick).upd = s.upd := rfl
@[simp] theorem pmcs_tick (s : State) : (s.tick).pmcs = s.pmcs := rfl
@[simp] theorem free_tick (s : State) : (s.tick).free = s.free := rfl
@[simp] theorem reg_tick (s : State)  (a : Nat) : (s.tick).reg a = s.reg a := rfl
@[simp] theorem get_tick (s : State)  (g : RF) : (s.tick).get g = s.get g := rfl
@[simp] theorem ch_tick (s : State)  (k : Ch) : (s.tick).ch k = s.ch k := rfl

/-! ## Channel parts -/

theorem ch_setCh (s : State) (n k : Ch) (c : Chan) : (s.setCh n c).ch k = if k = n then c else s.ch k := by
  unfold State.setCh State.ch
  simp only [Fin.getElem_fin, Vector.getElem_set]
  by_cases h : k = n
  · subst h; simp
  · have : ¬ n.val = k.val := fun e => h (Fin.ext e.symm)
    simp [h, this]

@[simp] theorem ch_setCh_same (s : State) (n : Ch) (c : Chan) : (s.setCh n c).ch n = c := by simp [ch_setCh]

theorem ch_setCh_ne (s : State) (n k : Ch) (c : Chan) (h : k ≠ n) : (s.setCh n c).ch k = s.ch k := by
  simp [ch_setCh, h]

@[simp] theorem ch_modCh_same (s : State) (n : Ch) (f : Chan → Chan) : (s.modCh n f).ch n = f (s.ch n) := by
  simp [State.modCh]

theorem ch_modCh_ne (s : State) (n k : Ch) (f : Chan → Chan) (h : k ≠ n) : (s.modCh n f).ch k = s.ch k := by
  simp [State.modCh, ch_setCh, h]

@[simp] theorem ch_ring_modRing (s : State) (n : Ch) (f : RingS → RingS) : ((s.modRing n f).ch n).ring = f (s.ch n).ring := by
  simp [State.modRing]
@[simp] theorem ch_pour_modRing (s : State) (n : Ch) (f : RingS → RingS) : ((s.modRing n f).ch n).pour = (s.ch n).pour := by
  simp [State.modRing]
@[simp] theorem ch_fifo_modRing (s : State) (n : Ch) (f : RingS → RingS) : ((s.modRing n f).ch n).fifo = (s.ch n).fifo := by
  simp [State.modRing]
@[simp] theorem ch_cdiag_modRing (s : State) (n : Ch) (f : RingS → RingS) : ((s.modRing n f).ch n).cdiag = (s.ch n).cdiag := by
  simp [State.modRing]
@[simp] theorem ch_bal_modRing (s : State) (n : Ch) (f : RingS → RingS) : ((s.modRing n f).ch n).bal = (s.ch n).bal := by
  simp [State.modRing]
@[simp] theorem ch_ctle_modRing (s : State) (n : Ch) (f : RingS → RingS) : ((s.modRing n f).ch n).ctle = (s.ch n).ctle := by
  simp [State.modRing]
@[simp] theorem ch_prof_modRing (s : State) (n : Ch) (f : RingS → RingS) : ((s.modRing n f).ch n).prof = (s.ch n).prof := by
  simp [State.modRing]
@[simp] theorem ch_vax_modRing (s : State) (n : Ch) (f : RingS → RingS) : ((s.modRing n f).ch n).vax = (s.ch n).vax := by
  simp [State.modRing]
@[simp] theorem ch_imp_modRing (s : State) (n : Ch) (f : RingS → RingS) : ((s.modRing n f).ch n).imp = (s.ch n).imp := by
  simp [State.modRing]
@[simp] theorem ch_est_modRing (s : State) (n : Ch) (f : RingS → RingS) : ((s.modRing n f).ch n).est = (s.ch n).est := by
  simp [State.modRing]
@[simp] theorem ch_safe_modRing (s : State) (n : Ch) (f : RingS → RingS) : ((s.modRing n f).ch n).safe = (s.ch n).safe := by
  simp [State.modRing]
@[simp] theorem ch_perc_modRing (s : State) (n : Ch) (f : RingS → RingS) : ((s.modRing n f).ch n).perc = (s.ch n).perc := by
  simp [State.modRing]
@[simp] theorem ch_twin_modRing (s : State) (n : Ch) (f : RingS → RingS) : ((s.modRing n f).ch n).twin = (s.ch n).twin := by
  simp [State.modRing]
theorem ch_modRing_ne (s : State) (n k : Ch) (f : RingS → RingS) (h : k ≠ n) : (s.modRing n f).ch k = s.ch k :=
  ch_modCh_ne s n k _ h

@[simp] theorem ch_ring_modPour (s : State) (n : Ch) (f : PourS → PourS) : ((s.modPour n f).ch n).ring = (s.ch n).ring := by
  simp [State.modPour]
@[simp] theorem ch_pour_modPour (s : State) (n : Ch) (f : PourS → PourS) : ((s.modPour n f).ch n).pour = f (s.ch n).pour := by
  simp [State.modPour]
@[simp] theorem ch_fifo_modPour (s : State) (n : Ch) (f : PourS → PourS) : ((s.modPour n f).ch n).fifo = (s.ch n).fifo := by
  simp [State.modPour]
@[simp] theorem ch_cdiag_modPour (s : State) (n : Ch) (f : PourS → PourS) : ((s.modPour n f).ch n).cdiag = (s.ch n).cdiag := by
  simp [State.modPour]
@[simp] theorem ch_bal_modPour (s : State) (n : Ch) (f : PourS → PourS) : ((s.modPour n f).ch n).bal = (s.ch n).bal := by
  simp [State.modPour]
@[simp] theorem ch_ctle_modPour (s : State) (n : Ch) (f : PourS → PourS) : ((s.modPour n f).ch n).ctle = (s.ch n).ctle := by
  simp [State.modPour]
@[simp] theorem ch_prof_modPour (s : State) (n : Ch) (f : PourS → PourS) : ((s.modPour n f).ch n).prof = (s.ch n).prof := by
  simp [State.modPour]
@[simp] theorem ch_vax_modPour (s : State) (n : Ch) (f : PourS → PourS) : ((s.modPour n f).ch n).vax = (s.ch n).vax := by
  simp [State.modPour]
@[simp] theorem ch_imp_modPour (s : State) (n : Ch) (f : PourS → PourS) : ((s.modPour n f).ch n).imp = (s.ch n).imp := by
  simp [State.modPour]
@[simp] theorem ch_est_modPour (s : State) (n : Ch) (f : PourS → PourS) : ((s.modPour n f).ch n).est = (s.ch n).est := by
  simp [State.modPour]
@[simp] theorem ch_safe_modPour (s : State) (n : Ch) (f : PourS → PourS) : ((s.modPour n f).ch n).safe = (s.ch n).safe := by
  simp [State.modPour]
@[simp] theorem ch_perc_modPour (s : State) (n : Ch) (f : PourS → PourS) : ((s.modPour n f).ch n).perc = (s.ch n).perc := by
  simp [State.modPour]
@[simp] theorem ch_twin_modPour (s : State) (n : Ch) (f : PourS → PourS) : ((s.modPour n f).ch n).twin = (s.ch n).twin := by
  simp [State.modPour]
theorem ch_modPour_ne (s : State) (n k : Ch) (f : PourS → PourS) (h : k ≠ n) : (s.modPour n f).ch k = s.ch k :=
  ch_modCh_ne s n k _ h

@[simp] theorem ch_ring_modFifo (s : State) (n : Ch) (f : FifoS → FifoS) : ((s.modFifo n f).ch n).ring = (s.ch n).ring := by
  simp [State.modFifo]
@[simp] theorem ch_pour_modFifo (s : State) (n : Ch) (f : FifoS → FifoS) : ((s.modFifo n f).ch n).pour = (s.ch n).pour := by
  simp [State.modFifo]
@[simp] theorem ch_fifo_modFifo (s : State) (n : Ch) (f : FifoS → FifoS) : ((s.modFifo n f).ch n).fifo = f (s.ch n).fifo := by
  simp [State.modFifo]
@[simp] theorem ch_cdiag_modFifo (s : State) (n : Ch) (f : FifoS → FifoS) : ((s.modFifo n f).ch n).cdiag = (s.ch n).cdiag := by
  simp [State.modFifo]
@[simp] theorem ch_bal_modFifo (s : State) (n : Ch) (f : FifoS → FifoS) : ((s.modFifo n f).ch n).bal = (s.ch n).bal := by
  simp [State.modFifo]
@[simp] theorem ch_ctle_modFifo (s : State) (n : Ch) (f : FifoS → FifoS) : ((s.modFifo n f).ch n).ctle = (s.ch n).ctle := by
  simp [State.modFifo]
@[simp] theorem ch_prof_modFifo (s : State) (n : Ch) (f : FifoS → FifoS) : ((s.modFifo n f).ch n).prof = (s.ch n).prof := by
  simp [State.modFifo]
@[simp] theorem ch_vax_modFifo (s : State) (n : Ch) (f : FifoS → FifoS) : ((s.modFifo n f).ch n).vax = (s.ch n).vax := by
  simp [State.modFifo]
@[simp] theorem ch_imp_modFifo (s : State) (n : Ch) (f : FifoS → FifoS) : ((s.modFifo n f).ch n).imp = (s.ch n).imp := by
  simp [State.modFifo]
@[simp] theorem ch_est_modFifo (s : State) (n : Ch) (f : FifoS → FifoS) : ((s.modFifo n f).ch n).est = (s.ch n).est := by
  simp [State.modFifo]
@[simp] theorem ch_safe_modFifo (s : State) (n : Ch) (f : FifoS → FifoS) : ((s.modFifo n f).ch n).safe = (s.ch n).safe := by
  simp [State.modFifo]
@[simp] theorem ch_perc_modFifo (s : State) (n : Ch) (f : FifoS → FifoS) : ((s.modFifo n f).ch n).perc = (s.ch n).perc := by
  simp [State.modFifo]
@[simp] theorem ch_twin_modFifo (s : State) (n : Ch) (f : FifoS → FifoS) : ((s.modFifo n f).ch n).twin = (s.ch n).twin := by
  simp [State.modFifo]
theorem ch_modFifo_ne (s : State) (n k : Ch) (f : FifoS → FifoS) (h : k ≠ n) : (s.modFifo n f).ch k = s.ch k :=
  ch_modCh_ne s n k _ h

@[simp] theorem ch_ring_modCdiag (s : State) (n : Ch) (f : CdiagS → CdiagS) : ((s.modCdiag n f).ch n).ring = (s.ch n).ring := by
  simp [State.modCdiag]
@[simp] theorem ch_pour_modCdiag (s : State) (n : Ch) (f : CdiagS → CdiagS) : ((s.modCdiag n f).ch n).pour = (s.ch n).pour := by
  simp [State.modCdiag]
@[simp] theorem ch_fifo_modCdiag (s : State) (n : Ch) (f : CdiagS → CdiagS) : ((s.modCdiag n f).ch n).fifo = (s.ch n).fifo := by
  simp [State.modCdiag]
@[simp] theorem ch_cdiag_modCdiag (s : State) (n : Ch) (f : CdiagS → CdiagS) : ((s.modCdiag n f).ch n).cdiag = f (s.ch n).cdiag := by
  simp [State.modCdiag]
@[simp] theorem ch_bal_modCdiag (s : State) (n : Ch) (f : CdiagS → CdiagS) : ((s.modCdiag n f).ch n).bal = (s.ch n).bal := by
  simp [State.modCdiag]
@[simp] theorem ch_ctle_modCdiag (s : State) (n : Ch) (f : CdiagS → CdiagS) : ((s.modCdiag n f).ch n).ctle = (s.ch n).ctle := by
  simp [State.modCdiag]
@[simp] theorem ch_prof_modCdiag (s : State) (n : Ch) (f : CdiagS → CdiagS) : ((s.modCdiag n f).ch n).prof = (s.ch n).prof := by
  simp [State.modCdiag]
@[simp] theorem ch_vax_modCdiag (s : State) (n : Ch) (f : CdiagS → CdiagS) : ((s.modCdiag n f).ch n).vax = (s.ch n).vax := by
  simp [State.modCdiag]
@[simp] theorem ch_imp_modCdiag (s : State) (n : Ch) (f : CdiagS → CdiagS) : ((s.modCdiag n f).ch n).imp = (s.ch n).imp := by
  simp [State.modCdiag]
@[simp] theorem ch_est_modCdiag (s : State) (n : Ch) (f : CdiagS → CdiagS) : ((s.modCdiag n f).ch n).est = (s.ch n).est := by
  simp [State.modCdiag]
@[simp] theorem ch_safe_modCdiag (s : State) (n : Ch) (f : CdiagS → CdiagS) : ((s.modCdiag n f).ch n).safe = (s.ch n).safe := by
  simp [State.modCdiag]
@[simp] theorem ch_perc_modCdiag (s : State) (n : Ch) (f : CdiagS → CdiagS) : ((s.modCdiag n f).ch n).perc = (s.ch n).perc := by
  simp [State.modCdiag]
@[simp] theorem ch_twin_modCdiag (s : State) (n : Ch) (f : CdiagS → CdiagS) : ((s.modCdiag n f).ch n).twin = (s.ch n).twin := by
  simp [State.modCdiag]
theorem ch_modCdiag_ne (s : State) (n k : Ch) (f : CdiagS → CdiagS) (h : k ≠ n) : (s.modCdiag n f).ch k = s.ch k :=
  ch_modCh_ne s n k _ h

@[simp] theorem ch_ring_modBal (s : State) (n : Ch) (f : BalS → BalS) : ((s.modBal n f).ch n).ring = (s.ch n).ring := by
  simp [State.modBal]
@[simp] theorem ch_pour_modBal (s : State) (n : Ch) (f : BalS → BalS) : ((s.modBal n f).ch n).pour = (s.ch n).pour := by
  simp [State.modBal]
@[simp] theorem ch_fifo_modBal (s : State) (n : Ch) (f : BalS → BalS) : ((s.modBal n f).ch n).fifo = (s.ch n).fifo := by
  simp [State.modBal]
@[simp] theorem ch_cdiag_modBal (s : State) (n : Ch) (f : BalS → BalS) : ((s.modBal n f).ch n).cdiag = (s.ch n).cdiag := by
  simp [State.modBal]
@[simp] theorem ch_bal_modBal (s : State) (n : Ch) (f : BalS → BalS) : ((s.modBal n f).ch n).bal = f (s.ch n).bal := by
  simp [State.modBal]
@[simp] theorem ch_ctle_modBal (s : State) (n : Ch) (f : BalS → BalS) : ((s.modBal n f).ch n).ctle = (s.ch n).ctle := by
  simp [State.modBal]
@[simp] theorem ch_prof_modBal (s : State) (n : Ch) (f : BalS → BalS) : ((s.modBal n f).ch n).prof = (s.ch n).prof := by
  simp [State.modBal]
@[simp] theorem ch_vax_modBal (s : State) (n : Ch) (f : BalS → BalS) : ((s.modBal n f).ch n).vax = (s.ch n).vax := by
  simp [State.modBal]
@[simp] theorem ch_imp_modBal (s : State) (n : Ch) (f : BalS → BalS) : ((s.modBal n f).ch n).imp = (s.ch n).imp := by
  simp [State.modBal]
@[simp] theorem ch_est_modBal (s : State) (n : Ch) (f : BalS → BalS) : ((s.modBal n f).ch n).est = (s.ch n).est := by
  simp [State.modBal]
@[simp] theorem ch_safe_modBal (s : State) (n : Ch) (f : BalS → BalS) : ((s.modBal n f).ch n).safe = (s.ch n).safe := by
  simp [State.modBal]
@[simp] theorem ch_perc_modBal (s : State) (n : Ch) (f : BalS → BalS) : ((s.modBal n f).ch n).perc = (s.ch n).perc := by
  simp [State.modBal]
@[simp] theorem ch_twin_modBal (s : State) (n : Ch) (f : BalS → BalS) : ((s.modBal n f).ch n).twin = (s.ch n).twin := by
  simp [State.modBal]
theorem ch_modBal_ne (s : State) (n k : Ch) (f : BalS → BalS) (h : k ≠ n) : (s.modBal n f).ch k = s.ch k :=
  ch_modCh_ne s n k _ h

@[simp] theorem ch_ring_modCtle (s : State) (n : Ch) (f : CtleS → CtleS) : ((s.modCtle n f).ch n).ring = (s.ch n).ring := by
  simp [State.modCtle]
@[simp] theorem ch_pour_modCtle (s : State) (n : Ch) (f : CtleS → CtleS) : ((s.modCtle n f).ch n).pour = (s.ch n).pour := by
  simp [State.modCtle]
@[simp] theorem ch_fifo_modCtle (s : State) (n : Ch) (f : CtleS → CtleS) : ((s.modCtle n f).ch n).fifo = (s.ch n).fifo := by
  simp [State.modCtle]
@[simp] theorem ch_cdiag_modCtle (s : State) (n : Ch) (f : CtleS → CtleS) : ((s.modCtle n f).ch n).cdiag = (s.ch n).cdiag := by
  simp [State.modCtle]
@[simp] theorem ch_bal_modCtle (s : State) (n : Ch) (f : CtleS → CtleS) : ((s.modCtle n f).ch n).bal = (s.ch n).bal := by
  simp [State.modCtle]
@[simp] theorem ch_ctle_modCtle (s : State) (n : Ch) (f : CtleS → CtleS) : ((s.modCtle n f).ch n).ctle = f (s.ch n).ctle := by
  simp [State.modCtle]
@[simp] theorem ch_prof_modCtle (s : State) (n : Ch) (f : CtleS → CtleS) : ((s.modCtle n f).ch n).prof = (s.ch n).prof := by
  simp [State.modCtle]
@[simp] theorem ch_vax_modCtle (s : State) (n : Ch) (f : CtleS → CtleS) : ((s.modCtle n f).ch n).vax = (s.ch n).vax := by
  simp [State.modCtle]
@[simp] theorem ch_imp_modCtle (s : State) (n : Ch) (f : CtleS → CtleS) : ((s.modCtle n f).ch n).imp = (s.ch n).imp := by
  simp [State.modCtle]
@[simp] theorem ch_est_modCtle (s : State) (n : Ch) (f : CtleS → CtleS) : ((s.modCtle n f).ch n).est = (s.ch n).est := by
  simp [State.modCtle]
@[simp] theorem ch_safe_modCtle (s : State) (n : Ch) (f : CtleS → CtleS) : ((s.modCtle n f).ch n).safe = (s.ch n).safe := by
  simp [State.modCtle]
@[simp] theorem ch_perc_modCtle (s : State) (n : Ch) (f : CtleS → CtleS) : ((s.modCtle n f).ch n).perc = (s.ch n).perc := by
  simp [State.modCtle]
@[simp] theorem ch_twin_modCtle (s : State) (n : Ch) (f : CtleS → CtleS) : ((s.modCtle n f).ch n).twin = (s.ch n).twin := by
  simp [State.modCtle]
theorem ch_modCtle_ne (s : State) (n k : Ch) (f : CtleS → CtleS) (h : k ≠ n) : (s.modCtle n f).ch k = s.ch k :=
  ch_modCh_ne s n k _ h

@[simp] theorem ch_ring_modProf (s : State) (n : Ch) (f : ProfS → ProfS) : ((s.modProf n f).ch n).ring = (s.ch n).ring := by
  simp [State.modProf]
@[simp] theorem ch_pour_modProf (s : State) (n : Ch) (f : ProfS → ProfS) : ((s.modProf n f).ch n).pour = (s.ch n).pour := by
  simp [State.modProf]
@[simp] theorem ch_fifo_modProf (s : State) (n : Ch) (f : ProfS → ProfS) : ((s.modProf n f).ch n).fifo = (s.ch n).fifo := by
  simp [State.modProf]
@[simp] theorem ch_cdiag_modProf (s : State) (n : Ch) (f : ProfS → ProfS) : ((s.modProf n f).ch n).cdiag = (s.ch n).cdiag := by
  simp [State.modProf]
@[simp] theorem ch_bal_modProf (s : State) (n : Ch) (f : ProfS → ProfS) : ((s.modProf n f).ch n).bal = (s.ch n).bal := by
  simp [State.modProf]
@[simp] theorem ch_ctle_modProf (s : State) (n : Ch) (f : ProfS → ProfS) : ((s.modProf n f).ch n).ctle = (s.ch n).ctle := by
  simp [State.modProf]
@[simp] theorem ch_prof_modProf (s : State) (n : Ch) (f : ProfS → ProfS) : ((s.modProf n f).ch n).prof = f (s.ch n).prof := by
  simp [State.modProf]
@[simp] theorem ch_vax_modProf (s : State) (n : Ch) (f : ProfS → ProfS) : ((s.modProf n f).ch n).vax = (s.ch n).vax := by
  simp [State.modProf]
@[simp] theorem ch_imp_modProf (s : State) (n : Ch) (f : ProfS → ProfS) : ((s.modProf n f).ch n).imp = (s.ch n).imp := by
  simp [State.modProf]
@[simp] theorem ch_est_modProf (s : State) (n : Ch) (f : ProfS → ProfS) : ((s.modProf n f).ch n).est = (s.ch n).est := by
  simp [State.modProf]
@[simp] theorem ch_safe_modProf (s : State) (n : Ch) (f : ProfS → ProfS) : ((s.modProf n f).ch n).safe = (s.ch n).safe := by
  simp [State.modProf]
@[simp] theorem ch_perc_modProf (s : State) (n : Ch) (f : ProfS → ProfS) : ((s.modProf n f).ch n).perc = (s.ch n).perc := by
  simp [State.modProf]
@[simp] theorem ch_twin_modProf (s : State) (n : Ch) (f : ProfS → ProfS) : ((s.modProf n f).ch n).twin = (s.ch n).twin := by
  simp [State.modProf]
theorem ch_modProf_ne (s : State) (n k : Ch) (f : ProfS → ProfS) (h : k ≠ n) : (s.modProf n f).ch k = s.ch k :=
  ch_modCh_ne s n k _ h

@[simp] theorem ch_ring_modVax (s : State) (n : Ch) (f : VaxS → VaxS) : ((s.modVax n f).ch n).ring = (s.ch n).ring := by
  simp [State.modVax]
@[simp] theorem ch_pour_modVax (s : State) (n : Ch) (f : VaxS → VaxS) : ((s.modVax n f).ch n).pour = (s.ch n).pour := by
  simp [State.modVax]
@[simp] theorem ch_fifo_modVax (s : State) (n : Ch) (f : VaxS → VaxS) : ((s.modVax n f).ch n).fifo = (s.ch n).fifo := by
  simp [State.modVax]
@[simp] theorem ch_cdiag_modVax (s : State) (n : Ch) (f : VaxS → VaxS) : ((s.modVax n f).ch n).cdiag = (s.ch n).cdiag := by
  simp [State.modVax]
@[simp] theorem ch_bal_modVax (s : State) (n : Ch) (f : VaxS → VaxS) : ((s.modVax n f).ch n).bal = (s.ch n).bal := by
  simp [State.modVax]
@[simp] theorem ch_ctle_modVax (s : State) (n : Ch) (f : VaxS → VaxS) : ((s.modVax n f).ch n).ctle = (s.ch n).ctle := by
  simp [State.modVax]
@[simp] theorem ch_prof_modVax (s : State) (n : Ch) (f : VaxS → VaxS) : ((s.modVax n f).ch n).prof = (s.ch n).prof := by
  simp [State.modVax]
@[simp] theorem ch_vax_modVax (s : State) (n : Ch) (f : VaxS → VaxS) : ((s.modVax n f).ch n).vax = f (s.ch n).vax := by
  simp [State.modVax]
@[simp] theorem ch_imp_modVax (s : State) (n : Ch) (f : VaxS → VaxS) : ((s.modVax n f).ch n).imp = (s.ch n).imp := by
  simp [State.modVax]
@[simp] theorem ch_est_modVax (s : State) (n : Ch) (f : VaxS → VaxS) : ((s.modVax n f).ch n).est = (s.ch n).est := by
  simp [State.modVax]
@[simp] theorem ch_safe_modVax (s : State) (n : Ch) (f : VaxS → VaxS) : ((s.modVax n f).ch n).safe = (s.ch n).safe := by
  simp [State.modVax]
@[simp] theorem ch_perc_modVax (s : State) (n : Ch) (f : VaxS → VaxS) : ((s.modVax n f).ch n).perc = (s.ch n).perc := by
  simp [State.modVax]
@[simp] theorem ch_twin_modVax (s : State) (n : Ch) (f : VaxS → VaxS) : ((s.modVax n f).ch n).twin = (s.ch n).twin := by
  simp [State.modVax]
theorem ch_modVax_ne (s : State) (n k : Ch) (f : VaxS → VaxS) (h : k ≠ n) : (s.modVax n f).ch k = s.ch k :=
  ch_modCh_ne s n k _ h

@[simp] theorem ch_ring_modImp (s : State) (n : Ch) (f : ImpS → ImpS) : ((s.modImp n f).ch n).ring = (s.ch n).ring := by
  simp [State.modImp]
@[simp] theorem ch_pour_modImp (s : State) (n : Ch) (f : ImpS → ImpS) : ((s.modImp n f).ch n).pour = (s.ch n).pour := by
  simp [State.modImp]
@[simp] theorem ch_fifo_modImp (s : State) (n : Ch) (f : ImpS → ImpS) : ((s.modImp n f).ch n).fifo = (s.ch n).fifo := by
  simp [State.modImp]
@[simp] theorem ch_cdiag_modImp (s : State) (n : Ch) (f : ImpS → ImpS) : ((s.modImp n f).ch n).cdiag = (s.ch n).cdiag := by
  simp [State.modImp]
@[simp] theorem ch_bal_modImp (s : State) (n : Ch) (f : ImpS → ImpS) : ((s.modImp n f).ch n).bal = (s.ch n).bal := by
  simp [State.modImp]
@[simp] theorem ch_ctle_modImp (s : State) (n : Ch) (f : ImpS → ImpS) : ((s.modImp n f).ch n).ctle = (s.ch n).ctle := by
  simp [State.modImp]
@[simp] theorem ch_prof_modImp (s : State) (n : Ch) (f : ImpS → ImpS) : ((s.modImp n f).ch n).prof = (s.ch n).prof := by
  simp [State.modImp]
@[simp] theorem ch_vax_modImp (s : State) (n : Ch) (f : ImpS → ImpS) : ((s.modImp n f).ch n).vax = (s.ch n).vax := by
  simp [State.modImp]
@[simp] theorem ch_imp_modImp (s : State) (n : Ch) (f : ImpS → ImpS) : ((s.modImp n f).ch n).imp = f (s.ch n).imp := by
  simp [State.modImp]
@[simp] theorem ch_est_modImp (s : State) (n : Ch) (f : ImpS → ImpS) : ((s.modImp n f).ch n).est = (s.ch n).est := by
  simp [State.modImp]
@[simp] theorem ch_safe_modImp (s : State) (n : Ch) (f : ImpS → ImpS) : ((s.modImp n f).ch n).safe = (s.ch n).safe := by
  simp [State.modImp]
@[simp] theorem ch_perc_modImp (s : State) (n : Ch) (f : ImpS → ImpS) : ((s.modImp n f).ch n).perc = (s.ch n).perc := by
  simp [State.modImp]
@[simp] theorem ch_twin_modImp (s : State) (n : Ch) (f : ImpS → ImpS) : ((s.modImp n f).ch n).twin = (s.ch n).twin := by
  simp [State.modImp]
theorem ch_modImp_ne (s : State) (n k : Ch) (f : ImpS → ImpS) (h : k ≠ n) : (s.modImp n f).ch k = s.ch k :=
  ch_modCh_ne s n k _ h

@[simp] theorem ch_ring_modEst (s : State) (n : Ch) (f : EstS → EstS) : ((s.modEst n f).ch n).ring = (s.ch n).ring := by
  simp [State.modEst]
@[simp] theorem ch_pour_modEst (s : State) (n : Ch) (f : EstS → EstS) : ((s.modEst n f).ch n).pour = (s.ch n).pour := by
  simp [State.modEst]
@[simp] theorem ch_fifo_modEst (s : State) (n : Ch) (f : EstS → EstS) : ((s.modEst n f).ch n).fifo = (s.ch n).fifo := by
  simp [State.modEst]
@[simp] theorem ch_cdiag_modEst (s : State) (n : Ch) (f : EstS → EstS) : ((s.modEst n f).ch n).cdiag = (s.ch n).cdiag := by
  simp [State.modEst]
@[simp] theorem ch_bal_modEst (s : State) (n : Ch) (f : EstS → EstS) : ((s.modEst n f).ch n).bal = (s.ch n).bal := by
  simp [State.modEst]
@[simp] theorem ch_ctle_modEst (s : State) (n : Ch) (f : EstS → EstS) : ((s.modEst n f).ch n).ctle = (s.ch n).ctle := by
  simp [State.modEst]
@[simp] theorem ch_prof_modEst (s : State) (n : Ch) (f : EstS → EstS) : ((s.modEst n f).ch n).prof = (s.ch n).prof := by
  simp [State.modEst]
@[simp] theorem ch_vax_modEst (s : State) (n : Ch) (f : EstS → EstS) : ((s.modEst n f).ch n).vax = (s.ch n).vax := by
  simp [State.modEst]
@[simp] theorem ch_imp_modEst (s : State) (n : Ch) (f : EstS → EstS) : ((s.modEst n f).ch n).imp = (s.ch n).imp := by
  simp [State.modEst]
@[simp] theorem ch_est_modEst (s : State) (n : Ch) (f : EstS → EstS) : ((s.modEst n f).ch n).est = f (s.ch n).est := by
  simp [State.modEst]
@[simp] theorem ch_safe_modEst (s : State) (n : Ch) (f : EstS → EstS) : ((s.modEst n f).ch n).safe = (s.ch n).safe := by
  simp [State.modEst]
@[simp] theorem ch_perc_modEst (s : State) (n : Ch) (f : EstS → EstS) : ((s.modEst n f).ch n).perc = (s.ch n).perc := by
  simp [State.modEst]
@[simp] theorem ch_twin_modEst (s : State) (n : Ch) (f : EstS → EstS) : ((s.modEst n f).ch n).twin = (s.ch n).twin := by
  simp [State.modEst]
theorem ch_modEst_ne (s : State) (n k : Ch) (f : EstS → EstS) (h : k ≠ n) : (s.modEst n f).ch k = s.ch k :=
  ch_modCh_ne s n k _ h

@[simp] theorem ch_ring_modSafe (s : State) (n : Ch) (f : SafeS → SafeS) : ((s.modSafe n f).ch n).ring = (s.ch n).ring := by
  simp [State.modSafe]
@[simp] theorem ch_pour_modSafe (s : State) (n : Ch) (f : SafeS → SafeS) : ((s.modSafe n f).ch n).pour = (s.ch n).pour := by
  simp [State.modSafe]
@[simp] theorem ch_fifo_modSafe (s : State) (n : Ch) (f : SafeS → SafeS) : ((s.modSafe n f).ch n).fifo = (s.ch n).fifo := by
  simp [State.modSafe]
@[simp] theorem ch_cdiag_modSafe (s : State) (n : Ch) (f : SafeS → SafeS) : ((s.modSafe n f).ch n).cdiag = (s.ch n).cdiag := by
  simp [State.modSafe]
@[simp] theorem ch_bal_modSafe (s : State) (n : Ch) (f : SafeS → SafeS) : ((s.modSafe n f).ch n).bal = (s.ch n).bal := by
  simp [State.modSafe]
@[simp] theorem ch_ctle_modSafe (s : State) (n : Ch) (f : SafeS → SafeS) : ((s.modSafe n f).ch n).ctle = (s.ch n).ctle := by
  simp [State.modSafe]
@[simp] theorem ch_prof_modSafe (s : State) (n : Ch) (f : SafeS → SafeS) : ((s.modSafe n f).ch n).prof = (s.ch n).prof := by
  simp [State.modSafe]
@[simp] theorem ch_vax_modSafe (s : State) (n : Ch) (f : SafeS → SafeS) : ((s.modSafe n f).ch n).vax = (s.ch n).vax := by
  simp [State.modSafe]
@[simp] theorem ch_imp_modSafe (s : State) (n : Ch) (f : SafeS → SafeS) : ((s.modSafe n f).ch n).imp = (s.ch n).imp := by
  simp [State.modSafe]
@[simp] theorem ch_est_modSafe (s : State) (n : Ch) (f : SafeS → SafeS) : ((s.modSafe n f).ch n).est = (s.ch n).est := by
  simp [State.modSafe]
@[simp] theorem ch_safe_modSafe (s : State) (n : Ch) (f : SafeS → SafeS) : ((s.modSafe n f).ch n).safe = f (s.ch n).safe := by
  simp [State.modSafe]
@[simp] theorem ch_perc_modSafe (s : State) (n : Ch) (f : SafeS → SafeS) : ((s.modSafe n f).ch n).perc = (s.ch n).perc := by
  simp [State.modSafe]
@[simp] theorem ch_twin_modSafe (s : State) (n : Ch) (f : SafeS → SafeS) : ((s.modSafe n f).ch n).twin = (s.ch n).twin := by
  simp [State.modSafe]
theorem ch_modSafe_ne (s : State) (n k : Ch) (f : SafeS → SafeS) (h : k ≠ n) : (s.modSafe n f).ch k = s.ch k :=
  ch_modCh_ne s n k _ h

@[simp] theorem ch_ring_modPerc (s : State) (n : Ch) (f : PercS → PercS) : ((s.modPerc n f).ch n).ring = (s.ch n).ring := by
  simp [State.modPerc]
@[simp] theorem ch_pour_modPerc (s : State) (n : Ch) (f : PercS → PercS) : ((s.modPerc n f).ch n).pour = (s.ch n).pour := by
  simp [State.modPerc]
@[simp] theorem ch_fifo_modPerc (s : State) (n : Ch) (f : PercS → PercS) : ((s.modPerc n f).ch n).fifo = (s.ch n).fifo := by
  simp [State.modPerc]
@[simp] theorem ch_cdiag_modPerc (s : State) (n : Ch) (f : PercS → PercS) : ((s.modPerc n f).ch n).cdiag = (s.ch n).cdiag := by
  simp [State.modPerc]
@[simp] theorem ch_bal_modPerc (s : State) (n : Ch) (f : PercS → PercS) : ((s.modPerc n f).ch n).bal = (s.ch n).bal := by
  simp [State.modPerc]
@[simp] theorem ch_ctle_modPerc (s : State) (n : Ch) (f : PercS → PercS) : ((s.modPerc n f).ch n).ctle = (s.ch n).ctle := by
  simp [State.modPerc]
@[simp] theorem ch_prof_modPerc (s : State) (n : Ch) (f : PercS → PercS) : ((s.modPerc n f).ch n).prof = (s.ch n).prof := by
  simp [State.modPerc]
@[simp] theorem ch_vax_modPerc (s : State) (n : Ch) (f : PercS → PercS) : ((s.modPerc n f).ch n).vax = (s.ch n).vax := by
  simp [State.modPerc]
@[simp] theorem ch_imp_modPerc (s : State) (n : Ch) (f : PercS → PercS) : ((s.modPerc n f).ch n).imp = (s.ch n).imp := by
  simp [State.modPerc]
@[simp] theorem ch_est_modPerc (s : State) (n : Ch) (f : PercS → PercS) : ((s.modPerc n f).ch n).est = (s.ch n).est := by
  simp [State.modPerc]
@[simp] theorem ch_safe_modPerc (s : State) (n : Ch) (f : PercS → PercS) : ((s.modPerc n f).ch n).safe = (s.ch n).safe := by
  simp [State.modPerc]
@[simp] theorem ch_perc_modPerc (s : State) (n : Ch) (f : PercS → PercS) : ((s.modPerc n f).ch n).perc = f (s.ch n).perc := by
  simp [State.modPerc]
@[simp] theorem ch_twin_modPerc (s : State) (n : Ch) (f : PercS → PercS) : ((s.modPerc n f).ch n).twin = (s.ch n).twin := by
  simp [State.modPerc]
theorem ch_modPerc_ne (s : State) (n k : Ch) (f : PercS → PercS) (h : k ≠ n) : (s.modPerc n f).ch k = s.ch k :=
  ch_modCh_ne s n k _ h

@[simp] theorem ch_ring_modTwin (s : State) (n : Ch) (f : TwinCh → TwinCh) : ((s.modTwin n f).ch n).ring = (s.ch n).ring := by
  simp [State.modTwin]
@[simp] theorem ch_pour_modTwin (s : State) (n : Ch) (f : TwinCh → TwinCh) : ((s.modTwin n f).ch n).pour = (s.ch n).pour := by
  simp [State.modTwin]
@[simp] theorem ch_fifo_modTwin (s : State) (n : Ch) (f : TwinCh → TwinCh) : ((s.modTwin n f).ch n).fifo = (s.ch n).fifo := by
  simp [State.modTwin]
@[simp] theorem ch_cdiag_modTwin (s : State) (n : Ch) (f : TwinCh → TwinCh) : ((s.modTwin n f).ch n).cdiag = (s.ch n).cdiag := by
  simp [State.modTwin]
@[simp] theorem ch_bal_modTwin (s : State) (n : Ch) (f : TwinCh → TwinCh) : ((s.modTwin n f).ch n).bal = (s.ch n).bal := by
  simp [State.modTwin]
@[simp] theorem ch_ctle_modTwin (s : State) (n : Ch) (f : TwinCh → TwinCh) : ((s.modTwin n f).ch n).ctle = (s.ch n).ctle := by
  simp [State.modTwin]
@[simp] theorem ch_prof_modTwin (s : State) (n : Ch) (f : TwinCh → TwinCh) : ((s.modTwin n f).ch n).prof = (s.ch n).prof := by
  simp [State.modTwin]
@[simp] theorem ch_vax_modTwin (s : State) (n : Ch) (f : TwinCh → TwinCh) : ((s.modTwin n f).ch n).vax = (s.ch n).vax := by
  simp [State.modTwin]
@[simp] theorem ch_imp_modTwin (s : State) (n : Ch) (f : TwinCh → TwinCh) : ((s.modTwin n f).ch n).imp = (s.ch n).imp := by
  simp [State.modTwin]
@[simp] theorem ch_est_modTwin (s : State) (n : Ch) (f : TwinCh → TwinCh) : ((s.modTwin n f).ch n).est = (s.ch n).est := by
  simp [State.modTwin]
@[simp] theorem ch_safe_modTwin (s : State) (n : Ch) (f : TwinCh → TwinCh) : ((s.modTwin n f).ch n).safe = (s.ch n).safe := by
  simp [State.modTwin]
@[simp] theorem ch_perc_modTwin (s : State) (n : Ch) (f : TwinCh → TwinCh) : ((s.modTwin n f).ch n).perc = (s.ch n).perc := by
  simp [State.modTwin]
@[simp] theorem ch_twin_modTwin (s : State) (n : Ch) (f : TwinCh → TwinCh) : ((s.modTwin n f).ch n).twin = f (s.ch n).twin := by
  simp [State.modTwin]
theorem ch_modTwin_ne (s : State) (n k : Ch) (f : TwinCh → TwinCh) (h : k ≠ n) : (s.modTwin n f).ch k = s.ch k :=
  ch_modCh_ne s n k _ h

end Sys2Proof.Machine
end

