-- ==== Sys2Proof/Laws/Regs.lean ====
section
/-! SUPPORT. Reading registers and fields after writing them; what the shared operations (interrupt sources, the event
recorder) leave as it was. -/

namespace Sys2Proof.Machine
open Sys2Proof

/-! ## Words -/

theorem reg_setReg (s : State) (a b : Nat) (v : Word) : (s.setReg a v).reg b = if b = a then v else s.reg b := by
  unfold State.setReg State.reg
  exact sget_sset resetWord s.regs a b v

@[simp] theorem reg_setReg_same (s : State) (a : Nat) (v : Word) : (s.setReg a v).reg a = v := by simp [reg_setReg]

theorem reg_setReg_ne (s : State) (a b : Nat) (v : Word) (h : b ≠ a) : (s.setReg a v).reg b = s.reg b := by
  simp [reg_setReg, h]

theorem reg_put (s : State) (f : RF) (v b : Nat) :
    (s.put f v).reg b = if b = f.addr then putBits (s.reg f.addr) f.hi f.lo v else s.reg b := by
  simp [State.put, reg_setReg]

theorem reg_put_ne (s : State) (f : RF) (v b : Nat) (h : b ≠ f.addr) : (s.put f v).reg b = s.reg b := by
  simp [reg_put, h]

theorem reg_putB_ne (s : State) (f : RF) (v : Bool) (b : Nat) (h : b ≠ f.addr) : (s.putB f v).reg b = s.reg b :=
  reg_put_ne s f _ b h

theorem reg_putI_ne (s : State) (f : RF) (i : Int) (b : Nat) (h : b ≠ f.addr) : (s.putI f i).reg b = s.reg b :=
  reg_setReg_ne s _ b _ h

theorem reg_incSat_ne (s : State) (f : RF) (b : Nat) (h : b ≠ f.addr) : (s.incSat f).reg b = s.reg b :=
  reg_put_ne s f _ b h

theorem reg_putBit_ne (s : State) (f : RF) (i : Nat) (v : Bool) (b : Nat) (h : b ≠ f.addr) :
    (s.putBit f i v).reg b = s.reg b :=
  reg_setReg_ne s _ b _ h

/-! ## Fields -/

/-- The field lies inside its word. -/
def RF.ok (f : RF) : Prop := f.hi < 32 ∧ f.lo ≤ f.hi

/-- Two fields share no bit. -/
def RF.apart (f g : RF) : Prop := g.addr ≠ f.addr ∨ g.hi < f.lo ∨ f.hi < g.lo

theorem get_put_same (s : State) (f : RF) (v : Nat) (h : f.ok) : (s.put f v).get f = v % 2 ^ (f.hi + 1 - f.lo) := by
  simp only [State.get, reg_put, if_true]
  exact bitsOf_putBits_same _ _ _ _ h.1 h.2

theorem get_put_ne (s : State) (f g : RF) (v : Nat) (h : f.ok) (d : f.apart g) : (s.put f v).get g = s.get g := by
  simp only [State.get, reg_put]
  by_cases e : g.addr = f.addr
  · rw [if_pos e, e]
    apply bitsOf_putBits_ne _ _ _ _ _ _ h.1 h.2
    rcases d with d | d
    · exact absurd e d
    · exact d
  · rw [if_neg e]

theorem get_putB_same (s : State) (f : RF) (b : Bool) (h : f.ok) : (s.putB f b).get f = b2n b := by
  rw [State.putB, get_put_same s f _ h]
  apply Nat.mod_eq_of_lt
  have h1 : 1 ≤ f.hi + 1 - f.lo := by have := h.2; omega
  have h2 : 2 ^ 1 ≤ 2 ^ (f.hi + 1 - f.lo) := Nat.pow_le_pow_right (by omega) h1
  cases b <;> simp [b2n] <;> omega

theorem get_putB_ne (s : State) (f g : RF) (b : Bool) (h : f.ok) (d : f.apart g) : (s.putB f b).get g = s.get g :=
  get_put_ne s f g _ h d

theorem get_incSat_ne (s : State) (f g : RF) (h : f.ok) (d : f.apart g) : (s.incSat f).get g = s.get g :=
  get_put_ne s f g _ h d

theorem get_setReg_ne (s : State) (a : Nat) (v : Word) (g : RF) (h : g.addr ≠ a) : (s.setReg a v).get g = s.get g := by
  simp [State.get, reg_setReg, h]

theorem flag_putB_same (s : State) (f : RF) (b : Bool) (h : f.ok) : (s.putB f b).flag f = b := by
  rw [State.flag, get_putB_same s f b h]
  cases b <;> rfl

theorem get_congr (s t : State) (g : RF) (h : t.reg g.addr = s.reg g.addr) : t.get g = s.get g := by
  simp [State.get, h]

/-! ## Interrupt sources and events: what they leave -/

/-- The registers that raising sources of a page may change: the page's IRQ_RAW and IRQ_PEND, and those of EVT. -/
def irqRegs (pg : PageRef) : List Nat :=
  [R.IRQ_RAW pg, R.IRQ_PEND pg, R.IRQ_RAW ⟨.evt, 0⟩, R.IRQ_PEND ⟨.evt, 0⟩]

theorem reg_irqEdge_ne (s : State) (pg : PageRef) (b a : Nat) (h1 : a ≠ R.IRQ_RAW pg) (h2 : a ≠ R.IRQ_PEND pg) :
    ((s.irqEdge pg b).1).reg a = s.reg a := by
  unfold State.irqEdge
  dsimp only
  split <;> simp [reg_setReg, h1, h2]

theorem reg_raiseEvt_ne (s : State) (b a : Nat) (h1 : a ≠ R.IRQ_RAW ⟨.evt, 0⟩) (h2 : a ≠ R.IRQ_PEND ⟨.evt, 0⟩) :
    (s.raiseEvt b).reg a = s.reg a := by
  unfold State.raiseEvt
  dsimp only
  split <;> simp [reg_irqEdge_ne, h1, h2]

/-! ## Frames of the recorder and of interrupt sources -/

/-- t differs from s at most in the registers, the MRAM dues, the event recorder and the NOTIFY records. -/
def Soft (s t : State) : Prop :=
  t = { s with regs := t.regs, dirty := t.dirty, evt := t.evt, notifies := t.notifies }

theorem Soft.refl (s : State) : Soft s s := rfl

theorem Soft.trans {s t u : State} (h1 : Soft s t) (h2 : Soft t u) : Soft s u := by
  unfold Soft at *
  rw [h2, h1]

theorem soft_setReg (s : State) (a : Nat) (v : Word) : Soft s (s.setReg a v) := rfl
theorem soft_notify (s : State) (pg : PageRef) (b : Nat) (q : Word) : Soft s (s.notify pg b q) := rfl
theorem soft_evt (s : State) (e : EvtS) : Soft s { s with evt := e } := rfl

theorem soft_irqEdge (s : State) (pg : PageRef) (b : Nat) : Soft s (s.irqEdge pg b).1 := by
  unfold State.irqEdge
  dsimp only
  split <;> rfl

theorem soft_raiseEvt (s : State) (b : Nat) : Soft s (s.raiseEvt b) := by
  unfold State.raiseEvt
  dsimp only
  split
  · exact (soft_irqEdge s ⟨.evt, 0⟩ b).trans (soft_notify _ _ _ _)
  · exact soft_irqEdge s ⟨.evt, 0⟩ b

theorem soft_ite {s t u : State} {c : Prop} [Decidable c] (h1 : Soft s t) (h2 : Soft s u) :
    Soft s (if c then t else u) := by split <;> assumption

theorem soft_stage (s : State) (r : EventRec) : Soft s (s.stage r).1 := by
  unfold State.stage
  split
  · exact soft_ite ((soft_evt s _).trans (soft_raiseEvt _ _)) (soft_evt s _)
  · have h : Soft s { s with evt := s.evt.push s.sup.vholdOk r } := soft_evt s _
    generalize { s with evt := s.evt.push s.sup.vholdOk r } = s1 at h
    have h2 : Soft s (if evtCap ≤ s1.evt.count then s1.raiseEvt 2 else s1) :=
      soft_ite (h.trans (soft_raiseEvt _ _)) h
    exact soft_ite (h2.trans (soft_raiseEvt _ _)) h2

theorem soft_record (s : State) (c k v : Nat) (p q r : Word) : Soft s (s.record c k v p q r).1 := by
  unfold State.record
  dsimp only
  split
  · exact soft_evt s _
  · exact soft_stage s _

theorem soft_log (s : State) (c k v : Nat) (p q r : Word) : Soft s (s.log c k v p q r) := soft_record s c k v p q r

theorem soft_raise (s : State) (pg : PageRef) (b : Nat) : Soft s (s.raise pg b) := by
  unfold State.raise
  dsimp only
  split
  · split
    · exact (soft_irqEdge s pg b).trans (soft_notify _ _ _ _)
    · exact ((soft_irqEdge s pg b).trans (soft_record _ _ _ _ _ _ _)).trans (soft_notify _ _ _ _)
  · exact soft_irqEdge s pg b

theorem reg_evt (s : State) (e : EvtS) (a : Nat) : State.reg { s with evt := e } a = s.reg a := rfl

theorem reg_ite (c : Prop) [Decidable c] (t u : State) (a : Nat) :
    (if c then t else u).reg a = if c then t.reg a else u.reg a := by split <;> rfl

theorem reg_stage_ne (s : State) (r : EventRec) (a : Nat) (h1 : a ≠ R.IRQ_RAW ⟨.evt, 0⟩)
    (h2 : a ≠ R.IRQ_PEND ⟨.evt, 0⟩) : ((s.stage r).1).reg a = s.reg a := by
  unfold State.stage
  split
  · simp [reg_ite, reg_raiseEvt_ne _ _ _ h1 h2, reg_evt]
  · simp [reg_ite, reg_raiseEvt_ne _ _ _ h1 h2, reg_evt]

theorem reg_record_ne (s : State) (c k v : Nat) (p q r : Word) (a : Nat) (h1 : a ≠ R.IRQ_RAW ⟨.evt, 0⟩)
    (h2 : a ≠ R.IRQ_PEND ⟨.evt, 0⟩) : ((s.record c k v p q r).1).reg a = s.reg a := by
  unfold State.record
  dsimp only
  split
  · rfl
  · exact reg_stage_ne s _ a h1 h2

theorem reg_log_ne (s : State) (c k v : Nat) (p q r : Word) (a : Nat) (h1 : a ≠ R.IRQ_RAW ⟨.evt, 0⟩)
    (h2 : a ≠ R.IRQ_PEND ⟨.evt, 0⟩) : (s.log c k v p q r).reg a = s.reg a := reg_record_ne s c k v p q r a h1 h2

/-- Raising a source leaves every register but IRQ_RAW and IRQ_PEND of its page and of EVT. -/
theorem reg_raise_ne (s : State) (pg : PageRef) (b a : Nat) (h : a ∉ irqRegs pg) : (s.raise pg b).reg a = s.reg a := by
  simp only [irqRegs, List.mem_cons, not_or, List.not_mem_nil, not_false_eq_true, and_true] at h
  obtain ⟨h1, h2, h3, h4⟩ := h
  unfold State.raise
  dsimp only
  split
  · split
    · rw [reg_notify, reg_irqEdge_ne _ _ _ _ h1 h2]
    · rw [reg_notify, reg_record_ne _ _ _ _ _ _ _ _ h3 h4, reg_irqEdge_ne _ _ _ _ h1 h2]
  · exact reg_irqEdge_ne s pg b a h1 h2

theorem get_raise_ne (s : State) (pg : PageRef) (b : Nat) (g : RF) (h : g.addr ∉ irqRegs pg) :
    (s.raise pg b).get g = s.get g := get_congr _ _ _ (reg_raise_ne s pg b _ h)

theorem get_log_ne (s : State) (c k v : Nat) (p q r : Word) (g : RF) (h : g.addr ∉ irqRegs ⟨.evt, 0⟩) :
    (s.log c k v p q r).get g = s.get g := by
  simp only [irqRegs, List.mem_cons, not_or, List.not_mem_nil, not_false_eq_true, and_true] at h
  exact get_congr _ _ _ (reg_log_ne s c k v p q r _ h.1 h.2.1)

@[simp] theorem pending_raise (s : State) (pg : PageRef) (b : Nat) : (s.raise pg b).pending = s.pending := by rw [soft_raise s pg b]
@[simp] theorem mram_raise (s : State) (pg : PageRef) (b : Nat) : (s.raise pg b).mram = s.mram := by rw [soft_raise s pg b]
@[simp] theorem chans_raise (s : State) (pg : PageRef) (b : Nat) : (s.raise pg b).chans = s.chans := by rw [soft_raise s pg b]
@[simp] theorem clock_raise (s : State) (pg : PageRef) (b : Nat) : (s.raise pg b).clock = s.clock := by rw [soft_raise s pg b]
@[simp] theorem sup_raise (s : State) (pg : PageRef) (b : Nat) : (s.raise pg b).sup = s.sup := by rw [soft_raise s pg b]
@[simp] theorem snap_raise (s : State) (pg : PageRef) (b : Nat) : (s.raise pg b).snap = s.snap := by rw [soft_raise s pg b]
@[simp] theorem sessions_raise (s : State) (pg : PageRef) (b : Nat) : (s.raise pg b).sessions = s.sessions := by rw [soft_raise s pg b]
@[simp] theorem idents_raise (s : State) (pg : PageRef) (b : Nat) : (s.raise pg b).idents = s.idents := by rw [soft_raise s pg b]
@[simp] theorem nextSid_raise (s : State) (pg : PageRef) (b : Nat) : (s.raise pg b).nextSid = s.nextSid := by rw [soft_raise s pg b]
@[simp] theorem joined_raise (s : State) (pg : PageRef) (b : Nat) : (s.raise pg b).joined = s.joined := by rw [soft_raise s pg b]
@[simp] theorem last_raise (s : State) (pg : PageRef) (b : Nat) : (s.raise pg b).last = s.last := by rw [soft_raise s pg b]
@[simp] theorem outbox_raise (s : State) (pg : PageRef) (b : Nat) : (s.raise pg b).outbox = s.outbox := by rw [soft_raise s pg b]
@[simp] theorem panel_raise (s : State) (pg : PageRef) (b : Nat) : (s.raise pg b).panel = s.panel := by rw [soft_raise s pg b]
@[simp] theorem therm_raise (s : State) (pg : PageRef) (b : Nat) : (s.raise pg b).therm = s.therm := by rw [soft_raise s pg b]
@[simp] theorem alloc_raise (s : State) (pg : PageRef) (b : Nat) : (s.raise pg b).alloc = s.alloc := by rw [soft_raise s pg b]
@[simp] theorem can_raise (s : State) (pg : PageRef) (b : Nat) : (s.raise pg b).can = s.can := by rw [soft_raise s pg b]
@[simp] theorem twin_raise (s : State) (pg : PageRef) (b : Nat) : (s.raise pg b).twin = s.twin := by rw [soft_raise s pg b]
@[simp] theorem upd_raise (s : State) (pg : PageRef) (b : Nat) : (s.raise pg b).upd = s.upd := by rw [soft_raise s pg b]
@[simp] theorem pmcs_raise (s : State) (pg : PageRef) (b : Nat) : (s.raise pg b).pmcs = s.pmcs := by rw [soft_raise s pg b]
@[simp] theorem free_raise (s : State) (pg : PageRef) (b : Nat) : (s.raise pg b).free = s.free := by rw [soft_raise s pg b]
@[simp] theorem ch_raise (s : State) (pg : PageRef) (b : Nat) (k : Ch) : (s.raise pg b).ch k = s.ch k := by simp [State.ch]

@[simp] theorem pending_log (s : State) (c k v : Nat) (p q r : Word) : (s.log c k v p q r).pending = s.pending := by rw [soft_log s c k v p q r]
@[simp] theorem mram_log (s : State) (c k v : Nat) (p q r : Word) : (s.log c k v p q r).mram = s.mram := by rw [soft_log s c k v p q r]
@[simp] theorem chans_log (s : State) (c k v : Nat) (p q r : Word) : (s.log c k v p q r).chans = s.chans := by rw [soft_log s c k v p q r]
@[simp] theorem clock_log (s : State) (c k v : Nat) (p q r : Word) : (s.log c k v p q r).clock = s.clock := by rw [soft_log s c k v p q r]
@[simp] theorem sup_log (s : State) (c k v : Nat) (p q r : Word) : (s.log c k v p q r).sup = s.sup := by rw [soft_log s c k v p q r]
@[simp] theorem snap_log (s : State) (c k v : Nat) (p q r : Word) : (s.log c k v p q r).snap = s.snap := by rw [soft_log s c k v p q r]
@[simp] theorem sessions_log (s : State) (c k v : Nat) (p q r : Word) : (s.log c k v p q r).sessions = s.sessions := by rw [soft_log s c k v p q r]
@[simp] theorem idents_log (s : State) (c k v : Nat) (p q r : Word) : (s.log c k v p q r).idents = s.idents := by rw [soft_log s c k v p q r]
@[simp] theorem nextSid_log (s : State) (c k v : Nat) (p q r : Word) : (s.log c k v p q r).nextSid = s.nextSid := by rw [soft_log s c k v p q r]
@[simp] theorem joined_log (s : State) (c k v : Nat) (p q r : Word) : (s.log c k v p q r).joined = s.joined := by rw [soft_log s c k v p q r]
@[simp] theorem last_log (s : State) (c k v : Nat) (p q r : Word) : (s.log c k v p q r).last = s.last := by rw [soft_log s c k v p q r]
@[simp] theorem outbox_log (s : State) (c k v : Nat) (p q r : Word) : (s.log c k v p q r).outbox = s.outbox := by rw [soft_log s c k v p q r]
@[simp] theorem panel_log (s : State) (c k v : Nat) (p q r : Word) : (s.log c k v p q r).panel = s.panel := by rw [soft_log s c k v p q r]
@[simp] theorem therm_log (s : State) (c k v : Nat) (p q r : Word) : (s.log c k v p q r).therm = s.therm := by rw [soft_log s c k v p q r]
@[simp] theorem alloc_log (s : State) (c k v : Nat) (p q r : Word) : (s.log c k v p q r).alloc = s.alloc := by rw [soft_log s c k v p q r]
@[simp] theorem can_log (s : State) (c k v : Nat) (p q r : Word) : (s.log c k v p q r).can = s.can := by rw [soft_log s c k v p q r]
@[simp] theorem twin_log (s : State) (c k v : Nat) (p q r : Word) : (s.log c k v p q r).twin = s.twin := by rw [soft_log s c k v p q r]
@[simp] theorem upd_log (s : State) (c k v : Nat) (p q r : Word) : (s.log c k v p q r).upd = s.upd := by rw [soft_log s c k v p q r]
@[simp] theorem pmcs_log (s : State) (c k v : Nat) (p q r : Word) : (s.log c k v p q r).pmcs = s.pmcs := by rw [soft_log s c k v p q r]
@[simp] theorem free_log (s : State) (c k v : Nat) (p q r : Word) : (s.log c k v p q r).free = s.free := by rw [soft_log s c k v p q r]
@[simp] theorem ch_log (s : State) (c k v : Nat) (p q r : Word) (k : Ch) : (s.log c k v p q r).ch k = s.ch k := by simp [State.ch]

theorem soft_logReg (s : State) (pg : PageRef) (o : Nat) : Soft s (s.logReg pg o) := soft_log s _ _ _ _ _ _

@[simp] theorem pending_logReg (s : State) (pg : PageRef) (o : Nat) : (s.logReg pg o).pending = s.pending := by rw [soft_logReg s pg o]
@[simp] theorem mram_logReg (s : State) (pg : PageRef) (o : Nat) : (s.logReg pg o).mram = s.mram := by rw [soft_logReg s pg o]
@[simp] theorem chans_logReg (s : State) (pg : PageRef) (o : Nat) : (s.logReg pg o).chans = s.chans := by rw [soft_logReg s pg o]
@[simp] theorem clock_logReg (s : State) (pg : PageRef) (o : Nat) : (s.logReg pg o).clock = s.clock := by rw [soft_logReg s pg o]
@[simp] theorem sup_logReg (s : State) (pg : PageRef) (o : Nat) : (s.logReg pg o).sup = s.sup := by rw [soft_logReg s pg o]
@[simp] theorem snap_logReg (s : State) (pg : PageRef) (o : Nat) : (s.logReg pg o).snap = s.snap := by rw [soft_logReg s pg o]
@[simp] theorem sessions_logReg (s : State) (pg : PageRef) (o : Nat) : (s.logReg pg o).sessions = s.sessions := by rw [soft_logReg s pg o]
@[simp] theorem idents_logReg (s : State) (pg : PageRef) (o : Nat) : (s.logReg pg o).idents = s.idents := by rw [soft_logReg s pg o]
@[simp] theorem nextSid_logReg (s : State) (pg : PageRef) (o : Nat) : (s.logReg pg o).nextSid = s.nextSid := by rw [soft_logReg s pg o]
@[simp] theorem joined_logReg (s : State) (pg : PageRef) (o : Nat) : (s.logReg pg o).joined = s.joined := by rw [soft_logReg s pg o]
@[simp] theorem last_logReg (s : State) (pg : PageRef) (o : Nat) : (s.logReg pg o).last = s.last := by rw [soft_logReg s pg o]
@[simp] theorem outbox_logReg (s : State) (pg : PageRef) (o : Nat) : (s.logReg pg o).outbox = s.outbox := by rw [soft_logReg s pg o]
@[simp] theorem panel_logReg (s : State) (pg : PageRef) (o : Nat) : (s.logReg pg o).panel = s.panel := by rw [soft_logReg s pg o]
@[simp] theorem therm_logReg (s : State) (pg : PageRef) (o : Nat) : (s.logReg pg o).therm = s.therm := by rw [soft_logReg s pg o]
@[simp] theorem alloc_logReg (s : State) (pg : PageRef) (o : Nat) : (s.logReg pg o).alloc = s.alloc := by rw [soft_logReg s pg o]
@[simp] theorem can_logReg (s : State) (pg : PageRef) (o : Nat) : (s.logReg pg o).can = s.can := by rw [soft_logReg s pg o]
@[simp] theorem twin_logReg (s : State) (pg : PageRef) (o : Nat) : (s.logReg pg o).twin = s.twin := by rw [soft_logReg s pg o]
@[simp] theorem upd_logReg (s : State) (pg : PageRef) (o : Nat) : (s.logReg pg o).upd = s.upd := by rw [soft_logReg s pg o]
@[simp] theorem pmcs_logReg (s : State) (pg : PageRef) (o : Nat) : (s.logReg pg o).pmcs = s.pmcs := by rw [soft_logReg s pg o]
@[simp] theorem free_logReg (s : State) (pg : PageRef) (o : Nat) : (s.logReg pg o).free = s.free := by rw [soft_logReg s pg o]
@[simp] theorem ch_logReg (s : State) (pg : PageRef) (o : Nat) (k : Ch) : (s.logReg pg o).ch k = s.ch k := by simp [State.ch]

theorem soft_logNone (s : State) (pg : PageRef) : Soft s (s.logNone pg) := soft_log s _ _ _ _ _ _

@[simp] theorem pending_logNone (s : State) (pg : PageRef) : (s.logNone pg).pending = s.pending := by rw [soft_logNone s pg]
@[simp] theorem mram_logNone (s : State) (pg : PageRef) : (s.logNone pg).mram = s.mram := by rw [soft_logNone s pg]
@[simp] theorem chans_logNone (s : State) (pg : PageRef) : (s.logNone pg).chans = s.chans := by rw [soft_logNone s pg]
@[simp] theorem clock_logNone (s : State) (pg : PageRef) : (s.logNone pg).clock = s.clock := by rw [soft_logNone s pg]
@[simp] theorem sup_logNone (s : State) (pg : PageRef) : (s.logNone pg).sup = s.sup := by rw [soft_logNone s pg]
@[simp] theorem snap_logNone (s : State) (pg : PageRef) : (s.logNone pg).snap = s.snap := by rw [soft_logNone s pg]
@[simp] theorem sessions_logNone (s : State) (pg : PageRef) : (s.logNone pg).sessions = s.sessions := by rw [soft_logNone s pg]
@[simp] theorem idents_logNone (s : State) (pg : PageRef) : (s.logNone pg).idents = s.idents := by rw [soft_logNone s pg]
@[simp] theorem nextSid_logNone (s : State) (pg : PageRef) : (s.logNone pg).nextSid = s.nextSid := by rw [soft_logNone s pg]
@[simp] theorem joined_logNone (s : State) (pg : PageRef) : (s.logNone pg).joined = s.joined := by rw [soft_logNone s pg]
@[simp] theorem last_logNone (s : State) (pg : PageRef) : (s.logNone pg).last = s.last := by rw [soft_logNone s pg]
@[simp] theorem outbox_logNone (s : State) (pg : PageRef) : (s.logNone pg).outbox = s.outbox := by rw [soft_logNone s pg]
@[simp] theorem panel_logNone (s : State) (pg : PageRef) : (s.logNone pg).panel = s.panel := by rw [soft_logNone s pg]
@[simp] theorem therm_logNone (s : State) (pg : PageRef) : (s.logNone pg).therm = s.therm := by rw [soft_logNone s pg]
@[simp] theorem alloc_logNone (s : State) (pg : PageRef) : (s.logNone pg).alloc = s.alloc := by rw [soft_logNone s pg]
@[simp] theorem can_logNone (s : State) (pg : PageRef) : (s.logNone pg).can = s.can := by rw [soft_logNone s pg]
@[simp] theorem twin_logNone (s : State) (pg : PageRef) : (s.logNone pg).twin = s.twin := by rw [soft_logNone s pg]
@[simp] theorem upd_logNone (s : State) (pg : PageRef) : (s.logNone pg).upd = s.upd := by rw [soft_logNone s pg]
@[simp] theorem pmcs_logNone (s : State) (pg : PageRef) : (s.logNone pg).pmcs = s.pmcs := by rw [soft_logNone s pg]
@[simp] theorem free_logNone (s : State) (pg : PageRef) : (s.logNone pg).free = s.free := by rw [soft_logNone s pg]
@[simp] theorem ch_logNone (s : State) (pg : PageRef) (k : Ch) : (s.logNone pg).ch k = s.ch k := by simp [State.ch]

theorem soft_setRaise (s : State) (f : RF) (pg : PageRef) (b : Nat) : Soft s (s.setRaise f pg b) := by
  unfold State.setRaise
  split
  · exact Soft.refl s
  · exact (soft_setReg s _ _).trans (soft_raise _ _ _)

@[simp] theorem pending_setRaise (s : State) (f : RF) (pg : PageRef) (b : Nat) : (s.setRaise f pg b).pending = s.pending := by rw [soft_setRaise s f pg b]
@[simp] theorem mram_setRaise (s : State) (f : RF) (pg : PageRef) (b : Nat) : (s.setRaise f pg b).mram = s.mram := by rw [soft_setRaise s f pg b]
@[simp] theorem chans_setRaise (s : State) (f : RF) (pg : PageRef) (b : Nat) : (s.setRaise f pg b).chans = s.chans := by rw [soft_setRaise s f pg b]
@[simp] theorem clock_setRaise (s : State) (f : RF) (pg : PageRef) (b : Nat) : (s.setRaise f pg b).clock = s.clock := by rw [soft_setRaise s f pg b]
@[simp] theorem sup_setRaise (s : State) (f : RF) (pg : PageRef) (b : Nat) : (s.setRaise f pg b).sup = s.sup := by rw [soft_setRaise s f pg b]
@[simp] theorem snap_setRaise (s : State) (f : RF) (pg : PageRef) (b : Nat) : (s.setRaise f pg b).snap = s.snap := by rw [soft_setRaise s f pg b]
@[simp] theorem sessions_setRaise (s : State) (f : RF) (pg : PageRef) (b : Nat) : (s.setRaise f pg b).sessions = s.sessions := by rw [soft_setRaise s f pg b]
@[simp] theorem idents_setRaise (s : State) (f : RF) (pg : PageRef) (b : Nat) : (s.setRaise f pg b).idents = s.idents := by rw [soft_setRaise s f pg b]
@[simp] theorem nextSid_setRaise (s : State) (f : RF) (pg : PageRef) (b : Nat) : (s.setRaise f pg b).nextSid = s.nextSid := by rw [soft_setRaise s f pg b]
@[simp] theorem joined_setRaise (s : State) (f : RF) (pg : PageRef) (b : Nat) : (s.setRaise f pg b).joined = s.joined := by rw [soft_setRaise s f pg b]
@[simp] theorem last_setRaise (s : State) (f : RF) (pg : PageRef) (b : Nat) : (s.setRaise f pg b).last = s.last := by rw [soft_setRaise s f pg b]
@[simp] theorem outbox_setRaise (s : State) (f : RF) (pg : PageRef) (b : Nat) : (s.setRaise f pg b).outbox = s.outbox := by rw [soft_setRaise s f pg b]
@[simp] theorem panel_setRaise (s : State) (f : RF) (pg : PageRef) (b : Nat) : (s.setRaise f pg b).panel = s.panel := by rw [soft_setRaise s f pg b]
@[simp] theorem therm_setRaise (s : State) (f : RF) (pg : PageRef) (b : Nat) : (s.setRaise f pg b).therm = s.therm := by rw [soft_setRaise s f pg b]
@[simp] theorem alloc_setRaise (s : State) (f : RF) (pg : PageRef) (b : Nat) : (s.setRaise f pg b).alloc = s.alloc := by rw [soft_setRaise s f pg b]
@[simp] theorem can_setRaise (s : State) (f : RF) (pg : PageRef) (b : Nat) : (s.setRaise f pg b).can = s.can := by rw [soft_setRaise s f pg b]
@[simp] theorem twin_setRaise (s : State) (f : RF) (pg : PageRef) (b : Nat) : (s.setRaise f pg b).twin = s.twin := by rw [soft_setRaise s f pg b]
@[simp] theorem upd_setRaise (s : State) (f : RF) (pg : PageRef) (b : Nat) : (s.setRaise f pg b).upd = s.upd := by rw [soft_setRaise s f pg b]
@[simp] theorem pmcs_setRaise (s : State) (f : RF) (pg : PageRef) (b : Nat) : (s.setRaise f pg b).pmcs = s.pmcs := by rw [soft_setRaise s f pg b]
@[simp] theorem free_setRaise (s : State) (f : RF) (pg : PageRef) (b : Nat) : (s.setRaise f pg b).free = s.free := by rw [soft_setRaise s f pg b]
@[simp] theorem ch_setRaise (s : State) (f : RF) (pg : PageRef) (b : Nat) (k : Ch) : (s.setRaise f pg b).ch k = s.ch k := by simp [State.ch]

theorem soft_pageFault (s : State) (pg : PageRef) (b : Bool) : Soft s (s.pageFault pg b) := by
  unfold State.pageFault
  dsimp only
  split
  · split
    · exact soft_setReg s _ _
    · exact (soft_setReg s _ _).trans (soft_raise _ _ _)
  · rfl

@[simp] theorem pending_pageFault (s : State) (pg : PageRef) (b : Bool) : (s.pageFault pg b).pending = s.pending := by rw [soft_pageFault s pg b]
@[simp] theorem mram_pageFault (s : State) (pg : PageRef) (b : Bool) : (s.pageFault pg b).mram = s.mram := by rw [soft_pageFault s pg b]
@[simp] theorem chans_pageFault (s : State) (pg : PageRef) (b : Bool) : (s.pageFault pg b).chans = s.chans := by rw [soft_pageFault s pg b]
@[simp] theorem clock_pageFault (s : State) (pg : PageRef) (b : Bool) : (s.pageFault pg b).clock = s.clock := by rw [soft_pageFault s pg b]
@[simp] theorem sup_pageFault (s : State) (pg : PageRef) (b : Bool) : (s.pageFault pg b).sup = s.sup := by rw [soft_pageFault s pg b]
@[simp] theorem snap_pageFault (s : State) (pg : PageRef) (b : Bool) : (s.pageFault pg b).snap = s.snap := by rw [soft_pageFault s pg b]
@[simp] theorem sessions_pageFault (s : State) (pg : PageRef) (b : Bool) : (s.pageFault pg b).sessions = s.sessions := by rw [soft_pageFault s pg b]
@[simp] theorem idents_pageFault (s : State) (pg : PageRef) (b : Bool) : (s.pageFault pg b).idents = s.idents := by rw [soft_pageFault s pg b]
@[simp] theorem nextSid_pageFault (s : State) (pg : PageRef) (b : Bool) : (s.pageFault pg b).nextSid = s.nextSid := by rw [soft_pageFault s pg b]
@[simp] theorem joined_pageFault (s : State) (pg : PageRef) (b : Bool) : (s.pageFault pg b).joined = s.joined := by rw [soft_pageFault s pg b]
@[simp] theorem last_pageFault (s : State) (pg : PageRef) (b : Bool) : (s.pageFault pg b).last = s.last := by rw [soft_pageFault s pg b]
@[simp] theorem outbox_pageFault (s : State) (pg : PageRef) (b : Bool) : (s.pageFault pg b).outbox = s.outbox := by rw [soft_pageFault s pg b]
@[simp] theorem panel_pageFault (s : State) (pg : PageRef) (b : Bool) : (s.pageFault pg b).panel = s.panel := by rw [soft_pageFault s pg b]
@[simp] theorem therm_pageFault (s : State) (pg : PageRef) (b : Bool) : (s.pageFault pg b).therm = s.therm := by rw [soft_pageFault s pg b]
@[simp] theorem alloc_pageFault (s : State) (pg : PageRef) (b : Bool) : (s.pageFault pg b).alloc = s.alloc := by rw [soft_pageFault s pg b]
@[simp] theorem can_pageFault (s : State) (pg : PageRef) (b : Bool) : (s.pageFault pg b).can = s.can := by rw [soft_pageFault s pg b]
@[simp] theorem twin_pageFault (s : State) (pg : PageRef) (b : Bool) : (s.pageFault pg b).twin = s.twin := by rw [soft_pageFault s pg b]
@[simp] theorem upd_pageFault (s : State) (pg : PageRef) (b : Bool) : (s.pageFault pg b).upd = s.upd := by rw [soft_pageFault s pg b]
@[simp] theorem pmcs_pageFault (s : State) (pg : PageRef) (b : Bool) : (s.pageFault pg b).pmcs = s.pmcs := by rw [soft_pageFault s pg b]
@[simp] theorem free_pageFault (s : State) (pg : PageRef) (b : Bool) : (s.pageFault pg b).free = s.free := by rw [soft_pageFault s pg b]
@[simp] theorem ch_pageFault (s : State) (pg : PageRef) (b : Bool) (k : Ch) : (s.pageFault pg b).ch k = s.ch k := by simp [State.ch]

theorem soft_seqPage (s : State) (pg : PageRef) (e : Nat) (h : Bool) : Soft s (s.seqPage pg e h) := rfl

@[simp] theorem pending_seqPage (s : State) (pg : PageRef) (e : Nat) (h : Bool) : (s.seqPage pg e h).pending = s.pending := by rw [soft_seqPage s pg e h]
@[simp] theorem mram_seqPage (s : State) (pg : PageRef) (e : Nat) (h : Bool) : (s.seqPage pg e h).mram = s.mram := by rw [soft_seqPage s pg e h]
@[simp] theorem chans_seqPage (s : State) (pg : PageRef) (e : Nat) (h : Bool) : (s.seqPage pg e h).chans = s.chans := by rw [soft_seqPage s pg e h]
@[simp] theorem clock_seqPage (s : State) (pg : PageRef) (e : Nat) (h : Bool) : (s.seqPage pg e h).clock = s.clock := by rw [soft_seqPage s pg e h]
@[simp] theorem sup_seqPage (s : State) (pg : PageRef) (e : Nat) (h : Bool) : (s.seqPage pg e h).sup = s.sup := by rw [soft_seqPage s pg e h]
@[simp] theorem snap_seqPage (s : State) (pg : PageRef) (e : Nat) (h : Bool) : (s.seqPage pg e h).snap = s.snap := by rw [soft_seqPage s pg e h]
@[simp] theorem sessions_seqPage (s : State) (pg : PageRef) (e : Nat) (h : Bool) : (s.seqPage pg e h).sessions = s.sessions := by rw [soft_seqPage s pg e h]
@[simp] theorem idents_seqPage (s : State) (pg : PageRef) (e : Nat) (h : Bool) : (s.seqPage pg e h).idents = s.idents := by rw [soft_seqPage s pg e h]
@[simp] theorem nextSid_seqPage (s : State) (pg : PageRef) (e : Nat) (h : Bool) : (s.seqPage pg e h).nextSid = s.nextSid := by rw [soft_seqPage s pg e h]
@[simp] theorem joined_seqPage (s : State) (pg : PageRef) (e : Nat) (h : Bool) : (s.seqPage pg e h).joined = s.joined := by rw [soft_seqPage s pg e h]
@[simp] theorem last_seqPage (s : State) (pg : PageRef) (e : Nat) (h : Bool) : (s.seqPage pg e h).last = s.last := by rw [soft_seqPage s pg e h]
@[simp] theorem outbox_seqPage (s : State) (pg : PageRef) (e : Nat) (h : Bool) : (s.seqPage pg e h).outbox = s.outbox := by rw [soft_seqPage s pg e h]
@[simp] theorem panel_seqPage (s : State) (pg : PageRef) (e : Nat) (h : Bool) : (s.seqPage pg e h).panel = s.panel := by rw [soft_seqPage s pg e h]
@[simp] theorem therm_seqPage (s : State) (pg : PageRef) (e : Nat) (h : Bool) : (s.seqPage pg e h).therm = s.therm := by rw [soft_seqPage s pg e h]
@[simp] theorem alloc_seqPage (s : State) (pg : PageRef) (e : Nat) (h : Bool) : (s.seqPage pg e h).alloc = s.alloc := by rw [soft_seqPage s pg e h]
@[simp] theorem can_seqPage (s : State) (pg : PageRef) (e : Nat) (h : Bool) : (s.seqPage pg e h).can = s.can := by rw [soft_seqPage s pg e h]
@[simp] theorem twin_seqPage (s : State) (pg : PageRef) (e : Nat) (h : Bool) : (s.seqPage pg e h).twin = s.twin := by rw [soft_seqPage s pg e h]
@[simp] theorem upd_seqPage (s : State) (pg : PageRef) (e : Nat) (h : Bool) : (s.seqPage pg e h).upd = s.upd := by rw [soft_seqPage s pg e h]
@[simp] theorem pmcs_seqPage (s : State) (pg : PageRef) (e : Nat) (h : Bool) : (s.seqPage pg e h).pmcs = s.pmcs := by rw [soft_seqPage s pg e h]
@[simp] theorem free_seqPage (s : State) (pg : PageRef) (e : Nat) (h : Bool) : (s.seqPage pg e h).free = s.free := by rw [soft_seqPage s pg e h]
@[simp] theorem ch_seqPage (s : State) (pg : PageRef) (e : Nat) (h : Bool) (k : Ch) : (s.seqPage pg e h).ch k = s.ch k := by simp [State.ch]

theorem soft_collide (s : State) (pg : PageRef) : Soft s (s.collide pg) := by
  unfold State.collide
  split
  · exact Soft.refl s
  · exact soft_raise s _ _

@[simp] theorem pending_collide (s : State) (pg : PageRef) : (s.collide pg).pending = s.pending := by rw [soft_collide s pg]
@[simp] theorem mram_collide (s : State) (pg : PageRef) : (s.collide pg).mram = s.mram := by rw [soft_collide s pg]
@[simp] theorem chans_collide (s : State) (pg : PageRef) : (s.collide pg).chans = s.chans := by rw [soft_collide s pg]
@[simp] theorem clock_collide (s : State) (pg : PageRef) : (s.collide pg).clock = s.clock := by rw [soft_collide s pg]
@[simp] theorem sup_collide (s : State) (pg : PageRef) : (s.collide pg).sup = s.sup := by rw [soft_collide s pg]
@[simp] theorem snap_collide (s : State) (pg : PageRef) : (s.collide pg).snap = s.snap := by rw [soft_collide s pg]
@[simp] theorem sessions_collide (s : State) (pg : PageRef) : (s.collide pg).sessions = s.sessions := by rw [soft_collide s pg]
@[simp] theorem idents_collide (s : State) (pg : PageRef) : (s.collide pg).idents = s.idents := by rw [soft_collide s pg]
@[simp] theorem nextSid_collide (s : State) (pg : PageRef) : (s.collide pg).nextSid = s.nextSid := by rw [soft_collide s pg]
@[simp] theorem joined_collide (s : State) (pg : PageRef) : (s.collide pg).joined = s.joined := by rw [soft_collide s pg]
@[simp] theorem last_collide (s : State) (pg : PageRef) : (s.collide pg).last = s.last := by rw [soft_collide s pg]
@[simp] theorem outbox_collide (s : State) (pg : PageRef) : (s.collide pg).outbox = s.outbox := by rw [soft_collide s pg]
@[simp] theorem panel_collide (s : State) (pg : PageRef) : (s.collide pg).panel = s.panel := by rw [soft_collide s pg]
@[simp] theorem therm_collide (s : State) (pg : PageRef) : (s.collide pg).therm = s.therm := by rw [soft_collide s pg]
@[simp] theorem alloc_collide (s : State) (pg : PageRef) : (s.collide pg).alloc = s.alloc := by rw [soft_collide s pg]
@[simp] theorem can_collide (s : State) (pg : PageRef) : (s.collide pg).can = s.can := by rw [soft_collide s pg]
@[simp] theorem twin_collide (s : State) (pg : PageRef) : (s.collide pg).twin = s.twin := by rw [soft_collide s pg]
@[simp] theorem upd_collide (s : State) (pg : PageRef) : (s.collide pg).upd = s.upd := by rw [soft_collide s pg]
@[simp] theorem pmcs_collide (s : State) (pg : PageRef) : (s.collide pg).pmcs = s.pmcs := by rw [soft_collide s pg]
@[simp] theorem free_collide (s : State) (pg : PageRef) : (s.collide pg).free = s.free := by rw [soft_collide s pg]
@[simp] theorem ch_collide (s : State) (pg : PageRef) (k : Ch) : (s.collide pg).ch k = s.ch k := by simp [State.ch]

theorem soft_foldl {α : Type} (f : State → α → State) (hf : ∀ s a, Soft s (f s a)) (l : List α) :
    ∀ s : State, Soft s (l.foldl f s) := by
  induction l with
  | nil => intro s; exact Soft.refl s
  | cons a t ih => intro s; exact (hf s a).trans (ih (f s a))

theorem soft_setRegs (s : State) (f : Nat → Nat) (l : List Word) : Soft s (s.setRegs f l) :=
  soft_foldl _ (fun t p => soft_setReg t _ _) _ s

@[simp] theorem pending_setRegs (s : State) (f : Nat → Nat) (l : List Word) : (s.setRegs f l).pending = s.pending := by rw [soft_setRegs s f l]
@[simp] theorem mram_setRegs (s : State) (f : Nat → Nat) (l : List Word) : (s.setRegs f l).mram = s.mram := by rw [soft_setRegs s f l]
@[simp] theorem chans_setRegs (s : State) (f : Nat → Nat) (l : List Word) : (s.setRegs f l).chans = s.chans := by rw [soft_setRegs s f l]
@[simp] theorem clock_setRegs (s : State) (f : Nat → Nat) (l : List Word) : (s.setRegs f l).clock = s.clock := by rw [soft_setRegs s f l]
@[simp] theorem sup_setRegs (s : State) (f : Nat → Nat) (l : List Word) : (s.setRegs f l).sup = s.sup := by rw [soft_setRegs s f l]
@[simp] theorem snap_setRegs (s : State) (f : Nat → Nat) (l : List Word) : (s.setRegs f l).snap = s.snap := by rw [soft_setRegs s f l]
@[simp] theorem sessions_setRegs (s : State) (f : Nat → Nat) (l : List Word) : (s.setRegs f l).sessions = s.sessions := by rw [soft_setRegs s f l]
@[simp] theorem idents_setRegs (s : State) (f : Nat → Nat) (l : List Word) : (s.setRegs f l).idents = s.idents := by rw [soft_setRegs s f l]
@[simp] theorem nextSid_setRegs (s : State) (f : Nat → Nat) (l : List Word) : (s.setRegs f l).nextSid = s.nextSid := by rw [soft_setRegs s f l]
@[simp] theorem joined_setRegs (s : State) (f : Nat → Nat) (l : List Word) : (s.setRegs f l).joined = s.joined := by rw [soft_setRegs s f l]
@[simp] theorem last_setRegs (s : State) (f : Nat → Nat) (l : List Word) : (s.setRegs f l).last = s.last := by rw [soft_setRegs s f l]
@[simp] theorem outbox_setRegs (s : State) (f : Nat → Nat) (l : List Word) : (s.setRegs f l).outbox = s.outbox := by rw [soft_setRegs s f l]
@[simp] theorem panel_setRegs (s : State) (f : Nat → Nat) (l : List Word) : (s.setRegs f l).panel = s.panel := by rw [soft_setRegs s f l]
@[simp] theorem therm_setRegs (s : State) (f : Nat → Nat) (l : List Word) : (s.setRegs f l).therm = s.therm := by rw [soft_setRegs s f l]
@[simp] theorem alloc_setRegs (s : State) (f : Nat → Nat) (l : List Word) : (s.setRegs f l).alloc = s.alloc := by rw [soft_setRegs s f l]
@[simp] theorem can_setRegs (s : State) (f : Nat → Nat) (l : List Word) : (s.setRegs f l).can = s.can := by rw [soft_setRegs s f l]
@[simp] theorem twin_setRegs (s : State) (f : Nat → Nat) (l : List Word) : (s.setRegs f l).twin = s.twin := by rw [soft_setRegs s f l]
@[simp] theorem upd_setRegs (s : State) (f : Nat → Nat) (l : List Word) : (s.setRegs f l).upd = s.upd := by rw [soft_setRegs s f l]
@[simp] theorem pmcs_setRegs (s : State) (f : Nat → Nat) (l : List Word) : (s.setRegs f l).pmcs = s.pmcs := by rw [soft_setRegs s f l]
@[simp] theorem free_setRegs (s : State) (f : Nat → Nat) (l : List Word) : (s.setRegs f l).free = s.free := by rw [soft_setRegs s f l]
@[simp] theorem ch_setRegs (s : State) (f : Nat → Nat) (l : List Word) (k : Ch) : (s.setRegs f l).ch k = s.ch k := by simp [State.ch]

theorem reg_setRaise_ne (s : State) (f : RF) (pg : PageRef) (b a : Nat) (h0 : a ≠ f.addr) (h : a ∉ irqRegs pg) :
    (s.setRaise f pg b).reg a = s.reg a := by
  unfold State.setRaise
  split
  · rfl
  · rw [reg_raise_ne _ _ _ _ h, reg_putB_ne _ _ _ _ h0]

theorem reg_logReg_ne (s : State) (pg : PageRef) (o a : Nat) (h : a ∉ irqRegs ⟨.evt, 0⟩) :
    (s.logReg pg o).reg a = s.reg a := by
  simp only [irqRegs, List.mem_cons, not_or, List.not_mem_nil, not_false_eq_true, and_true] at h
  exact reg_log_ne s _ _ _ _ _ _ _ h.1 h.2.1

theorem get_logReg_ne (s : State) (pg : PageRef) (o : Nat) (g : RF) (h : g.addr ∉ irqRegs ⟨.evt, 0⟩) :
    (s.logReg pg o).get g = s.get g := get_congr _ _ _ (reg_logReg_ne s pg o _ h)

theorem get_logNone_ne (s : State) (pg : PageRef) (g : RF) (h : g.addr ∉ irqRegs ⟨.evt, 0⟩) :
    (s.logNone pg).get g = s.get g := by
  simp only [irqRegs, List.mem_cons, not_or, List.not_mem_nil, not_false_eq_true, and_true] at h
  exact get_congr _ _ _ (reg_log_ne s _ _ _ _ _ _ _ h.1 h.2.1)

end Sys2Proof.Machine
end

