-- ==== Sys2Proof/Laws/Access.lean ====
section
/-! SUPPORT. A write behind the gate: what it answers once the gate is known to open or to refuse. -/

namespace Sys2Proof.Machine
open Sys2Proof

/-- A write that the gate lets through answers what the register's own meaning answers. -/
theorem gated_ok {s : State} {src : Src} {pg : PageRef} {off : Nat} {v : Word} {f : State → Res}
    (h : (s.restartUnlock src pg off).gate src pg off v = .ok) : s.gated src pg off v f = f (s.restartUnlock src pg off) := by
  simp only [State.gated, h]

/-- A write that the gate refuses answers the gate's status and leaves the state but for a begun unlock sequence. -/
theorem gated_refused {s : State} {src : Src} {pg : PageRef} {off : Nat} {v : Word} {f : State → Res}
    (h : (s.restartUnlock src pg off).gate src pg off v ≠ .ok) :
    s.gated src pg off v f = ((s.restartUnlock src pg off).gate src pg off v, s.restartUnlock src pg off) := by
  unfold State.gated
  dsimp only
  split
  · rename_i h'; exact absurd h' h
  · rfl

@[simp] theorem answer_ok (t : State) : answer (.ok, t) = .next t.done := rfl
@[simp] theorem answer_refuse (st : Status) (t : State) (h : st ≠ .ok) : answer (refuse st t) = .next (t.refusedWith st) := by
  simp [answer, refuse, State.refusedWith, h]
@[simp] theorem answerRead_ok (t : State) (w : Word) : answerRead (.ok, t, w) = .next (t.doneRead w) := rfl

/-- Restarting an unlock sequence touches the sessions only. -/
theorem restartUnlock_eq (s : State) (src : Src) (pg : PageRef) (off : Nat) :
    ∃ l, s.restartUnlock src pg off = { s with sessions := l } := by
  unfold State.restartUnlock
  split
  · split
    · exact ⟨s.sessions, rfl⟩
    · exact ⟨_, rfl⟩
  · exact ⟨s.sessions, rfl⟩

end Sys2Proof.Machine
end

