-- ==== Sys2Proof/Laws/Frame.lean ====
section
/-! SUPPORT. What the operations on one channel leave alone (R1): the other channels, the clock, and the registers off
the channel's pages. -/

namespace Sys2Proof.Machine
open Sys2Proof

theorem onlyChannel.refl (s : State) (n : Ch) : onlyChannel s s n := ⟨fun _ _ => rfl, rfl, fun _ _ _ => rfl⟩

theorem onlyChannel.trans {s t u : State} {n : Ch} (h1 : onlyChannel s t n) (h2 : onlyChannel t u n) : onlyChannel s u n :=
  ⟨fun k hk => (h2.1 k hk).trans (h1.1 k hk), h2.2.1.trans h1.2.1, fun a ha hb => (h2.2.2 a ha hb).trans (h1.2.2 a ha hb)⟩

theorem onlyChannel.ite {s t u : State} {n : Ch} {c : Prop} [Decidable c] (h1 : onlyChannel s t n) (h2 : onlyChannel s u n) :
    onlyChannel s (if c then t else u) n := by split <;> assumption

/-- A register write on the channel, or of the mode or the panel. -/
theorem only_setReg (s : State) {n : Ch} {a : Nat} (v : Word) (h : onChannel n a ∨ a = R.SYS_STAT ∨ a = R.PANEL_STAT) :
    onlyChannel s (s.setReg a v) n := by
  refine ⟨fun _ _ => rfl, rfl, fun b hb hc => reg_setReg_ne s a b v ?_⟩
  rintro rfl
  rcases h with h | h | h
  · exact hb h
  · exact hc (by rw [h]; exact List.mem_cons_self)
  · exact hc (by rw [h]; exact List.mem_cons_of_mem _ List.mem_cons_self)

theorem only_put (s : State) {n : Ch} {f : RF} (v : Nat) (h : onChannel n f.addr ∨ f.addr = R.SYS_STAT ∨ f.addr = R.PANEL_STAT) :
    onlyChannel s (s.put f v) n := only_setReg s _ h

theorem only_putB (s : State) {n : Ch} {f : RF} (v : Bool) (h : onChannel n f.addr ∨ f.addr = R.SYS_STAT ∨ f.addr = R.PANEL_STAT) :
    onlyChannel s (s.putB f v) n := only_setReg s _ h

theorem only_putBit (s : State) {n : Ch} {f : RF} (i : Nat) (v : Bool)
    (h : onChannel n f.addr ∨ f.addr = R.SYS_STAT ∨ f.addr = R.PANEL_STAT) : onlyChannel s (s.putBit f i v) n := only_setReg s _ h

/-- A change of the channel's own part. -/
theorem only_modCh (s : State) (n : Ch) (f : Chan → Chan) : onlyChannel s (s.modCh n f) n :=
  ⟨fun k hk => ch_modCh_ne s n k f hk, rfl, fun _ _ _ => rfl⟩

theorem only_modSafe (s : State) (n : Ch) (f : SafeS → SafeS) : onlyChannel s (s.modSafe n f) n := only_modCh s n _
theorem only_modProf (s : State) (n : Ch) (f : ProfS → ProfS) : onlyChannel s (s.modProf n f) n := only_modCh s n _
theorem only_modPerc (s : State) (n : Ch) (f : PercS → PercS) : onlyChannel s (s.modPerc n f) n := only_modCh s n _
theorem only_modRing (s : State) (n : Ch) (f : RingS → RingS) : onlyChannel s (s.modRing n f) n := only_modCh s n _
theorem only_modBal (s : State) (n : Ch) (f : BalS → BalS) : onlyChannel s (s.modBal n f) n := only_modCh s n _
theorem only_modCtle (s : State) (n : Ch) (f : CtleS → CtleS) : onlyChannel s (s.modCtle n f) n := only_modCh s n _
theorem only_modFifo (s : State) (n : Ch) (f : FifoS → FifoS) : onlyChannel s (s.modFifo n f) n := only_modCh s n _
theorem only_modPour (s : State) (n : Ch) (f : PourS → PourS) : onlyChannel s (s.modPour n f) n := only_modCh s n _

/-- An interrupt source of the channel's pages or of SYS. -/
theorem only_raise (s : State) {n : Ch} {pg : PageRef} (b : Nat)
    (h : (onChannel n (R.IRQ_RAW pg) ∧ onChannel n (R.IRQ_PEND pg)) ∨ pg = pgSYS) : onlyChannel s (s.raise pg b) n := by
  refine ⟨fun k _ => by simp [State.ch], by simp, fun a ha hb => reg_raise_ne s pg b a ?_⟩
  intro hm
  have he : a = R.IRQ_RAW pgEVT ∨ a = R.IRQ_PEND pgEVT → a ∈ R.SYS_STAT :: R.PANEL_STAT :: irqOf pgSYS := by
    rintro (rfl | rfl) <;> simp [irqOf]
  simp only [irqRegs, List.mem_cons, List.not_mem_nil, or_false] at hm
  rcases hm with hm | hm | hm | hm
  · rcases h with h | h
    · exact ha (hm ▸ h.1)
    · subst h; exact hb (by rw [hm]; simp [irqOf])
  · rcases h with h | h
    · exact ha (hm ▸ h.2)
    · subst h; exact hb (by rw [hm]; simp [irqOf])
  · exact hb (he (.inl hm))
  · exact hb (he (.inr hm))

theorem only_log (s : State) (n : Ch) (c k v : Nat) (p q r : Word) : onlyChannel s (s.log c k v p q r) n := by
  refine ⟨fun k _ => by simp [State.ch], by simp, fun a _ hb => reg_log_ne s c k v p q r a ?_ ?_⟩ <;>
    (rintro rfl; exact hb (by simp [irqOf, pgEVT]))

theorem only_emit (s : State) (n : Ch) (m : OutMsg) : onlyChannel s (s.emit m) n := ⟨fun _ _ => rfl, rfl, fun _ _ _ => rfl⟩

/-- A step that happens under a condition. -/
theorem onlyChannel.thenIf {s t u : State} {n : Ch} {c : Prop} [Decidable c] (h1 : onlyChannel s t n) (h2 : onlyChannel t u n) :
    onlyChannel s (if c then u else t) n := by split; exacts [h1.trans h2, h1]
theorem onlyChannel.elseIf {s t u : State} {n : Ch} {c : Prop} [Decidable c] (h1 : onlyChannel s t n) (h2 : onlyChannel t u n) :
    onlyChannel s (if c then t else u) n := by split; exacts [h1, h1.trans h2]

/-- Addresses of a channel's pages. -/
theorem onChannel_of {n : Ch} {a : Nat} (k : Nat) (h : a = chBase n + k) (hk : k < 0x20000) : onChannel n a := by
  unfold onChannel; omega

theorem on_irq (n : Ch) : ∀ pg ∈ [pgCH n, pgSAFE n, pgPERC n, pgFIFO n, pgCONT n, pgRING n],
    onChannel n (R.IRQ_RAW pg) ∧ onChannel n (R.IRQ_PEND pg) := by
  unfold onChannel; revert n; decide

theorem only_pwmOff (s : State) (n : Ch) : onlyChannel s (s.pwmOff n) n := by
  unfold State.pwmOff
  dsimp only
  refine onlyChannel.trans ?_ (only_setReg _ _ (.inl (onChannel_of _ rfl (by decide))))
  refine onlyChannel.trans ?_ (only_put _ _ (.inl (onChannel_of _ rfl (by decide))))
  refine onlyChannel.trans ?_ (only_putB _ _ (.inl (onChannel_of _ rfl (by decide))))
  refine onlyChannel.trans ?_ (only_put _ _ (.inl (onChannel_of _ rfl (by decide))))
  refine onlyChannel.trans ?_ (only_putB _ _ (.inl (onChannel_of _ rfl (by decide))))
  exact (only_modCtle s n _).trans (only_modProf _ _ _)

theorem only_setMode (s : State) (n : Ch) (m : Nat) : onlyChannel s (s.setMode m) n := by
  unfold State.setMode
  refine .ite (.refl _ _) ?_
  exact ((only_put _ _ (.inr (.inl rfl))).trans (only_raise _ _ (.inr rfl))).trans (only_log _ _ _ _ _ _ _ _)

theorem only_standbyCheck (s : State) (n : Ch) : onlyChannel s s.standbyCheck n := by
  unfold State.standbyCheck
  exact .ite (only_setMode _ _ _) (.refl _ _)

theorem only_balZero (s : State) (n : Ch) : onlyChannel s (s.balZero n) n := by
  unfold State.balZero
  exact (only_modBal _ _ _).trans (only_modRing _ _ _)

theorem only_logReg (s : State) (n : Ch) (pg : PageRef) (o : Nat) : onlyChannel s (s.logReg pg o) n := by
  unfold State.logReg
  exact only_log _ _ _ _ _ _ _ _

theorem only_incSat (s : State) {n : Ch} {f : RF} (h : onChannel n f.addr) : onlyChannel s (s.incSat f) n := by
  unfold State.incSat
  exact only_put _ _ (.inl h)

theorem only_percStop (s : State) (n : Ch) (cause : Nat) : onlyChannel s (s.percStop n cause) n := by
  unfold State.percStop
  refine .ite (.refl _ _) ?_
  have h : onlyChannel s ((((s.put (F.PERC_STAT_MODE n) 0).put (F.PERC_STAT_CAUSE n) cause).modPerc n (fun p =>
      { p with latched := [], running := [], freeOut := [] })).modRing n (fun r =>
        { r with queue := r.queue.filter (fun f => f.cls != 2) })) n :=
    (((only_put _ _ (.inl (onChannel_of _ rfl (by decide)))).trans (only_put _ _ (.inl (onChannel_of _ rfl (by decide))))).trans
      (only_modPerc _ _ _)).trans (only_modRing _ _ _)
  have hp := on_irq n (pgPERC n) (by simp)
  refine .ite ?_ (.ite ?_ h)
  · exact ((h.trans (only_incSat _ (onChannel_of _ rfl (by decide)))).trans (only_logReg _ _ _ _)).trans (only_raise _ _ (.inl hp))
  · exact (h.trans (only_logReg _ _ _ _)).trans (only_raise _ _ (.inl hp))

/-- Entering a state other than ISOLATED concerns the channel alone. -/
theorem only_enterState (s : State) (n : Ch) (new cause : Nat) (h : new ≠ stISOLATED) : onlyChannel s (s.enterState n new cause) n := by
  have hc := on_irq n (pgCH n) (by simp)
  unfold State.enterState
  dsimp only
  simp only [h, or_false, false_and, if_false]
  refine .ite (.refl _ _) ?_
  refine onlyChannel.trans ?_ (only_standbyCheck _ _)
  refine .thenIf ?_ (only_percStop _ _ _)
  refine .thenIf ?_ (only_modProf _ _ _)
  refine onlyChannel.trans ?_ (only_modSafe _ _ _)
  refine .thenIf ?_ (only_pwmOff _ _)
  refine .thenIf ?_ (only_balZero _ _)
  refine .thenIf ?_ ((only_setReg _ _ (.inl (onChannel_of _ rfl (by decide)))).trans (only_modCtle _ _ _))
  refine .elseIf ?_ (only_put _ _ (.inl (onChannel_of _ rfl (by decide))))
  refine onlyChannel.trans ?_ (only_putBit _ _ _ (.inr (.inr rfl)))
  refine onlyChannel.trans ?_ (only_log _ _ _ _ _ _ _ _)
  refine .thenIf ?_ (only_raise _ _ (.inl hc))
  refine onlyChannel.trans ?_ (only_raise _ _ (.inl hc))
  refine .thenIf ?_ (only_put _ _ (.inl (onChannel_of _ rfl (by decide))))
  exact (only_put _ _ (.inl (onChannel_of _ rfl (by decide)))).trans (only_put _ _ (.inl (onChannel_of _ rfl (by decide))))

theorem only_isolateAtTrip (s : State) (n : Ch) (cause : Nat) : onlyChannel s (s.isolateAtTrip n cause) n := only_modSafe _ _ _

/-- A trip concerns its channel alone. -/
theorem only_trip (s : State) (n : Ch) (cause path param : Nat) : onlyChannel s (s.trip n cause path param) n := by
  unfold State.trip
  dsimp only
  refine .ite (.refl _ _) (.ite ?_ ?_)
  · exact (only_log _ _ _ _ _ _ _ _).trans (only_isolateAtTrip _ _ _)
  · refine .thenIf ?_ (only_emit _ _ _)
    refine onlyChannel.trans ?_ (only_isolateAtTrip _ _ _)
    refine onlyChannel.trans ?_ (only_enterState _ _ _ _ (by decide))
    refine onlyChannel.trans ?_ (only_log _ _ _ _ _ _ _ _)
    refine onlyChannel.trans ?_ (only_raise _ _ (.inl (on_irq n (pgSAFE n) (by simp))))
    refine onlyChannel.trans ?_ (only_modSafe _ _ _)
    refine onlyChannel.trans ?_ (only_setReg _ _ (.inl (onChannel_of _ rfl (by decide))))
    refine onlyChannel.trans ?_ (only_setReg _ _ (.inl (onChannel_of _ rfl (by decide))))
    exact (only_putB _ _ (.inl (onChannel_of _ rfl (by decide)))).trans (only_pwmOff _ _)

/-! ## FIFO -/

theorem only_fifoShow (s : State) (n : Ch) : onlyChannel s (s.fifoShow n) n := by
  unfold State.fifoShow
  dsimp only
  refine onlyChannel.trans ?_ (only_put _ _ (.inl (onChannel_of _ rfl (by decide))))
  exact (only_putB _ _ (.inl (onChannel_of _ rfl (by decide)))).trans (only_put _ _ (.inl (onChannel_of _ rfl (by decide))))

theorem only_fifoFlushed (s : State) (n : Ch) : onlyChannel s (s.fifoFlushed n) n := by
  unfold State.fifoFlushed
  dsimp only
  refine onlyChannel.trans ?_ (only_fifoShow _ _)
  refine onlyChannel.trans ?_ (only_modFifo _ _ _)
  refine onlyChannel.trans ?_ (only_putB _ _ (.inl (onChannel_of _ rfl (by decide))))
  exact (only_put _ _ (.inl (onChannel_of _ rfl (by decide)))).trans (only_putB _ _ (.inl (onChannel_of _ rfl (by decide))))

theorem only_eccRead (s : State) (n : Ch) (p : Nat) : onlyChannel s (s.eccRead n p) n := by
  unfold State.eccRead State.eccFound
  split
  · refine .ite ?_ ?_
    · exact (only_incSat _ (onChannel_of _ rfl (by decide))).trans (only_modFifo _ _ _)
    · exact ((only_incSat _ (onChannel_of _ rfl (by decide))).trans
        (only_raise _ _ (.inl (on_irq n (pgFIFO n) (by simp))))).trans (only_logReg _ _ _ _)
  · exact .refl _ _

theorem only_readFifo (s : State) (n : Ch) : onlyChannel s (s.readFifo n).1 n := by
  unfold State.readFifo
  dsimp only
  split
  · exact (only_putB _ _ (.inl (onChannel_of _ rfl (by decide)))).trans (only_raise _ _ (.inl (on_irq n (pgFIFO n) (by simp))))
  · generalize (s.rptr n + 1) % 65536 = v
    refine .ite ?_ ?_
    · refine onlyChannel.trans ?_ (only_fifoFlushed _ _)
      exact ((only_eccRead _ _ _).trans (only_put _ _ (.inl (onChannel_of _ rfl (by decide))))).trans (only_modFifo _ _ _)
    · refine onlyChannel.trans ?_ (only_fifoShow _ _)
      exact ((only_eccRead _ _ _).trans (only_put _ _ (.inl (onChannel_of _ rfl (by decide))))).trans (only_modFifo _ _ _)

theorem only_fifoDrop (s : State) (n : Ch) : onlyChannel s (s.fifoDrop n) n := by
  unfold State.fifoDrop
  exact ((only_incSat _ (onChannel_of _ rfl (by decide))).trans (only_modFifo _ _ _)).trans
    (only_raise _ _ (.inl (on_irq n (pgFIFO n) (by simp))))

theorem only_fifoMake (s : State) (n : Ch) (len k : Nat) : onlyChannel s (s.fifoMake n len k) n := by
  induction k generalizing s with
  | zero => exact .refl _ _
  | succ k ih =>
    rw [State.fifoMake]
    refine .ite (.refl _ _) (onlyChannel.trans ?_ (ih _))
    exact (only_put _ _ (.inl (onChannel_of _ rfl (by decide)))).trans (only_fifoDrop _ _)

/-- A write behind the gate: what the written command does, and nothing else on any channel. -/
theorem only_gated (s : State) (n : Ch) (src : Src) (pg : PageRef) (off : Nat) (v : Word) (f : State → Res)
    (h : ∀ t : State, onlyChannel t (f t).2 n) : onlyChannel s (s.gated src pg off v f).2 n := by
  have h0 : onlyChannel s (s.restartUnlock src pg off) n := by
    obtain ⟨l, hl⟩ := restartUnlock_eq s src pg off
    rw [hl]; exact ⟨fun _ _ => rfl, rfl, fun _ _ _ => rfl⟩
  unfold State.gated
  dsimp only
  split
  · exact h0.trans (h _)
  · exact h0

theorem only_doFifoCmd (s : State) (n : Ch) (v : Word) : onlyChannel s (s.doFifoCmd n v).2 n := by
  unfold State.doFifoCmd
  split
  · exact .refl _ _
  · unfold State.doMark
    split
    · exact .refl _ _
    · exact ((only_put _ _ (.inl (onChannel_of _ rfl (by decide)))).trans
        (only_putB _ _ (.inl (onChannel_of _ rfl (by decide))))).trans (only_putB _ _ (.inl (onChannel_of _ rfl (by decide))))
  · unfold State.doRewind
    split
    · exact .refl _ _
    · exact ((only_put _ _ (.inl (onChannel_of _ rfl (by decide)))).trans (only_modFifo _ _ _)).trans (only_fifoShow _ _)
  · unfold State.doFlush
    exact .ite (only_fifoFlushed _ _) (only_putB _ _ (.inl (onChannel_of _ rfl (by decide))))
  · exact only_putB _ _ (.inl (onChannel_of _ rfl (by decide)))
  · exact .refl _ _

/-! ## Shared pages -/

theorem sharedOnly.refl (s : State) : sharedOnly s s := ⟨rfl, fun _ _ => rfl⟩

theorem sharedOnly.trans {s t u : State} (h1 : sharedOnly s t) (h2 : sharedOnly t u) : sharedOnly s u :=
  ⟨h2.1.trans h1.1, fun a ha => (h2.2 a ha).trans (h1.2 a ha)⟩

theorem sharedOnly.ite {s t u : State} {c : Prop} [Decidable c] (h1 : sharedOnly s t) (h2 : sharedOnly s u) :
    sharedOnly s (if c then t else u) := by split <;> assumption

theorem sharedOnly.thenIf {s t u : State} {c : Prop} [Decidable c] (h1 : sharedOnly s t) (h2 : sharedOnly t u) :
    sharedOnly s (if c then u else t) := by split; exacts [h1.trans h2, h1]

theorem sharedOnly.elseIf {s t u : State} {c : Prop} [Decidable c] (h1 : sharedOnly s t) (h2 : sharedOnly t u) :
    sharedOnly s (if c then t else u) := by split; exacts [h1, h1.trans h2]

/-- A state with the same channels and registers. -/
theorem shared_of {s t : State} (h1 : t.chans = s.chans) (h2 : t.regs = s.regs) : sharedOnly s t :=
  ⟨h1, fun a _ => by unfold State.reg; rw [h2]⟩

theorem shared_setReg (s : State) {a : Nat} (v : Word) (h : a < 0x100000) : sharedOnly s (s.setReg a v) :=
  ⟨rfl, fun b hb => reg_setReg_ne s a b v (by omega)⟩

theorem shared_put (s : State) {f : RF} (v : Nat) (h : f.addr < 0x100000) : sharedOnly s (s.put f v) := shared_setReg s _ h
theorem shared_putB (s : State) {f : RF} (v : Bool) (h : f.addr < 0x100000) : sharedOnly s (s.putB f v) := shared_setReg s _ h
theorem shared_putBit (s : State) {f : RF} (i : Nat) (v : Bool) (h : f.addr < 0x100000) : sharedOnly s (s.putBit f i v) :=
  shared_setReg s _ h
theorem shared_incSat (s : State) {f : RF} (h : f.addr < 0x100000) : sharedOnly s (s.incSat f) := shared_setReg s _ h

theorem shared_raise (s : State) {pg : PageRef} (b : Nat) (h : R.IRQ_PEND pg < 0x100000) : sharedOnly s (s.raise pg b) := by
  refine ⟨by simp, fun a ha => reg_raise_ne s pg b a ?_⟩
  have h2 : R.IRQ_RAW pg < 0x100000 := by unfold R.IRQ_RAW R.IRQ_PEND hdr at *; omega
  have h3 : R.IRQ_RAW ⟨.evt, 0⟩ < 0x100000 ∧ R.IRQ_PEND ⟨.evt, 0⟩ < 0x100000 := by decide
  simp only [irqRegs, List.mem_cons, List.not_mem_nil, or_false, not_or]
  refine ⟨?_, ?_, ?_, ?_⟩ <;> omega

theorem shared_log (s : State) (c k v : Nat) (p q r : Word) : sharedOnly s (s.log c k v p q r) := by
  have h3 : R.IRQ_RAW ⟨.evt, 0⟩ < 0x100000 ∧ R.IRQ_PEND ⟨.evt, 0⟩ < 0x100000 := by decide
  exact ⟨by simp, fun a ha => reg_log_ne s c k v p q r a (by omega) (by omega)⟩

theorem shared_setRaise (s : State) {f : RF} {pg : PageRef} (b : Nat) (h1 : f.addr < 0x100000) (h2 : R.IRQ_PEND pg < 0x100000) :
    sharedOnly s (s.setRaise f pg b) := by
  unfold State.setRaise
  exact .ite (.refl _) ((shared_putB _ _ h1).trans (shared_raise _ _ h2))

theorem shared_snapRelease (s : State) (e : Bool) : sharedOnly s (s.snapRelease e) := by
  unfold State.snapRelease
  dsimp only
  refine .ite (.refl _) (.thenIf ?_ (shared_setRaise _ _ (by decide) (by decide)))
  exact (shared_putB s (f := F.SNAP_STAT_HELD) false (by decide)).trans (shared_of rfl rfl)

theorem shared_endSession (s : State) (i : Nat) : sharedOnly s (s.endSession i) := by
  unfold State.endSession
  dsimp only
  refine sharedOnly.trans (t := if s.ownsSnap (.session i) then s.snapRelease true else s) ?_ (shared_of rfl rfl)
  exact .ite (shared_snapRelease _ _) (.refl _)

theorem shared_endSessions (l : List Nat) (s : State) : sharedOnly s (l.foldl (fun t i => t.endSession i) s) := by
  induction l generalizing s with
  | nil => exact .refl _
  | cons i l ih => exact (shared_endSession s i).trans (ih _)

/-- Zeroisation touches no channel (R376). -/
theorem shared_zeroise (s : State) (tap : Bool) : sharedOnly s (s.zeroise tap) := by
  unfold State.zeroise
  dsimp only
  refine .thenIf ?_ (shared_putB _ _ (by decide))
  have h : sharedOnly s ((((List.foldl (fun t i => State.endSession t i) s (s.sessions.map (·.sid))).modUpd (fun u =>
      { u with key := none })).put F.SEC_STAT_PROV 2).modPanel (fun p => { p with screen := .zeroised })) :=
    (((shared_endSessions _ s).trans (shared_of rfl rfl)).trans (shared_put _ _ (by decide))).trans (shared_of rfl rfl)
  refine .elseIf h ?_
  exact (shared_raise _ _ (by decide)).trans (shared_log _ _ _ _ _ _ _)

theorem shared_verShow (s : State) : sharedOnly s s.verShow := by
  unfold State.verShow
  exact (shared_put _ _ (by decide)).trans (shared_put _ _ (by decide))

/-- A write behind the gate. -/
theorem shared_gated (s : State) (src : Src) (pg : PageRef) (off : Nat) (v : Word) (f : State → Res)
    (h : ∀ t : State, sharedOnly t (f t).2) : sharedOnly s (s.gated src pg off v f).2 := by
  have h0 : sharedOnly s (s.restartUnlock src pg off) := by
    obtain ⟨l, hl⟩ := restartUnlock_eq s src pg off
    rw [hl]; exact shared_of rfl rfl
  unfold State.gated
  dsimp only
  split
  · exact h0.trans (h _)
  · exact h0

end Sys2Proof.Machine
end

