-- ==== Sys2Proof/Tests/Slice0.lean ====
section
/-! SUPPORT. Tests of single commands against the spec's worked examples, ill-formed commands that WellFormed refuses,
and for each statement with hypotheses a state and operands that meet them. -/

namespace Sys2Proof.Tests
open Sys2Proof Sys2Proof.Machine

set_option Elab.async false

/-! ## Small states: a provisioned module in STANDBY with one service session (handle 0) -/

/-- A kept identity without history. -/
def wIdent : IdState := ⟨1, 0, 0, [], 0, 0, 0, [], []⟩

/-- A provisioned module in a mode, with an open service session of identity 1. -/
def wMode (m : Nat) : State :=
  { (State.reset.put F.SYS_STAT_MODE m).put F.SEC_STAT_PROV 1 with
    sessions := [⟨0, 1, .service, 0, [], []⟩], idents := [wIdent] }

/-- The same in STANDBY. -/
def wOpen : State := wMode mSTANDBY

/-- The same with an unlock of a page held by the session. -/
def wUnlocked (pg : PageRef) : State := { wOpen with sessions := [⟨0, 1, .service, 0, [(pg, 0)], []⟩] }


/-- A sample with nothing on its inputs. -/
def wSample : SampleIn := ⟨none, none, none, none, none, none, none, none, false, false, [], [], [], false, false, false, true⟩

/-- In RUN, and CH0 as a connection asks for it: connectors, ring, limits, stage and chemistry known, an epoch delivered. -/
def wReady : State :=
  let s := { wMode mRUN with clock := { wOpen.clock with tb := 1000000000 } }
  let s := (((s.put F.SYS_STAT_OPLVL 3).setReg (R.CH_CONN 0) 0xF).put (F.RING_STAT_STATE 0) 5).put (F.SAFE_LIMIT_IOC 0) 100
  let s := ((s.put (F.CTLE_STAGE_L_UH 0) 500).put (F.CTLE_STAGE_IRATED 0) 20).putB (F.EST_STAT_CHEM_VALID 0) true
  s.modPour 0 (fun p => { p with deliv := { EpochBuf.empty with valid := true } })

/-! ## Ill-formed commands -/

theorem test_wf_wrapRequest : (Instr.wrapRequest 0 ⟨List.replicate 65536 0, false⟩).wf = false := by
  rw [Instr.wf, List.length_replicate]; decide
theorem test_wf_read_address : (Instr.read .unit 0x1000000 1).wf = false := by decide
theorem test_wf_read_count : (Instr.read .unit 0 0).wf = false := by decide
theorem test_wf_readRepeat : (Instr.readRepeat .unit 0 256).wf = false := by decide
theorem test_wf_write : (Instr.write .unit 0 [] false).wf = false := by decide
theorem test_wf_writeMask : (Instr.writeMask .unit 0 [] false).wf = false := by decide
theorem test_wf_registerWrite : (Instr.registerWrite .unit 0x1000000 0 false).wf = false := by decide
theorem test_wf_atomicRequest_empty : (Instr.atomicRequest .unit ⟨[], false⟩).wf = false := by decide
theorem test_wf_atomicRequest_write : (Instr.atomicRequest .unit ⟨[.write 0 []], false⟩).wf = false := by decide
theorem test_wf_atomicRequest_mask : (Instr.atomicRequest .unit ⟨[.mask 0x1000000 [(0, 0)]], false⟩).wf = false := by decide
theorem test_wf_atomicRequest_many : (Instr.atomicRequest .unit ⟨List.replicate 65 .other, false⟩).wf = false := by decide
theorem test_wf_broadcastWrite : (Instr.broadcastWrite .unit 0x4400 ⟨[0], false⟩).wf = false := by decide
theorem test_wf_irqPendClear : (Instr.irqPendClear .unit ⟨.sys, 3⟩ 0).wf = false := by decide
theorem test_wf_pageUnlock : (Instr.pageUnlock .unit ⟨.sys, 3⟩ 0).wf = false := by decide
theorem test_wf_unlockExpiry : (Instr.unlockExpiry 0 ⟨.sys, 3⟩).wf = false := by decide
theorem test_wf_unlockLockoutEnd : (Instr.unlockLockoutEnd 1 ⟨.sys, 3⟩).wf = false := by decide
theorem test_wf_softReset : (Instr.softReset .unit ⟨.can, 1⟩).wf = false := by decide
theorem test_wf_pageDisable : (Instr.pageDisable .unit ⟨.can, 1⟩).wf = false := by decide
theorem test_wf_pageEnable : (Instr.pageEnable .unit ⟨.can, 1⟩).wf = false := by decide
theorem test_wf_bootEnd : (Instr.bootEnd ⟨true, false, true, true, true, [true], false⟩).wf = false := by decide
theorem test_wf_wakeVoltageCheck : (Instr.wakeVoltageCheck []).wf = false := by decide
theorem test_wf_holdupStart : (Instr.holdupStart ⟨26000, true, [], true⟩).wf = false := by decide
theorem test_wf_enum_cells : (Instr.enum 0 [⟨1, 256, 0⟩] true).wf = false := by decide
theorem test_wf_enum_version : (Instr.enum 0 [⟨1, 16, 65536⟩] true).wf = false := by decide
theorem test_wf_ctleSample : (Instr.ctleSample 0 ⟨40, none, none, none, none⟩).wf = false := by decide
theorem test_wf_dieSample : (Instr.dieSample []).wf = false := by decide
theorem test_wf_cdiagForce : (Instr.cdiagForce .unit 0 32 0).wf = false := by decide
theorem test_wf_balHcmdLapse : (Instr.balHcmdLapse 0 27 0).wf = false := by decide
theorem test_wf_progCheckDone_class : (Instr.progCheckDone 0 ⟨[⟨3, 0, 0, 0, 0⟩], [], [], []⟩).wf = false := by decide
theorem test_wf_canRxFrame_id : (Instr.canRxFrame ⟨false, false, false, false, false, 0x800, 0, []⟩).wf = false := by decide
theorem test_wf_canRxFrame_remote_fd : (Instr.canRxFrame ⟨false, true, false, false, true, 0, 0, []⟩).wf = false := by decide
theorem test_wf_canRxFrame_switch : (Instr.canRxFrame ⟨false, false, true, false, false, 0, 0, []⟩).wf = false := by decide
theorem test_wf_ptpAnnounce : (Instr.ptpAnnounce ⟨false, 256, 0, 0, 0, 0, 0, 0⟩).wf = false := by decide
theorem test_wf_mirror : (Instr.mirror ⟨true, 0, 1, 1, [], [], 0, 0, 0, 0, 0, [], [], []⟩).wf = false := by decide
theorem test_wf_ovf : (Instr.ovf pgSYS 0 ⟨1, 0, 0, 0⟩ []).wf = false := by decide
theorem test_wf_pmcCntlRead : (Instr.pmcCntlRead .unit pgSYS 0 0).wf = false := by decide
theorem test_wf_pmcCntlWrite : (Instr.pmcCntlWrite .unit pgSYS 0 0 0).wf = false := by decide
theorem test_wf_psSample : (Instr.psSample pgSYS ⟨0, 0, 0⟩).wf = false := by decide
theorem test_wf_psDataRead : (Instr.psDataRead .unit pgSYS).wf = false := by decide
theorem test_wf_psClear : (Instr.psClear .unit pgSYS 0).wf = false := by decide

/-! ## Worked examples of the spec -/

/-- The next state of a command. -/
def wNext (c : Instr) (s : State) : State := match exec c s with | .next t => t | _ => s

/-- Table 4.18's module: RUN, CH2 and CH6 CONNECTED, a PLANT_A session, 0x457 datagrams sent to its identity so far. -/
def wBcast : State :=
  { (((wMode mRUN).put (F.CH_STATE_STATE 2) stCONNECTED).put (F.CH_STATE_STATE 6) stCONNECTED) with
    sessions := [⟨0, 1, .plantA, 0, [], []⟩], idents := [{ wIdent with dseq := 0x457 }] }

/-- The request datagram of Table 4.18. -/
def wBcastBytes : List Byte :=
  [0x01, 0x01, 0x00, 0x0C, 0x00, 0x00, 0x1A, 0x2C, 0, 0, 0, 0, 0, 0, 0, 1, 0x02, 0x01, 0, 0, 0x00, 0x20, 0x40, 0x04, 0x80, 0, 0, 1]

/-- Table 4.18, 0.3 ms: the response datagram. -/
theorem test_broadcast_response : (wNext (.wrapRequest 0 ⟨wBcastBytes, false⟩) wBcast).outbox = [.response 0
    [0x01, 0x02, 0x00, 0x04, 0x00, 0x00, 0x1A, 0x2C, 0x00, 0x00, 0x04, 0x58, 0x00, 0x0E, 0x00, 0x01, 0x0E, 0x01, 0x00, 0xBB]] := by
  decide +kernel

/-- Table 4.18, 20.0 ms: HOST.BCAST_RESULT. -/
theorem test_broadcast_result :
    ((wNext (.wrapRequest 0 ⟨wBcastBytes, false⟩) wBcast).readReg (.session 0) pgHOST 0x02C).2.2 = 0x05FF44BB := by decide +kernel

/-- 23_register_index.md: the address of CH5.CTLE.BANKSEL; cell 100's value and code in the data window. -/
theorem test_register_addresses : R.CTLE_BANKSEL 5 = 0x1A1428 ∧ locate 0x1A1428 = .page (pgCTLE 5) 0x028
    ∧ locate 0x201428 = .bcast 0x1428 ∧ locate 0x1B0108 = .window 5 0x10108 := by decide +kernel

/-- Table 7.2: with the hard mark at 0x7F10 and the writer at 0xFD58, 440 words are free. -/
theorem test_fifo_free : ((((wOpen.put (F.FIFO_LEVEL_MARK 2) 0x7F10).putB (F.FIFO_STAT_MARK_VALID 2) true).put
    (F.FIFO_PTR_RPTR 2) 0xFD58).put (F.FIFO_PTR_WPTR 2) 0xFD58).fifoFree 2 = 440 := by decide +kernel

/-- Table 20.2: the counter's two words, and the wrap of 16 more events. -/
def wCounter : State := ((wOpen.modCtr (pgPMC 2) 1 0 (fun x => { x with val := 0xFFFFFFFFFFF0 })).put
  (pmcField (pgPMC 2) 0x020 1 0) 3).put (pmcEvsel (pgPMC 2) 1 0) 1
theorem test_counter_read : (wNext (.read (.session 0) (hdr (pgPMC 2) (cntlOff 1 0)) 2) wCounter).last.data
    = [0xFFFFFFF0, 0x0000FFFF] := by decide +kernel
theorem test_counter_wrap : let t := wNext (.ovf (pgPMC 2) 1 ⟨5, 0, 7, 4⟩ []) wCounter
    ((t.pmcOf (pgPMC 2)).get 1 0).val = 0 ∧ t.flag (pmcField (pgPMC 2) 0x024 8 8) = true := by decide +kernel

/-- 05_tile_ring.md, Table 5.8: tile 9 of CH3 lies at a = 1,700 ns and b = 3,100 ns. -/
theorem test_ring_delays : let m : DelayMeas := ⟨[10400], [5440], [⟨[684], 160⟩]⟩
    measA m = [1700] ∧ measB m = [3100] := by decide +kernel

/-- 13_dispatch_allocation.md: the shares before and after CH3 trips, truncated to mA. -/
def wMember (n : Ch) (ah : Rat) (lim : Rat) : AllocIn := ⟨n, ah, 1300, lim⟩
theorem test_allocation : (allocPasses true 8 (-2080000)
    [wMember 0 190 400, wMember 1 190 400, wMember 2 190 400, wMember 3 190 400, wMember 4 190 400, wMember 5 190 400,
      wMember 6 220 400, wMember 7 240 230]).map (fun x => (x.1, truncR (x.2 * 1000)))
    = [(7, -230000), (0, -191397), (1, -191397), (2, -191397), (3, -191397), (4, -191397), (5, -191397), (6, -221617)] := by
  decide +kernel

/-- Table 10.1: the deceleration from 200 A at 110 ms and at 200 ms. -/
theorem test_current_profile : let pl := optPlan 0 ⟨200, 0, 0⟩ 0 ⟨1000, 10000, 1000000⟩
    (pl.eval 110000000).p = 145 ∧ (pl.eval 110000000).v = -1000 ∧ (pl.eval 200000000).p = 55 ∧ segsDur pl.segs = 31 / 100 := by
  decide +kernel

/-- Table 19.3: a record is dropped when the log is full. -/
theorem test_sequence_wrap : nextSeqOf 0xFFFFFFFF = 1 ∧ nextSeqOf 133071 = 133072 := by decide

/-- R6: PLANT_ID takes 999 and refuses 1000. -/
theorem test_plant_id : ((wNext (.registerWrite (.session 0) 0x20 999 false) wOpen).last.status = .ok)
    ∧ (wNext (.registerWrite (.session 0) 0x20 1000 false) wOpen).last.status = .range := by decide +kernel

/-- The idle step, and the front command of a queue. -/
theorem test_step_idle : step State.reset = .next State.reset.tick := rfl
theorem test_step_front : step { wOpen with pending := [.canBusJoin] } = exec .canBusJoin wOpen := rfl

/-! ## States and operands that meet the hypotheses of the statements -/

/-! IdleTick -/

theorem witness_IdleTick : State.reset.pending = [] := rfl

/-! RegistersCanonicalKept -/

theorem witness_RegistersCanonicalKept : State.reset.regsCanonical ∧ step State.reset = .next State.reset.tick :=
  ⟨rfl, rfl⟩

/-! QueueUntouched -/

theorem witness_QueueUntouched : exec .logic24High State.reset = .next (State.reset.logNone pgSYS) := rfl

/-! RequestRoundTrip -/

theorem witness_RequestRoundTrip :
    let l : List WrapOp := [.read 0xFFFFFF 255, .write 0 [0xFFFFFFFF], .mask 0x30 [(1, 2)], .repeated 0x34 1]
    1 ≤ l.length ∧ l.length ≤ 64 ∧ (∀ o ∈ l, o.wf = true) ∧ (encodeRequest 0xFFFFFFFF true l).length ≤ 1400 := by
  decide

/-! ReadsAnswer -/

theorem witness_ReadsAnswer :
    (∀ i, i < 2 → wOpen.readAddr (.session 0) (0x30 + 4 * i) = (.ok, wOpen, if i = 0 then wOpen.reg 0x30 else 0)) := by
  intro i hi
  have : i = 0 ∨ i = 1 := by omega
  rcases this with h | h <;> subst h <;> rfl

/-! PlainRegisterReads -/

theorem witness_PlainRegisterReads :
    locate 0x30 = .page pgSYS 0x30 ∧ wOpen.reachable (.session 0) pgSYS = .ok ∧ findReg .sys 0x30 ≠ none
      ∧ locate 0x3FC = .page pgSYS 0x3FC ∧ findReg .sys 0x3FC = none := by decide +kernel

/-! PlainWrites -/

theorem witness_PlainWrites :
    locate (R.THERM_AX 0) = .page pgTHERM 0x070
      ∧ (wOpen.restartUnlock (.session 0) pgTHERM 0x070).gate (.session 0) pgTHERM 0x070 0x0A00F6EC = .ok
      ∧ wOpen.rangeOk pgTHERM 0x070 0 0x0A00F6EC = true ∧ (findReg .therm 0x070).isSome = true := by decide +kernel
theorem witness_PlainWrites_mask :
    (0x0A00F6EC : Word) = ((wOpen.readReg (.session 0) pgTHERM 0x070).2.2 &&& 0xFFFFFFFF &&& ~~~(0xFFFF0000 : Word))
      ||| (0x0A00F6EC &&& 0xFFFF0000) ∨ wOpen.reg (R.THERM_AX 0) = 0 := by decide +kernel

/-! GateOpens -/

theorem witness_GateOpens :
    wOpen.session 0 ≠ none ∧ wOpen.sup.restarting = false ∧ wOpen.mode ≠ mDECAF ∧ wOpen.mode ≠ mHALT
      ∧ wOpen.get F.SEC_STAT_PROV = 1 ∧ (findReg Page.ring 0x028).isSome = true ∧ wOpen.chState 7 = stISOLATED
      ∧ wOpen.standbyRefuses (.session 0) (pgRING 7) 0x028 = false ∧ privNeeded (pgRING 7) 0x028 0 = false
      ∧ wOpen.service (.session 0) = true := by decide +kernel

/-! RefusedWriteChangesNothing -/

theorem witness_RefusedWriteChangesNothing :
    (0x31 % 4 ≠ 0) ∧ locate 0x3C00 = .unmapped ∧ locate 0x204400 = .unmapped ∧ locate 0x30 = .page pgSYS 0x30
      ∧ (wOpen.restartUnlock (.session 0) pgSYS 0x30).gate (.session 0) pgSYS 0x30 0 = .access
      ∧ (State.reset.restartUnlock (.session 0) pgSYS 0x34).gate (.session 0) pgSYS 0x34 1 = .state := by decide +kernel

/-! AtomicAllOrNothing -/

theorem witness_AtomicAllOrNothing :
    atomicBad (.write (R.THERM_AX 0) [0x0A00F6EC]) = false ∧ atomicSize [.write (R.THERM_AX 0) [0x0A00F6EC]] = 1
      ∧ atomicBad .other = true ∧ atomicBad (.write 0x204400 [1]) = false ∧ atomicBad (.write 0x2043FC [1, 2]) = true := by
  decide +kernel
theorem witness_AtomicAllOrNothing_good :
    banksel (.write (R.THERM_AX 0) [0x0A00F6EC]) = false
    ∧ (((wOpen.enter (.session 0) false).shadowRun (.session 0) [.write (R.THERM_AX 0) [0x0A00F6EC]]).1.map (·.status)) = [.ok] := by decide +kernel

/-! BroadcastReachesEnabled -/

theorem witness_BroadcastReachesEnabled :
    (let s := wOpen.put F.HOST_BCAST_EN_EN 0x81
     let q := s.writeWords (.session 0) [] (chBase 7 + 0x424) [(0xFFFFFFFF, 0)]
     (allCh.filter (fun n => s.getBit F.HOST_BCAST_EN_EN n.val), q.1.status)) = ([0, 7], .access)
    ∧ locate 0x200424 = .bcast 0x424 := by decide +kernel
theorem witness_BroadcastReachesEnabled_ok :
    (let s := wOpen.put F.HOST_BCAST_EN_EN 0x81
     ((s.writeWords (.session 0) [] (chBase 0 + 0x410) [(0xFFFFFFFF, 2)]).1.status,
      (s.writeWords (.session 0) [] (chBase 7 + 0x410) [(0xFFFFFFFF, 2)]).1.status)) = (.ok, .ok) := by decide +kernel

/-! HeaderCommands -/

theorem witness_HeaderCommands_irq : (wOpen.restartUnlock (.session 0) pgCAN 0x014).gate (.session 0) pgCAN 0x014 4 = .ok := by
  decide +kernel
theorem witness_HeaderCommands_soft : (let u := wOpen.restartUnlock (.session 0) (pgFIFO 0) 0x004
    (u.gate (.session 0) (pgFIFO 0) 0x004 0x80000001, u.pageCtrlStatus (pgFIFO 0) 0x80000001, u.enabled (pgFIFO 0))) =
      (.ok, .ok, true) := by decide +kernel
theorem witness_HeaderCommands_off : (let u := wOpen.restartUnlock (.session 0) (pgRING 7) 0x004
    (u.gate (.session 0) (pgRING 7) 0x004 0, u.pageCtrlStatus (pgRING 7) 0, u.enabled (pgRING 7))) = (.ok, .ok, true) := by
  decide +kernel
theorem witness_HeaderCommands_on : (let u := (wOpen.putB (F.ENABLE (pgRING 7)) false).restartUnlock (.session 0) (pgRING 7) 0x004
    (u.gate (.session 0) (pgRING 7) 0x004 1, u.pageCtrlStatus (pgRING 7) 1, u.enabled (pgRING 7))) = (.ok, .ok, false) := by
  decide +kernel

/-! UnlockSequence -/

theorem witness_UnlockSequence : wOpen.session 0 = some ⟨0, 1, .service, 0, [], []⟩ ∧ wOpen.lockedOut 1 (pgSAFE 7) = false
    ∧ wOpen.gate (.session 0) (pgSAFE 7) 0x01C 0 = .ok := by decide +kernel

/-! WrapRequestAnswered -/

/-- The request READ of SYS.STAT with HSEQ 7. -/
def wReq : List Byte := encodeRequest 7 false [.read 0x30 1]
/-- The open module with a stored response to HSEQ 7. -/
def wStored : State := { wOpen with idents := [{ wIdent with stored := [(7, [0x01])], lastHseq := 7, dseq := 1 }] }
theorem witness_WrapRequestAnswered_size : wReq.length = beNat ((wReq.drop 2).take 2) + 16 ∧ 16 ≤ wReq.length
    ∧ ([0x01] : List Byte).length < 16 ∧ wOpen.session 0 = some ⟨0, 1, .service, 0, [], []⟩ := by decide +kernel
theorem witness_WrapRequestAnswered_new : wIdent.storedOf 7 = none ∧ wIdent.isOld 7 = false
    ∧ parseRequest wReq = some [.read 0x30 1] ∧ bytesWord ((wReq.drop 4).take 4) = 7 := by decide +kernel
theorem witness_WrapRequestAnswered_repeat :
    (wStored.idents.find? (fun z => z.ident == 1)).bind (fun y => y.storedOf 7) = some [0x01] := by decide +kernel

/-! SessionsOpenAndEnd -/

theorem witness_SessionsOpenAndEnd_open : wOpen.accepts .plantA 2 ⟨true, true, none, true⟩ = false
    ∧ ({ wOpen with sessions := [] }.put F.SEC_STAT_PROV 0 |>.putB F.PANEL_STAT_KEYSW true).accepts .service 2
      ⟨true, true, none, true⟩ = true := by decide +kernel
theorem witness_SessionsOpenAndEnd_end :
    (wOpen.modClock (fun c => { c with tb := 60000000000 })).passedMs 0 60000 = true ∧ wOpen.passedMs 0 60000 = false := by
  decide +kernel
theorem witness_SessionsOpenAndEnd_notify :
    (let s := wOpen.notify (pgRING 7) 2 1
     (s.sup.restarting, s.sessions.length, s.notifies.length, (s.idents.find? (fun z => z.ident == 1)).isSome)) =
      (false, 1, 1, true) := by decide +kernel

/-! SnapshotCommands -/

theorem witness_SnapshotCommands_req : (wOpen.restartUnlock (.session 0) pgSNAP 0x020).gate (.session 0) pgSNAP 0x020 0 = .ok
    ∧ wOpen.snap = none := by decide +kernel
/-- The open module with a snapshot of session 0. -/
def wSnap : State := { (wOpen.put F.SNAP_LAST_ADDR_ADDR 0x11FFFC) with snap := some ⟨0, 0, 1000, []⟩ }
theorem witness_SnapshotCommands_end : (wSnap.restartUnlock (.session 0) pgSNAP 0x024).gate (.session 0) pgSNAP 0x024 1 = .ok
    ∧ wSnap.ownsSnap (.session 0) = true ∧ wSnap.ownsSnap (.session 1) = false ∧ wSnap.snap ≠ none := by decide +kernel
theorem witness_SnapshotCommands_read : locate (wSnap.get F.SNAP_LAST_ADDR_ADDR) = .window 0 0x1FFFC
    ∧ wSnap.reachable (.session 0) (pgCH 0) = .ok := by decide +kernel

/-! FifoCommands -/

theorem witness_FifoCommands : let u := wOpen.restartUnlock (.session 0) (pgFIFO 7) 0x024
    u.gate (.session 0) (pgFIFO 7) 0x024 1 = .ok ∧ u.gate (.session 0) (pgFIFO 7) 0x024 2 = .ok
    ∧ u.gate (.session 0) (pgFIFO 7) 0x024 4 = .ok ∧ u.gate (.session 0) (pgFIFO 7) 0x024 8 = .ok := by decide +kernel
theorem witness_FifoCommands_mark : (wOpen.putB (F.FIFO_STAT_MARK_VALID 7) true).flag (F.FIFO_STAT_MARK_VALID 7) = true
    ∧ wOpen.flag (F.FIFO_STAT_MARK_LOST 7) = false ∧ wOpen.flag (F.FIFO_STAT_FLUSH_PEND 7) = false
    ∧ (wOpen.ch 7).fifo.headLeft = 0 := by decide +kernel
theorem witness_FifoCommands_read : wOpen.reachable (.session 0) (pgFIFO 7) = .ok ∧ wOpen.rptr 7 = wOpen.wptr 7
    ∧ (wOpen.put (F.FIFO_PTR_RPTR 7) 5).rptr 7 ≠ (wOpen.put (F.FIFO_PTR_RPTR 7) 5).wptr 7 := by decide +kernel

/-! EventCommands -/

theorem witness_EventCommands_flush :
    (wOpen.restartUnlock (.session 0) pgEVT 0x034).gate (.session 0) pgEVT 0x034 2 = .locked
    ∧ (wUnlocked pgEVT).gate (.session 0) pgEVT 0x034 2 = .ok ∧ (wUnlocked pgEVT).gate (.session 0) pgEVT 0x034 1 = .ok
    ∧ (wUnlocked pgEVT).service (.session 0) = true ∧ (wUnlocked pgEVT).sup.holdupAt = none := by decide +kernel
theorem witness_EventCommands_window :
    (let s := (wOpen.log 0x0141 0xF 0 1 2 3).setCursor (.session 0) 1
     ((s.atCursor (.session 0)).isSome, s.reachable (.session 0) pgEVT)) = (true, .ok) := by decide +kernel
theorem witness_EventCommands_optime : (wOpen.evt.optimeSaved + 60000 ≤ (wOpen.evt.opNow 60000000000)) := by decide +kernel

/-! EventNumbering -/

theorem witness_EventNumbering : wOpen.sup.restarting = false ∧ wOpen.evtFull = false := by decide +kernel
/-- A full log. -/
theorem witness_EventNumbering_full : ∀ e : EvtS, e.stored.length = 131072 → (State.evtFull { wOpen with evt := e }) = true := by
  intro e h
  simp [State.evtFull, EvtS.count, h, evtCap]

/-! CounterCommands -/

/-- Counter 0 of core 0 of CH7 counts source 1; the sampling buffer is enabled. -/
def wPmc : State := ((wOpen.setReg (hdr (pgPMC 7) 0x020) 0xFFFFFFFF).put (pmcEvsel (pgPMC 7) 0 0) 1).setReg (hdr (pgPMC 7) 0x028) 0x40000001
theorem witness_CounterCommands_ovf : isPmc (pgPMC 7) = true ∧ wPmc.enabled (pgPMC 7) = true
    ∧ wPmc.flag (pmcField (pgPMC 7) 0x020 0 0) = true
    ∧ eventCount ⟨2 ^ 48, 1, 0, 0⟩ [] (wPmc.get (pmcEvsel (pgPMC 7) 0 0)) = 2 ^ 48 + 1
    ∧ wPmc.flag (pmcField (pgPMC 7) 0x028 30 30) = true ∧ (wPmc.pmcOf (pgPMC 7)).ps = [] := by decide +kernel
theorem witness_CounterCommands_read : wPmc.pmcReadable (.session 0) (pgPMC 7) = .ok
    ∧ wPmc.reachable (.session 0) (pgPMC 7) = .ok := by decide +kernel
theorem witness_CounterCommands_write :
    (wOpen.restartUnlock (.session 0) (pgPMC 7) (cntlOff 1 5)).gate (.session 0) (pgPMC 7) (cntlOff 1 5) 1 = .ok := by
  decide +kernel
theorem witness_CounterCommands_entry : ((wPmc.modPmc (pgPMC 7) (fun p => { p with ps := [[1, 2, 3, 4]] })).pmcOf (pgPMC 7)).ps =
    [[1, 2, 3, 4]] := by decide +kernel
theorem witness_CounterCommands_clear :
    (wOpen.restartUnlock (.session 0) (pgPMC 7) 0x028).gate (.session 0) (pgPMC 7) 0x028 0x80000001 = .ok
      ∧ wOpen.flag (pmcField (pgPMC 7) 0x028 30 30) = false := by decide +kernel

/-! ModeCommands -/

theorem witness_ModeCommands_gates : (wMode mRUN).gate (.session 0) pgSYS 0x034 1 = .ok ∧ wOpen.gate (.session 0) pgSYS 0x034 2 = .ok
    ∧ (wMode mLIMP).gate (.session 0) pgSYS 0x034 2 = .ok ∧ wOpen.gate (.session 0) pgSYS 0x034 3 = .ok
    ∧ (wMode mDECAF).gate (.session 0) pgSYS 0x034 4 = .ok ∧ (wMode mHALT).gate (.session 0) pgSYS 0x034 5 = .ok
    ∧ wOpen.gate (.session 0) pgSYS 0x034 6 = .ok := by decide +kernel
theorem witness_ModeCommands_states : (wMode mRUN).mode = mRUN ∧ (wMode mLIMP).mode = mLIMP ∧ wOpen.sup.holdupAt = none
    ∧ allCh.all (fun n => wOpen.chState n == stISOLATED || wOpen.chState n == stLOCKOUT) = true
    ∧ ((wMode mDECAF).modSup (fun p => { p with wakeVolt := true })).sup.wakeVolt = true
    ∧ (wMode mHALT).service (.session 0) = true ∧ (wMode mHALT).get F.SYS_STAT_HALT_CAUSE = 0 := by decide +kernel

/-! PowerOnAndBootEnd -/

theorem witness_PowerOnAndBootEnd_power : wOpen.sup.holdupAt = none ∧ wOpen.sup.haltLatch = false ∧ wOpen.sup.decafLatch = false := by
  decide +kernel
theorem witness_PowerOnAndBootEnd_boot : State.reset.mode = mBOOT ∧ State.reset.sup.holdupAt = none
    ∧ State.reset.slotOk State.reset.upd.slotA true = true ∧ State.reset.slotOk State.reset.upd.slotB true = false
    ∧ State.reset.flag F.UPD_STAT_ACTIVE = false
    ∧ (State.reset.putB F.UPD_STAT_ACTIVE true).flag F.UPD_STAT_ACTIVE = true := by decide +kernel
theorem witness_PowerOnAndBootEnd_wake : (wMode mDECAF).mode = mDECAF
    ∧ (((wMode mDECAF).putB F.PANEL_STAT_KEYSW true).modSup (fun p => { p with wakeVolt := true })).flag F.PANEL_STAT_KEYSW = true := by
  decide +kernel

/-! SupplyEvents -/

theorem witness_SupplyEvents : wOpen.sup.fuseAt = none ∧ wOpen.sup.holdupAt = none ∧ wOpen.anyHold = false
    ∧ (wOpen.modSup (fun p => { p with fuseAt := some 0, holdupAt := some 0 })).sup.fuseAt = some 0
    ∧ 1000 * 1000000 ≤ ({ wOpen with clock := { wOpen.clock with tb := 1000000000 } } : State).tb - 0 := by decide +kernel

/-! PanelAndConnectors -/

theorem witness_PanelAndConnectors_loop : (wOpen.twinCh 0 && connIx .ps == wOpen.remoteConn 0) = false
    ∧ (wOpen.ch 0).qual.getLsbD 2 = false
    ∧ ((wOpen.modCh 0 (fun c => { c with qual := 0xF })).ch 0).qual.getLsbD 2 = true
    ∧ wOpen.flag ⟨R.CH_CONN 0, 2, 2⟩ = false ∧ (wOpen.putB ⟨R.CH_CONN 0, 2, 2⟩ true).flag ⟨R.CH_CONN 0, 2, 2⟩ = true
    ∧ wOpen.chState 0 ≠ stLOCKOUT := by decide +kernel
/-- CH3 selected, in LOCKOUT, the key in SERVICE. -/
def wPanel : State := ((wOpen.put F.PANEL_STAT_SELCH 3).put (F.CH_STATE_STATE 3) stLOCKOUT).putB F.PANEL_STAT_KEYSW true
theorem witness_PanelAndConnectors_panel : wPanel.selected = some 3 ∧ wPanel.chState 3 = stLOCKOUT
    ∧ wPanel.flag F.PANEL_STAT_KEYSW = true ∧ wPanel.restrictedNow = false ∧ wPanel.allPlugged 3 = false
    ∧ (wPanel.setReg (R.CH_CONN 3) 0xF).allPlugged 3 = true ∧ wPanel.mode = mSTANDBY ∧ wOpen.flag F.PANEL_STAT_KEYSW = false := by decide +kernel
theorem witness_PanelAndConnectors_isolate :
    ((wOpen.modSafe 3 (fun f => { f with isolating := true })).ch 3).safe.isolating = true
    ∧ 60000 * 1000000 ≤ ({ wOpen with clock := { wOpen.clock with tb := 60000000000 } } : State).tb
      - (wOpen.ch 3).safe.isoAt := by decide +kernel

/-! SweepFrames -/

/-- CH0 with a running ring of two tiles, the sweep on, epoch 0 sampled. -/
def wRun : State := (((wOpen.put (F.RING_STAT_STATE 0) 5).put (F.RING_STAT_TILES 0) 2).modPour 0
  (fun p => { p with on := true, sampled := true })).modRing 0 (fun r => { r with collected := true })
theorem witness_SweepFrames_send : (wRun.splitEnter 0).ringRuns 0 = true ∧ ((wRun.splitEnter 0).ch 0).pour.on = true
    ∧ wRun.ringRuns 0 = true ∧ (wRun.ch 0).pour.sampled = true ∧ (wRun.ch 0).pour.closed = false := by decide +kernel
theorem witness_SweepFrames_read : (wRun.ch 0).ring.reads < wRun.get (F.RING_CTRL_RETRY_MAX 0) ∧ wRun.endsBySweep 0 72 = true
    ∧ wRun.missing 0 = [1, 2] ∧ wRun.portOf 0 1 = some (.a, 0) := by decide +kernel
theorem witness_SweepFrames_recollect : ((wRun.modRing 0 (fun r => { r with recollectDue := true })).ch 0).ring.recollectDue = true
    ∧ wRun.endsBySweep 0 (16 + 56 * wRun.tiles 0) = true ∧ (wRun.modRing 0 (fun r => { r with recollectDue := false })).ports 0 = [(.a, 0)] := by
  decide +kernel
theorem witness_SweepFrames_return : (wRun.relay 0 .a []).ringRuns 0 = true ∧ trigOk [] = false ∧ parseFrame [] = none
    ∧ trigOk (frameBytes 2 0 0xFF 0 []) = false ∧ (parseFrame (frameBytes 2 0 0xFF 0 [])).map (fun r => (r.op, r.wrap)) = some (2, 0)
    ∧ (parseFrame (frameBytes 3 0 1 0 [])).map (fun r => (r.op, r.wrap)) = some (3, 0)
    ∧ (parseFrame (frameBytes 4 0 1 0 [0, 0x10])).map (fun r => (r.op, r.wrap)) = some (4, 0) := by decide +kernel

/-! SweepCommands -/

/-- A valid epoch is delivered on CH0, whose counts have run and whose channel is CONNECTED. -/
def wDeliv : State := (wRun.put (F.CH_STATE_STATE 0) 2).modPour 0 (fun p => { p with
  pending := true, deliv := { EpochBuf.empty with valid := true }, staleCnt := [0, 10], otCnt := [100], vlimRun := 10 })
theorem witness_SweepCommands_sample :
    let u := ((((wRun.overrun 0).holdCheck 0 wSample).vaxSample 0).balMode 0)
    (u.ch 0).pour.on = true ∧ u.ringRuns 0 = true := by decide +kernel
theorem witness_SweepCommands_counts : wDeliv.energised 0 = true ∧ (wDeliv.ch 0).pour.pending = true
    ∧ (List.range (wDeliv.ch 0).pour.staleCnt.length).find? (fun i => decide (10 ≤ nth (wDeliv.ch 0).pour.staleCnt i)) = some 1
    ∧ (List.range (wDeliv.ch 0).pour.tStale.length).find? (fun m => decide (100 ≤ nth (wDeliv.ch 0).pour.tStale m)) = none
    ∧ (List.range (wDeliv.ch 0).pour.otCnt.length).find? (fun m => decide (100 ≤ nth (wDeliv.ch 0).pour.otCnt m)) = some 0 := by
  decide +kernel
theorem witness_SweepCommands_lasting :
    let s := (wDeliv.put (F.CH_STATE_STATE 0) 5).modSafe 0 (fun f => { f with present := [0x03, 0x04] })
    s.chState 0 = stTRIPPED ∧ (s.ch 0).safe.present.contains 0x04 = true ∧ (s.ch 0).safe.present.contains 0x03 = true
    ∧ (s.ch 0).pour = (wDeliv.ch 0).pour := by decide +kernel
theorem witness_SweepCommands_hot :
    let s := wDeliv.modPour 0 (fun p => { p with staleCnt := [], tStale := p.otCnt })
    (List.range (s.ch 0).pour.staleCnt.length).find? (fun i => decide (10 ≤ nth (s.ch 0).pour.staleCnt i)) = none
    ∧ (List.range (s.ch 0).pour.tStale.length).find? (fun m => decide (100 ≤ nth (s.ch 0).pour.tStale m)) = some 0
    ∧ s.chState 0 ≠ stTRIPPED := by decide +kernel
theorem witness_SweepCommands_fifo : (wDeliv.ch 0).pour.committed = false
    ∧ (wDeliv.ch 0).pour.deliv.valid = true ∧ ((wDeliv.fifoUpset 0 (5, 1)).ch 0).fifo.flips = [(5, 1)]
    ∧ wDeliv.flag (F.FIFO_STAT_MARK_VALID 0) = false ∧ wDeliv.fifoFree 0 = 32768 := by decide +kernel

/-! RingStartCommands -/

/-- CH0's ring in a start state, at one hour of time-base time. -/
def wRing (st : Nat) : State := { wOpen.put (F.RING_STAT_STATE 0) st with clock := { wOpen.clock with tb := 3600000000000 } }
theorem witness_RingStartCommands_restart :
    (wOpen.restartUnlock (.session 0) (pgRING 0) 0x020).gate (.session 0) (pgRING 0) 0x020 (wOpen.reg (R.RING_CTRL 0) ||| 0x80000000) = .ok
    ∧ bitsOf (wOpen.reg (R.RING_CTRL 0) ||| 0x80000000) 5 4 ≤ 1 ∧ bitsOf (wOpen.reg (R.RING_CTRL 0) ||| 0x80000000) 3 0 ≤ 3
    ∧ wOpen.chState 0 = stISOLATED := by decide +kernel
theorem witness_RingStartCommands_states : (wRing 1).get (F.RING_STAT_STATE 0) = 1 ∧ (wRing 2).get (F.RING_STAT_STATE 0) = 2
    ∧ (wRing 3).get (F.RING_STAT_STATE 0) = 3 ∧ (wRing 4).get (F.RING_STAT_STATE 0) = 4 ∧ (wRing 7).get (F.RING_STAT_STATE 0) = 7
    ∧ 2000000 ≤ (wRing 1).tb - ((wRing 1).ch 0).ring.enumT0 ∧ 1000000000 ≤ (wRing 7).tb - ((wRing 7).ch 0).ring.faultT := by
  decide +kernel
/-- Four tiles of sixteen cells, as EXPECT asks on this state, seen twice before. -/
def wEnum : State := (((wRing 2).put (F.RING_EXPECT_TILES 0) 4).put (F.RING_EXPECT_CELLS 0) 64).modRing 0
  (fun r => { r with enumSame := 2, enumCount := 4 })
theorem witness_RingStartCommands_enum : wEnum.enumErr 0 (List.replicate 4 ⟨1, 16, 0⟩) true true = 0
    ∧ wEnum.enumErr 0 [] true true = 1 ∧ (wEnum.ch 0).ring.enumSame ≠ 0 ∧ (wEnum.ch 0).ring.enumCount = 4 := by decide +kernel
theorem witness_RingStartCommands_delay : measD ⟨[1000], [], []⟩ ≤ 12000 ∧ 12000 < measD ⟨[60000], [0], [⟨[0], 0⟩]⟩
    ∧ ([] : List Word).length = (wRing 3).tiles 0 ∧ ([0] : List Word).length ≠ (wRing 3).tiles 0 := by decide +kernel

/-! RingRunCommands -/

/-- CH0 in RUN at 0.5 ms of an epoch with one queued frame, or in SPLIT. -/
def wWin (st : Nat) : State := ({ wOpen.put (F.RING_STAT_STATE 0) st with
  clock := { wOpen.clock with tb := 10000000, plant := 2000500000 } } : State).modRing 0 (fun r => { r with
    queue := [wrReg 3 0xFF 0x20 [0, 0]], bgSince := 1000, goodEpochs := 1000, breakAt := some (0, 3, 4) })
theorem witness_RingRunCommands_frame : (wWin 5).ringRuns 0 = true ∧ (wWin 5).winTime = some 500000
    ∧ ((wWin 5).nextFrame 0 500000).isSome = true := by decide +kernel
theorem witness_RingRunCommands_sets : ((wWin 5).ch 0).ring.bgActive = false ∧ 1000 ≤ (sdiff 48 (wWin 5).ep ((wWin 5).ch 0).ring.bgSince).natAbs
    ∧ ((wWin 5).ch 0).ring.probes = 0
    ∧ ((wWin 5).modRing 0 (fun r => { r with bgActive := true })).setAgrees 0 ⟨[1000], [], []⟩ = true
    ∧ ((wWin 5).modRing 0 (fun r => { r with aTab := [0] })).setAgrees 0 ⟨[1000], [], []⟩ = false := by decide +kernel
theorem witness_RingRunCommands_links : (wOpen.modRing 0 (fun r => { r with upA := false })).capped 0 .a = false
    ∧ (wOpen.modRing 0 (fun r => { r with upB := false })).capped 0 .b = false
    ∧ 1 ≤ (wOpen.put (F.RING_STAT_STATE 0) 2).get (F.RING_STAT_STATE 0) ∧ (wOpen.put (F.RING_STAT_STATE 0) 2).get (F.RING_STAT_STATE 0) ≤ 4 := by decide +kernel
theorem witness_RingRunCommands_split : (wWin 5).get (F.RING_STAT_STATE 0) = 5 ∧ ((wWin 5).ch 0).ring.breakAt = some (0, 3, 4)
    ∧ ({ wWin 5 with clock := { (wWin 5).clock with plant := 2000000000 } } : State).inEpoch ≤ 100000
    ∧ 20000 ≤ ({ wWin 5 with clock := { (wWin 5).clock with plant := 2000000000 } } : State).trigTb 0 - 0
    ∧ (wWin 6).unwrapped 0 0 false = true ∧ (wWin 6).get (F.RING_STAT_STATE 0) = 6 ∧ ((wWin 6).ch 0).ring.rejoinSet = false
    ∧ ((wWin 6).ch 0).ring.unwrapAt = none ∧ 1000 ≤ ((wWin 6).ch 0).ring.goodEpochs := by decide +kernel

/-! IntegrityAndBalancing -/

theorem witness_IntegrityAndBalancing_cdiag :
    (wOpen.restartUnlock (.session 0) (pgCDIAG 0) 0x03C).gate (.session 0) (pgCDIAG 0) 0x03C 1 = .ok
    ∧ wOpen.chState 0 = stISOLATED ∧ wOpen.gate (.session 0) (pgCDIAG 0) 0x03C (forceWord 1 0) = .ok := by decide +kernel
/-- Two tiles of sixteen cells. -/
def wTiles : State := (wOpen.put (F.RING_STAT_TILES 0) 2).modRing 0 (fun r => { r with pops := [16, 16] })
theorem witness_IntegrityAndBalancing_tile : (1 : Nat) ≤ wTiles.tiles 0 ∧ 3 ≤ wTiles.pop 0 1 := by decide +kernel
/-- Balancing enabled, in a mode in effect, with one host duty that lapses at time 0. -/
def wBal (m : Nat) : State := ((wTiles.putB (F.ENABLE (pgBAL 0)) true).modBal 0 (fun q => { q with modeNow := m, hset := [(0, 0)] }))
theorem witness_IntegrityAndBalancing_bal : (wBal 1).balRuns 0 = true ∧ ((wBal 1).ch 0).bal.modeNow = 1
    ∧ ((wBal 1).ch 0).bal.autoAt = none ∧ ((wBal 2).ch 0).bal.modeNow = 2
    ∧ ((wBal 2).restartUnlock (.session 0) (pgBAL 0) 0x028).gate (.session 0) (pgBAL 0) 0x028 0x01A0FFFF = .ok
    ∧ bitsOf 0x01A0FFFF 23 16 ≤ 160 ∧ 1 ≤ bitsOf 0x01A0FFFF 31 24 ∧ bitsOf 0x01A0FFFF 31 24 ≤ (wBal 2).tiles 0
    ∧ ((wBal 2).ch 0).bal.hset.find? (fun h => h.1 == 0) = some (0, 0) := by decide +kernel

/-! CurrentControlEvents -/

/-- One ILOOP sample's inputs. -/
def wCtle : CtleIn := ⟨0, some 0, some 0, some 0, some 50000⟩
theorem witness_CurrentControlEvents_sample : wOpen.mode ≠ mDECAF ∧ wOpen.chState 0 ≠ stLOCKOUT
    ∧ (wOpen.ctleHead 0 wCtle).inhibited 0 = true ∧ (wOpen.ch 0).ctle.stageFault = false := by decide +kernel
/-- CH0 connected, with control enabled and its stage described. -/
def wConn : State := ((((wOpen.put (F.CH_STATE_STATE 0) 2).putB (F.CONT_STAT_INHIBIT 0) false).put (F.CTLE_STAGE_L_UH 0) 500).put
  (F.CTLE_STAGE_IRATED 0) 20).putB (F.ENABLE (pgCTLE 0)) true
theorem witness_CurrentControlEvents_law : (wConn.ctleHead 0 wCtle).inhibited 0 = false
    ∧ ((wConn.ctleHead 0 wCtle).iSel 0 wCtle).1.isSome = true
    ∧ ((wConn.ctleHead 0 { wCtle with iMain := none, iAux := none }).iSel 0 { wCtle with iMain := none, iAux := none }).1 = none := by
  decide +kernel
theorem witness_CurrentControlEvents_pre :
    let s := ((wOpen.put (F.CH_STATE_STATE 0) 1).put (F.CONT_STAT_STEP 0) 2).modPour 0 (fun p => { p with preRun := 10 })
    s.chState 0 = stPRECHARGE ∧ s.get (F.CONT_STAT_STEP 0) = 2 ∧ 10 ≤ (s.ch 0).pour.preRun := by decide +kernel
theorem witness_CurrentControlEvents_fe :
    let s := ({ wOpen.put (F.CH_STATE_STATE 0) 1 with clock := { wOpen.clock with tb := 4000000000000000 } } : State).modCtle 0
      (fun c => { c with feSince := some 0 })
    (s.ch 0).ctle.feSince = some 0 ∧ s.chState 0 = stPRECHARGE ∧ s.coef 0 0x06C * 1000000 ≤ ((s.tb - 0 : Nat) : Rat) := by decide +kernel
theorem witness_CurrentControlEvents_swap :
    let s := (wOpen.putB (F.CTLE_BANKSEL_PENDING 0) true).modCtle 0 (fun c => { c with swapAt := some 0 })
    s.flag (F.CTLE_BANKSEL_PENDING 0) = true ∧ s.swapDue 0 = true := by decide +kernel
theorem witness_CurrentControlEvents_inject :
    let s := wConn.modCtle 0 (fun c => { c with injFrom := some 0 })
    (s.ch 0).ctle.injFrom = some 0 ∧ (s.ch 0).ctle.injOn = false ∧ 0 ≤ s.ep ∧ s.chState 0 = stCONNECTED
    ∧ 0 + s.get (F.CTLE_INJ_CTRL_DURATION 0) ≤ s.ep + 60000 := by decide +kernel
theorem witness_CurrentControlEvents_capture :
    let s := (wOpen.put (F.CTLE_CAP_STAT_COUNT 0) 4096).putB (F.CTLE_CAP_STAT_ARMED 0) true
    s.get (F.CTLE_CAP_STAT_COUNT 0) = 4096 ∧ s.flag (F.CTLE_CAP_STAT_ARMED 0) = true := by decide +kernel

/-! CurrentControlCommands -/

theorem witness_CurrentControlCommands_gates : let g (o : Nat) (v : Word) := (wUnlocked (pgCTLE 0)).gate (.session 0) (pgCTLE 0) o v
    (g 0x028 1, g 0x028 5, g 0x028 2, g 0x044 0, g 0x040 0, g 0x048 0x80000001) = (.ok, .ok, .ok, .ok, .ok, .ok)
    ∧ (g 0x050 0x80000100, g 0x048 (injStopWord wOpen 0)) = (.ok, .ok) := by decide +kernel
theorem witness_CurrentControlCommands_swap : wReady.crossFail 0 (1 - wReady.bank 0) = none ∧ wReady.flag (F.CTLE_BANKSEL_PENDING 0) = false
    ∧ sdiff 32 ((wReady.setReg (R.CTLE_SWAP_EPOCH 0) (wReady.ep32 + 10)).reg (R.CTLE_SWAP_EPOCH 0)).toNat wReady.ep32.toNat = 10 := by
  decide +kernel
/-- CH0 connected in RUN, with the noise injection's default amplitude, and a captured buffer. -/
def wInject : State := (wReady.put (F.CH_STATE_STATE 0) 2).putB (F.CTLE_CAP_STAT_DONE 0) true
theorem witness_CurrentControlCommands_inject : wInject.injCheck 0 0x80200001 = .ok ∧ bitsOf 0x80200001 25 24 ≤ 1 ∧ bitsOf 0x80200001 15 0 = 1
    ∧ bit 0x80200001 30 = false ∧ bitsOf (injStopWord (wInject.put (F.CTLE_INJ_CTRL_DURATION 0) 7) 0) 15 0 = 7
    ∧ bitsOf 0x80000100 15 8 ≠ 0 ∧ bitsOf 0x80000100 1 0 ≠ 3 ∧ wInject.flag (F.CTLE_CAP_STAT_DONE 0) = true
    ∧ wInject.reachable (.session 0) (pgCTLE 0) = .ok := by decide +kernel
theorem witness_CurrentControlCommands_gain : f32 0x3F800000 = some 1 ∧ (bankRange 0x020).1 ≤ 1 ∧ (1 : Rat) ≤ (bankRange 0x020).2
    ∧ (bankRange 0x024).1 ≤ 1 ∧ (1 : Rat) ≤ (bankRange 0x024).2 ∧ wConn.chState 0 ≠ stISOLATED ∧ wOpen.swapDue 0 = false := by decide +kernel
theorem witness_CurrentControlCommands_state : wOpen.flag (F.CTLE_BANKSEL_PENDING 0) = false ∧ wOpen.chState 0 = stISOLATED := by
  decide +kernel

/-! ProfileCommands -/

/-- CH0 with its profile page enabled, in a channel state, its stage described, its axis energised and homed. -/
def wProf (st : Nat) : State := ((((({ wOpen.put (F.CH_STATE_STATE 0) st with clock := { wOpen.clock with tb := 9000000000 } } : State).put
  (F.CTLE_STAGE_IRATED 0) 20).putB (F.ENABLE (pgPROF 0)) true).putB (F.VAX_STAT_HOMED 0) true).putB (F.VAX_STAT_ENERGISED 0) true)
theorem witness_ProfileCommands_target : ((wProf 2).restartUnlock (.session 0) (pgPROF 0) 0x020).gate (.session 0) (pgPROF 0) 0x020 20000 = .ok
    ∧ (wProf 2).energised 0 = true ∧ (wProf 2).enabled (pgPROF 0) = true ∧ (wProf 2).alloc.modeNow ≠ 1
    ∧ (20000 : Word).toInt ≤ ((wProf 2).get (F.CTLE_STAGE_IRATED 0) : Int) * 1000 ∧ (wProf 1).chState 0 = stPRECHARGE := by decide +kernel
theorem witness_ProfileCommands_limits :
    let s := { wProf 2 with sessions := [⟨0, 1, .service, 0, [(pgPROF 0, 9000000000)], []⟩] }
    s.gate (.session 0) (pgPROF 0) (limOff .curLim) 0x00100401 = .ok ∧ s.gate (.session 0) (pgPROF 0) (limOff .curStop) 0x00100401 = .ok
    ∧ s.gate (.session 0) (pgPROF 0) (limOff .vlvLim) 0x00100401 = .ok ∧ fieldsLe 0x00100401 (s.reg (R.PROF_CUR_STOP 0)) = true
    ∧ fieldsLe (s.reg (R.PROF_CUR_LIM 0)) 0xFFFFFFFF = true ∧ bitsOf 0x00100401 31 20 ≤ 3125
    ∧ (bitsOf 0x00100401 31 20, bitsOf 0x00100401 19 10, bitsOf 0x00100401 9 0) = (1, 1, 1) := by decide +kernel
theorem witness_ProfileCommands_valve :
    (wProf 0).gate (.session 0) (pgPROF 0) 0x02C 0 = .ok ∧ (wProf 0).inRange 0 0 = true
    ∧ (wProf 0).inRange 0 ((wProf 0).ch 0).vax.refPos = true ∧ (wProf 0).get (F.VAX_STAT_FAULT 0) = 0
    ∧ (wProf 0).gate (.session 0) (pgPROF 0) 0x034 1 = .ok ∧ (wProf 0).gate (.session 0) (pgVAX 0) 0x020 (clrWord (wProf 0) 0) = .ok
    ∧ (wProf 0).causeEnded 0 = true ∧ (wProf 0).gate (.session 0) (pgVAX 0) 0x020 0x80000000 = .ok
    ∧ (wProf 0).flag (F.PROF_STAT_VLV_BUSY 0) = false ∧ (wProf 0).flag (F.VAX_STAT_HOMING 0) = false := by decide +kernel
theorem witness_ProfileCommands_stop :
    let s := ((wProf 4).modPour 0 (fun p => { p with zeroRun := 3 })).modProf 0 (fun p => { p with stopAt := some 0 })
    s.chState 0 = stSTOPPING ∧ 3 ≤ (s.ch 0).pour.zeroRun ∧ (s.ch 0).safe.holdOffAt = none ∧ (s.ch 0).prof.stopAt = some 0
    ∧ 5000000000 ≤ s.tb - 0 := by decide +kernel

/-! ValveAxisEvents -/

/-- CH0's axis energised or not, at one hour, a following error since 0, homing in its last phase. -/
def wAxis (en : Bool) : State := ((({ wOpen with clock := { wOpen.clock with tb := 3600000000000 } } : State).putB
  (F.VAX_STAT_ENERGISED 0) en).putB (F.VAX_STAT_HOMING 0) true).modVax 0 (fun x => { x with feSince := some 0, phase := .done })
theorem witness_ValveAxisEvents_eval : ((wAxis false).modVax 0 (fun x => { x with enc := 5, drive := (wAxis false).reg (R.VAX_DRIVE 0) })).flag (F.VAX_STAT_ENERGISED 0) = false
    ∧ ((wAxis true).modVax 0 (fun x => { x with enc := 5, drive := (wAxis true).reg (R.VAX_DRIVE 0) })).flag (F.VAX_STAT_ENERGISED 0) = true
    ∧ ((wAxis true).modVax 0 (fun x => { x with enc := 5, drive := (wAxis true).reg (R.VAX_DRIVE 0) })).get (F.VAX_STAT_FAULT 0) = 0 := by decide +kernel
theorem witness_ValveAxisEvents_fault : ((wAxis true).ch 0).vax.feSince = some 0
    ∧ (wAxis true).coef 0 0x08C * 1000000 ≤ (((wAxis true).tb - 0 : Nat) : Rat) ∧ (wAxis true).chState 0 ≠ stLOCKOUT
    ∧ 500000000 ≤ (wAxis true).tb - ((wAxis true).ch 0).vax.lastStep := by decide +kernel
theorem witness_ValveAxisEvents_limit :
    let s := (wAxis true).setLim 0 true { (wAxis true).lim 0 true with raw := !(wAxis true).flag (F.VAX_CTRL_POL_HI 0), active := false }
    5000000 ≤ s.tb - (s.lim 0 true).since ∧ ((s.lim 0 true).raw != s.flag (F.VAX_CTRL_POL_HI 0)) = !(s.lim 0 true).active := by decide +kernel
theorem witness_ValveAxisEvents_home : (wAxis true).flag (F.VAX_STAT_HOMING 0) = true ∧ ((wAxis true).ch 0).vax.phase = .done
    ∧ 1000 * (wAxis true).get (F.VAX_HOME_TMO 0) * 1000000 ≤ (wAxis true).tb - ((wAxis true).ch 0).vax.homeAt := by decide +kernel

/-! ImpedanceCommands -/

/-- CH0's impedance page enabled, in a mode and a phase. -/
def wImp (mode phase : Nat) : State := ((wOpen.putB (F.ENABLE (pgIMP 0)) true).put (F.IMP_CTRL_MODE 0) mode).put (F.IMP_STAT_PHASE 0) phase
theorem witness_ImpedanceCommands_start : ((wImp 2 0).restartUnlock (.session 0) (pgIMP 0) 0x070).gate (.session 0) (pgIMP 0) 0x070 1 = .ok
    ∧ ((wImp 2 1).restartUnlock (.session 0) (pgIMP 0) 0x070).gate (.session 0) (pgIMP 0) 0x070 2 = .ok
    ∧ (wImp 2 0).impMode 0 = 2 ∧ ((wImp 2 0).ch 0).imp.due = none ∧ (wImp 2 0).get (F.IMP_STAT_PHASE 0) = 0
    ∧ (wImp 2 1).impRunning 0 = true ∧ (wImp 2 0).impRunning 0 = false := by decide +kernel
theorem witness_ImpedanceCommands_leadin :
    let s := (wImp 2 0).modImp 0 (fun p => { p with due := some 0 })
    (s.ch 0).imp.due = some 0 ∧ 0 ≤ sdiff 48 (s.ep + 1000 * s.get (F.IMP_SCHED_LEADIN 0)) 0 ∧ s.impMayStart 0 = false
    ∧ (s.put (F.IMP_CTRL_TTONE 0) 20).tonesOk 0 = false := by decide +kernel
theorem witness_ImpedanceCommands_tones :
    ((((wImp 2 0).put (F.IMP_CTRL_NTONES 0) 1).put (F.IMP_TONE_BIN 0 0) 20).put (F.IMP_CTRL_TTONE 0) 0).put (F.IMP_CTRL_RTONE 0) 0 |>.tonesOk 0 := by
  decide +kernel
theorem witness_ImpedanceCommands_capture :
    let s := (wImp 2 2).modPour 0 (fun p => { p with deliv := { EpochBuf.empty with valid := true } })
    (s.ch 0).pour.deliv.valid = true ∧ s.get (F.IMP_STAT_PHASE 0) ≠ 0 ∧ (s.ch 0).pour.deliv.epoch = ((s.ch 0).imp.e0 + (s.ch 0).imp.cap.length) % 2 ^ 48
    ∧ (s.ch 0).imp.cap.length < 20000 ∧ (wImp 2 3).get (F.IMP_STAT_PHASE 0) = 3 ∧ (wImp 2 2).voidCauses 0 = [1] := by decide +kernel
theorem witness_ImpedanceCommands_done (l : List ImpEpoch) (h : l.length = 20000) :
    20000 ≤ (((wImp 2 3).modImp 0 (fun p => { p with cap := l })).ch 0).imp.cap.length := by simp [h]

/-! EstimatorTasks -/

/-- CH0's estimator enabled with chemistry, one measured cell and one open group, at hour 10, on a delivered epoch. -/
def wEst (e : Nat) : State := (({ wOpen.putB (F.ENABLE (pgEST 0)) true with clock := { wOpen.clock with tb := 36000000000000 }, sup := { wOpen.sup with vholdOk := true } } : State).modPour 0
  (fun p => { p with deliv := { EpochBuf.empty with valid := true, epoch := e, cellQ := [0] } })).modEst 0 (fun x => { x with
    chemOk := true, group := [(none, [])], restT0 := some 0, cells := [{ EstCell.fresh 50 with init := true, measRun := 10 }], calKind := 1
    writeDue := true })
theorem witness_EstimatorTasks_filter : let s := wEst 9
    ((s.ch 0).twin.standby = false ∧ (s.ch 0).pour.deliv.valid = true ∧ s.enabled (pgEST 0) = true)
    ∧ (s.ch 0).pour.deliv.epoch % s.kfPeriod 0 = s.kfPeriod 0 - 1 ∧ (s.ch 0).est.group.length = 1
    ∧ 0 < (s.ch 0).est.cells.length ∧ (s.ch 0).pour.deliv.cellQ.getD 0 4 = 0 ∧ (s.estCell 0 0).init = true := by decide +kernel
theorem witness_EstimatorTasks_rest : let s := wEst 9
    (s.ch 0).est.restT0 = some 0 ∧ 900000000000 ≤ s.tb - 0 ∧ (s.ch 0).est.aggPend = [] ∧ 3600000000000 ≤ s.tb - (s.ch 0).est.restHourAt
    ∧ 10 ≤ (s.estCell 0 0).measRun ∧ s.sup.vholdOk = true ∧ (s.ch 0).est.unloaded = false ∧ (s.ch 0).est.writeDue = true := by decide +kernel
theorem witness_EstimatorTasks_power : let s := wEst 99
    (s.ch 0).pour.deliv.epoch % 100 = 99 ∧ s.sopCells 0 (s.ch 0).pour.deliv = [0] ∧ s.calCond 0 1 = true ∧ (s.ch 0).est.calKind = 1
    ∧ (s.put (F.CH_STATE_STATE 0) 2).calCond 0 1 = false ∧ (s.put (F.CH_STATE_STATE 0) 2).calCond 0 2 = true := by decide +kernel
theorem witness_EstimatorTasks_window (s : State) :
    1000 ≤ ((s.modEst 0 (fun e => { e with calWin := List.replicate 1000 0 })).ch 0).est.calWin.length := by
  rw [ch_est_modEst, List.length_replicate]

/-! EstimatorCommands -/

theorem witness_EstimatorCommands_gates : let g (o : Nat) (v : Word) := (wUnlocked (pgEST 0)).gate (.session 0) (pgEST 0) o v
    (g 0x02C 7, g 0x030 1, g 0x020 (estCtrlWord wOpen 0 31), g 0x020 (estCtrlWord wOpen 0 30), g 0x044 (icalWord wOpen 0 31),
      g 0x044 (icalWord wOpen 0 30)) = (.ok, .ok, .ok, .ok, .ok, .ok) := by decide +kernel
theorem witness_EstimatorCommands_states : wOpen.chState 0 = stISOLATED ∧ wOpen.reachable (.session 0) (pgEST 0) = .ok
    ∧ (wUnlocked (pgEST 0)).unlocked (.session 0) (pgEST 0) = true ∧ wOpen.calCond 0 1 = true
    ∧ (wOpen.put (F.CH_STATE_STATE 0) 2).calCond 0 2 = true ∧ (chemFail []).isSome = true := by decide +kernel
theorem witness_EstimatorCommands_words : (bit (estCtrlWord wOpen 0 31) 31, bit (estCtrlWord wOpen 0 31) 30, bit (estCtrlWord wOpen 0 30) 31,
    bit (estCtrlWord wOpen 0 30) 30) = (true, false, false, true)
    ∧ (bit (icalWord wOpen 0 31) 31, bit (icalWord wOpen 0 31) 30, bitsOf (icalWord wOpen 0 31) 25 24) = (true, false, 0)
    ∧ (bit (icalWord wOpen 0 30) 31, bit (icalWord wOpen 0 30) 30, bitsOf (icalWord wOpen 0 30) 25 24) = (false, true, 0) := by decide +kernel

/-! AllocatorCommands -/

theorem witness_AllocatorCommands_run : wOpen.sup.restarting = false ∧ wOpen.allocDue = true ∧ wOpen.allocLimits.restOffer.alloc.modeNow = 0
    ∧ (((wMode mRUN).putB (F.ENABLE pgALLOC) true).put F.ALLOC_CTRL_MODE 1).allocLimits.restOffer.alloc.modeNow = 1 := by decide +kernel
theorem witness_AllocatorCommands_command : (wOpen.restartUnlock (.session 0) pgALLOC 0x024).gate (.session 0) pgALLOC 0x024 1000 = .ok
    ∧ (-200000 : Int) ≤ (1000 : Word).toInt ∧ (1000 : Word).toInt ≤ 200000
    ∧ wOpen.get F.ALLOC_PCMD_TMO_TMO ≠ 0
    ∧ wOpen.alloc.tmoDone = false
    ∧ 100 * wOpen.get F.ALLOC_PCMD_TMO_TMO * 1000000 ≤ ({ wOpen with clock := { wOpen.clock with tb := 10000000000000 } } : State).tb - wOpen.alloc.cmdAt := by
  decide +kernel
theorem witness_AllocatorCommands_rest : (wOpen.putB F.ALLOC_STAT_REST_ACT true).flag F.ALLOC_STAT_REST_ACT = true
    ∧ (wOpen.putB F.ALLOC_STAT_REST_ACT true).restOver = true := by decide +kernel

/-! ThermalCommands -/

/-- CH0 with a delivered epoch 9, 200 ms after the last compensation step, sensor 0 read and sensor 1 failed. -/
def wTherm : State := (((({ wOpen with clock := { wOpen.clock with tb := 200000000 } } : State).modPour 0 (fun p =>
  { p with deliv := { EpochBuf.empty with valid := true, epoch := 9 } })).put (F.THERM_DIE_TEMP 0) 250).putBit F.THERM_STAT_FAILED 1 true).put
  (F.THERM_DIE_TEMP 8) 300
theorem witness_ThermalCommands_limits : axesOk ([0, 1, 2, 3].map (fun k => wTherm.reg (R.THERM_AX k))) = true
    ∧ axesOk ([0, 1, 2, 3].map (fun k => (wTherm.setReg (R.THERM_AX 0) 0).reg (R.THERM_AX k))) = false
    ∧ (wTherm.setReg (R.THERM_AX 0) 0).flag F.THERM_CTRL_COMPAT = false
    ∧ (wTherm.putB F.THERM_CTRL_COMPAT true).flag F.THERM_CTRL_COMPAT = true ∧ wTherm.thermDue 0 = true := by decide +kernel
theorem witness_ThermalCommands_compensation : 100000000 ≤ wTherm.tb - wTherm.clock.compAt ∧ wTherm.dieNow 0 = some 25
    ∧ wTherm.dieNow 1 = none ∧ wTherm.dieNow 8 = some 30 ∧ wOpen.dieNow 8 = none ∧ wOpen.ep % 10 = 0 := by decide +kernel

/-! TripSources -/

/-- CH0 in a state at one hour, a step begun, an overcurrent kept, a trip and a holds-off at time 0. -/
def wSafe (st k : Nat) : State := ((({ wOpen with clock := { wOpen.clock with tb := 3600000000000 } } : State).put (F.CH_STATE_STATE 0) st).put
  (F.CONT_STAT_STEP 0) k).modSafe 0 (fun f => { f with ocAt := some 0, tripAt := some 0, holdOffAt := some 0 })
theorem witness_TripSources_current : wReady.chState 0 ≠ stLOCKOUT ∧ wReady.get (F.SAFE_LIMIT_IOC 0) ≠ 0
    ∧ wReady.flag (F.CTLE_STAT_IMAIN_FAIL 0) = false ∧ wReady.flag (F.CTLE_STAT_IAUX_FAIL 0) = false
    ∧ wReady.get (F.SAFE_LIMIT_IOC 0) * 1000 < ((wReady.calIn 0 false (some 9000000)).getD 9000000).natAbs
    ∧ wReady.get (F.SAFE_LIMIT_IOC 0) * 1000 < ((wReady.calIn 0 true (some 9000000)).getD 9000000).natAbs := by decide +kernel
theorem witness_TripSources_demand : (wOpen.put (F.SAFE_SICFG_EN 0) 15).getBit (F.SAFE_SICFG_EN 0) 3 = true := by decide +kernel
theorem witness_TripSources_times : ((wSafe 1 1).ch 0).safe.ocAt = some 0 ∧ 30000 ≤ (wSafe 1 1).tb - 0 ∧ ((wSafe 1 1).ch 0).safe.tripAt = some 0
    ∧ 1000000 ≤ (wSafe 1 1).tb - 0 ∧ (wSafe 1 1).chState 0 = stPRECHARGE ∧ (wSafe 1 3).get (F.CONT_STAT_STEP 0) = 3
    ∧ (wSafe 1 4).get (F.CONT_STAT_STEP 0) = 4 ∧ (wSafe 1 1).get (F.CONT_STAT_STEP 0) = 1 ∧ (wSafe 1 2).get (F.CONT_STAT_STEP 0) = 2 := by
  decide +kernel
theorem witness_TripSources_late :
    (wSafe 1 1).get (F.CONT_CFG_CLOSE_TMO 0) * 1000000 ≤ (wSafe 1 1).tb - ((wSafe 1 1).ch 0).safe.stepAt
    ∧ 1000 * (wSafe 1 2).get (F.CONT_CFG_PRE_TMO 0) * 1000000 ≤ (wSafe 1 2).tb - ((wSafe 1 2).ch 0).safe.stepAt
    ∧ ((wSafe 4 0).ch 0).safe.holdOffAt = some 0 ∧ 100000000 ≤ (wSafe 4 0).tb - 0 ∧ (wSafe 4 0).chState 0 ≠ stPRECHARGE
    ∧ (wSafe 4 0).anyFb 0 = false ∧ ((wSafe 4 0).putB (F.CONT_STAT_FB_POS 0) true).anyFb 0 = true
    ∧ wOpen.flag F.HLTH_CTRL_EN = true := by decide +kernel

/-! ProtectionCommands -/

theorem witness_ProtectionCommands_connect : wReady.connectRefused 0 = false ∧ wReady.gate (.session 0) (pgCONT 0) 0x020 1 = .ok := by
  decide +kernel
theorem witness_ProtectionCommands_gates : wOpen.gate (.session 0) (pgCONT 0) 0x020 1 = .ok ∧ wOpen.gate (.session 0) (pgCONT 0) 0x020 2 = .ok
    ∧ (wUnlocked (pgSAFE 0)).gate (.session 0) (pgSAFE 0) 0x040 1 = .ok ∧ (wUnlocked (pgSAFE 0)).gate (.session 0) (pgSAFE 0) 0x040 2 = .ok
    ∧ (wUnlocked pgHLTH).gate (.session 0) pgHLTH 0x020 0 = .ok ∧ wOpen.flag F.HLTH_CTRL_EN = true := by decide +kernel
theorem witness_ProtectionCommands_states :
    let s := ({ wOpen with clock := { wOpen.clock with tb := 3600000000000 } } : State).put (F.CH_STATE_STATE 0) 5
    s.chState 0 = stTRIPPED ∧ 1000000000 ≤ s.tb - (s.ch 0).safe.tripTb ∧ s.anyFb 0 = false ∧ s.tripPresent 0 = false
    ∧ (s.ch 0).safe.isolating = false ∧ s.service (.session 0) = true ∧ s.chState 0 ≠ stLOCKOUT := by decide +kernel
theorem witness_ProtectionCommands_lines :
    let s := (wOpen.putBit (F.SAFE_SISTAT_FAULT_A 0) 2 true).modSafe 0 (fun f => { f with linePass := List.replicate 8 50 })
    s.getBit (F.SAFE_SISTAT_FAULT_A 0) (2 : Fin 4).val = true ∧ s.chState 0 = stISOLATED ∧ 50 ≤ nth (s.ch 0).safe.linePass (lineIx 2 false)
    ∧ (wOpen.put (F.CH_STATE_STATE 0) 3).chState 0 = stDERATED ∧ (wOpen.put (F.CH_STATE_STATE 0) 1).chState 0 = stPRECHARGE := by decide +kernel

/-! PercolatorTasks -/

/-- A program of one synchronous task (0) and two free tasks (1, 2); task 1 owns output 0 of tile 1. -/
def wInfo : ProgInfo := ⟨[⟨1, 1, 0, 0, 0⟩, ⟨2, 0, 0, 1, 100⟩, ⟨2, 0, 0, 2, 100⟩], [], [⟨1, 0, 1⟩], []⟩

/-- That program in RUN on CH0's running ring of two tiles. -/
def wPerc : State := (((((wMode mRUN).put (F.PERC_STAT_MODE 0) 1).put (F.RING_STAT_STATE 0) 5).put (F.RING_STAT_TILES 0) 2).modPour 0
  (fun p => { p with on := true, deliv := { EpochBuf.empty with valid := true } })).modPerc 0 (fun p => { p with
    info := wInfo, running := [0], starts := [some 0], freeNow := 1 })

/-- The same at +950 µs of epoch 0, 1 ms after the last change between free tasks. -/
def wPercLate : State := { wPerc with clock := { wPerc.clock with plant := 950000, tb := 1000000 } }
theorem witness_PercolatorTasks_tasks : (wPerc.ch 0).perc.info.tasks.length = 3 ∧ wPerc.get (F.PERC_STAT_MODE 0) = 1
    ∧ ((wPerc.ch 0).perc.info.tasks[0]?.map (fun t => (t.cls, t.phase))) = some (1, 0) ∧ (wPerc.ch 0).pour.on = true
    ∧ 0 ∈ (wPerc.ch 0).perc.running ∧ progCls (wPerc.ch 0).perc.info 1 = 2 ∧ progFree (wPerc.ch 0).perc.info = [1, 2]
    ∧ (wPerc.ch 0).perc.freeNow = 1 ∧ wPercLate.percDue 0 0 = true ∧ wPerc.percDue 0 0 = false
    ∧ (wPercLate.ch 0).perc.freeAt + 50000 ≤ wPercLate.tb ∧ (wPerc.ch 0).perc.starts.getD 0 none ≠ some 1 := by decide +kernel
theorem witness_PercolatorTasks_outputs : wPerc.ringRuns 0 = true ∧ wPerc.masters 0 = true ∧ wPerc.mode ≠ mHALT ∧ wPerc.mode ≠ mDECAF
    ∧ 0 < wPerc.tiles 0 ∧ 900000 ≤ wPercLate.winTime.getD 0 ∧ progOwner (wPerc.ch 0).perc.info 1 0 = some 1 ∧ (wPerc.put (F.RING_STAT_STATE 0) 0).ringRuns 0 = false := by
  decide +kernel

/-! PercolatorCommands -/

theorem witness_PercolatorCommands_gates : let g (o : Nat) (v : Word) := (wUnlocked (pgPERC 0)).gate (.session 0) (pgPERC 0) o v
    (g 0x020 1, g 0x020 0, g 0x020 2, g 0x030 7, g 0x034 1, g 0x034 2) = (.ok, .ok, .ok, .ok, .ok, .ok) ∧ g 0x034 4 = .ok
    ∧ wOpen.service (.session 0) = true ∧ wOpen.xchgBusy 0 = false ∧ wOpen.reachable (.session 0) (pgPERC 0) = .ok := by decide +kernel
theorem witness_PercolatorCommands_modes : wPerc.get (F.PERC_STAT_MODE 0) = 1 ∧ wPerc.get (F.PERC_STAT_MODE 0) ≠ 0
    ∧ wPerc.chState 0 = stISOLATED ∧ (wPerc.putB (F.ENABLE (pgPERC 0)) true).enabled (pgPERC 0) = true
    ∧ wOpen.get (F.PERC_STAT_MODE 0) = 0
    ∧ ((((wMode mRUN).putB (F.PERC_STAT_PROG_VALID 0) true).putB (F.ENABLE (pgPERC 0)) true)).percMayRun 0 = true := by decide +kernel
theorem witness_PercolatorCommands_exchange :
    let s := ((wOpen.put (F.PERC_STAT_XCHG 0) 2).modPerc 0 (fun p => { p with staged := some wInfo, flashDue := true, cmdLoad := true })).modPour 0
      (fun p => { p with deliv := { EpochBuf.empty with epoch := 1000 } })
    (s.ch 0).perc.staged = some wInfo ∧ s.get (F.PERC_STAT_XCHG 0) = 2 ∧ 0 < sdiff 48 (s.ch 0).pour.deliv.epoch (s.ch 0).perc.xsince
    ∧ (s.ch 0).perc.running = []
    ∧ 1000 ≤ sdiff 48 ({ s with clock := { s.clock with plant := 1000000000 } } : State).ep (s.ch 0).perc.xsince
    ∧ 100000000 ≤ ({ s with clock := { s.clock with tb := 100000000 } } : State).tb - (s.ch 0).perc.retAt ∧ (s.ch 0).perc.flashDue = true
    ∧ ((wOpen.modSup (fun p => { p with vholdOk := true })).sup.vholdOk = true) ∧ wOpen.mode ≠ mDECAF := by decide +kernel
theorem witness_PercolatorCommands_check : (wOpen.put (F.PERC_STAT_XCHG 0) 1).get (F.PERC_STAT_XCHG 0) = 1
    ∧ (wOpen.put (F.PERC_STAT_XCHG 0) 1).progRefusal 0 wInfo ≠ 0 := by decide +kernel

/-! PlantTimeCommands -/

/-- Both PTP ports on, role 1, a transparent clock, locked, with a pending slew and step, at 500 us of an epoch. -/
def wPtp : State := { (((((wOpen.putB F.PTP_CTRL_EN_A true).putB F.PTP_CTRL_EN_B true).put F.PTP_CTRL_ROLE 1).putB F.PTP_CTRL_TC true).putB
  F.PTP_STAT_LOCKED true) with clock := { wOpen.clock with tb := 3600000000000, plant := 500000, slewBy := some 5, stepBy := some 7 } }
theorem witness_PlantTimeCommands_sync : wPtp.ptpOn false = true ∧ wPtp.ptpOn true = true ∧ wPtp.get (ptpState false) ≠ psMASTER
    ∧ wPtp.get (ptpState false) ≠ psPASSIVE ∧ wPtp.get (ptpState false) ≠ psSLAVE ∧ wPtp.sup.restarting = false ∧ wPtp.locked = true
    ∧ wPtp.clock.syncLimit ≤ wPtp.tb - wPtp.clock.lastSync := by decide +kernel
theorem witness_PlantTimeCommands_clock : wPtp.clock.slewBy = some 5 ∧ (5 : Int).natAbs * 10000 ≤ wPtp.tb - wPtp.clock.slewAt
    ∧ wPtp.clock.stepBy = some 7 ∧ 500000 ≤ wPtp.inEpoch ∧ wPtp.get F.PTP_CTRL_ROLE = 1 ∧ wPtp.flag F.PTP_CTRL_TC = true
    ∧ wPtp.get F.PTP_CTRL_DOMAIN = 0 := by decide +kernel
theorem witness_PlantTimeCommands_write : (wUnlocked pgPTP).gate (.session 0) pgPTP 0x020 0x00008016 = .ok ∧ bitsOf 0x00008016 31 24 ≤ 127
    ∧ bitsOf 0x00008016 7 6 ≤ 1 ∧ bitsOf 0x00008016 5 4 ≤ 1 ∧ bit 0x00008016 3 = false := by decide +kernel

/-! CanTransmission -/

/-- A live CAN controller in an error state and with a transmit counter, whose buffer 0 is PENDING. -/
def wCan (st tec : Nat) : State := let s := (((wOpen.putB (F.ENABLE pgCAN) true).put F.CAN_ERR_STATE st).put F.CAN_ERR_TEC tec).setReg R.CAN_TXSTAT 1
  { s with can := { s.can with onBus := true } }
theorem witness_CanTransmission_request : (wOpen.restartUnlock (.session 0) pgCAN 0x030).gate (.session 0) pgCAN 0x030 3 = .ok
    ∧ (bufs 3).any wOpen.txReserved = false ∧ (bufs 3).any wOpen.txBad = false
    ∧ (wOpen.restartUnlock (.session 0) pgCAN 0x030).gate (.session 0) pgCAN 0x030 0x30 = .ok := by decide +kernel
theorem witness_CanTransmission_send : (wCan 0 0).canLive = true ∧ (wCan 0 0).flag F.CAN_CTRL_LISTEN = false ∧ (wCan 0 0).can.active = none
    ∧ (wCan 0 0).get F.CAN_ERR_TEC ≤ 255 ∧ (wCan 0 0).nextTx = some 0
    ∧ ((wCan 0 0).modCan (fun c => { c with active := some 0 })).can.active = some 0 := by decide +kernel
theorem witness_CanTransmission_errors : (wCan 1 256).get F.CAN_ERR_STATE < 2 ∧ 255 < (wCan 1 256).get F.CAN_ERR_TEC
    ∧ (wCan 2 256).gate (.session 0) pgCAN 0x024 1 = .ok ∧ (wCan 2 256).get F.CAN_ERR_STATE = 2 ∧ (wCan 3 0).get F.CAN_ERR_STATE = 3
    ∧ (wCan 0 0).enabled pgCAN = true := by decide +kernel
theorem witness_CanTransmission_status : let s := ({ wCan 0 0 with clock := { wOpen.clock with tb := 1000000000 } } : State).putB F.CAN_CTRL_STATUS_EN true
    s.flag F.CAN_CTRL_STATUS_EN = true ∧ 1000000000 ≤ s.tb - s.can.lastAt ∧ s.txState 2 ≠ 2
    ∧ (s.setReg R.CAN_TXSTAT 0x200).txState 2 = 2 := by decide +kernel

/-! CanReception -/

/-- A frame of one byte, and the live controller with a FIFO, a lock and a time. -/
def wFrame : CanFrame := ⟨false, false, false, false, false, 0x123, 1, [0x42]⟩
def wRx (l : List (CanFrame × Nat × Bool)) (k : Option (Src × Nat)) : State :=
  { wCan 0 0 with can := { (wCan 0 0).can with rx := l, lock := k }, clock := { wOpen.clock with tb := 100000000 } }
theorem witness_CanReception_frame : (wRx [] none).canLive = true ∧ (wRx [] none).recDown.can.rx.length < 64
    ∧ 64 ≤ (wRx (List.replicate 64 (wFrame, 0, false)) none).recDown.can.rx.length := by decide +kernel
theorem witness_CanReception_window : (wRx [(wFrame, 0, false)] none).reachable (.session 0) pgCAN = .ok
    ∧ (wRx [(wFrame, 0, false)] none).can.lock = none
    ∧ (wRx [(wFrame, 0, false)] (some (.session 0, 0))).can.lock = some (.session 0, 0)
    ∧ 100000000 ≤ (wRx [(wFrame, 0, false)] (some (.session 0, 0))).tb - 0 := by decide +kernel

/-! TwinMessages -/

/-- CH2 a twin channel, owned, on a module whose link is up, three heartbeats missed, at epoch 50. -/
def wTwin : State := (({ (((wMode mRUN).putB (F.RING_CTRL_TOPO 2) true).putB F.TWIN_STAT_LINK true).put F.TWIN_STAT_OWN 4 with
  clock := { wOpen.clock with tb := 3600000000000, plant := 50000000 } } : State).modPair (fun p => { p with everHb := true, missed := 3 })).modTwin 2
  (fun w => { w with claimIn := true })
/-- One segment of a one-segment record, and one of two. -/
def wSeg (total : Nat) : MirrorSeg := ⟨true, 2, 0, total, [], [], 0, 0, 0, 0, 0, [], [], []⟩
theorem witness_TwinMessages_link : wTwin.twinConf = true ∧ ¬ (wTwin.mode = mHALT ∧ wTwin.sup.haltCause = 4) ∧ wTwin.twin.everHb = true
    ∧ 1000000 ≤ wTwin.tb - max wTwin.twin.lastHb wTwin.twin.missAt ∧ wTwin.flag F.TWIN_STAT_LINK = true ∧ 3 ≤ wTwin.twin.missed
    ∧ wTwin.partnerClaims = true := by decide +kernel
theorem witness_TwinMessages_channel : wTwin.twinCh 2 = true ∧ wTwin.owns 2 = true ∧ wTwin.ep % 100 = 50
    ∧ ((wTwin.modTwin 2 (fun w => { w with standby := true })).ch 2).twin.standby = true ∧ (wSeg 1).ok = true
    ∧ ((wTwin.modTwin 2 (fun w => { w with segs := [wSeg 2] })).ch 2).twin.segs = [wSeg 2]
    ∧ 100000000 ≤ wTwin.tb - ((wTwin.modTwin 2 (fun w => { w with segs := [wSeg 2] })).ch 2).twin.segAt := by decide +kernel

/-! TwinOwnership -/

theorem witness_TwinOwnership_owner : wTwin.twinCh 2 = true ∧ (wTwin.ch 2).twin.claimIn = true ∧ wTwin.carries = true
    ∧ ((wTwin.modTwin 2 (fun w => { w with claimIn := false })).ch 2).twin.claimIn = false
    ∧ ((wTwin.modTwin 2 (fun w => { w with claimIn := false, claimOut := true, held := true })).ch 2).twin.held = true := by decide +kernel
theorem witness_TwinOwnership_claim : let s := wTwin.modTwin 2 (fun w => { w with claimIn := false, toClaim := true })
    s.chState 2 ≠ stLOCKOUT ∧ (s.ch 2).twin.toClaim = true ∧ (s.ch 2).twin.claimIn = false ∧ (s.ch 2).twin.claimOut = false
    ∧ 100000 ≤ s.tb - (s.ch 2).twin.claimInAt ∧ (s.ch 2).twin.taking = false ∧ s.ringRuns 2 = false
    ∧ 500000 ≤ s.tb - (s.ch 2).twin.claimAt := by decide +kernel
theorem witness_TwinOwnership_lost : let s := ((((wTwin.put F.TWIN_STAT_OWN 0).put F.TWIN_STAT_PMODE mRUN).modTwin 2 (fun w => { w with claimIn := false, pOwned := true })).modPair
      (fun p => { p with missed := 0 })).putBit F.TWIN_STAT_LOST 2 true
    s.claimGone 2 = true ∧ s.hbGone = false ∧ (s.partnerDown && s.flag F.TWIN_STAT_LINK) = false ∧ s.getBit F.TWIN_STAT_LOST 2 = true
    ∧ s.owns 2 = false ∧ (s.ch 2).twin.claimOut = false ∧ (s.ch 2).twin.pOwned = true ∧ s.twinCh 2 = true ∧ s.carries = true := by decide +kernel
theorem witness_TwinOwnership_down : let s := ((wTwin.put F.TWIN_STAT_OWN 0).put F.TWIN_STAT_PMODE 5).putBit F.TWIN_STAT_LOST 2 true
    (s.partnerDown && s.flag F.TWIN_STAT_LINK) = true ∧ s.hbGone = false ∧ s.owns 2 = false ∧ (s.ch 2).twin.claimOut = false := by decide +kernel
theorem witness_TwinOwnership_bridge : let s := { (((wTwin.putB (F.CONT_STAT_TRIP_ON 2) true).putB (F.CONT_STAT_HOLD_POS 2) true).modPair
      (fun p => { p with lastHb := 3600000000000 })) with clock := { wTwin.clock with plant := 0 } }
    s.flag (F.CONT_STAT_TRIP_ON 2) = true ∧ s.flag (F.CONT_STAT_HOLD_POS 2) = true ∧ s.testWindow 2 = false ∧ (s.ch 2).twin.pTripAt = none
    ∧ s.tb - s.twin.lastHb ≤ 3100000 := by decide +kernel
theorem witness_TwinOwnership_ready : let s := wTwin.modTwin 2 (fun w => { w with standby := true, full := true, sniffGood := 1000 })
    allCh.filter (fun n => s.twinCh n && (s.ch n).twin.standby) = [2] ∧ (s.ch 2).twin.full = true ∧ 1000 ≤ (s.ch 2).twin.sniffGood := by
  decide +kernel
theorem witness_TwinOwnership_handover : let s := (wTwin.putB F.TWIN_STAT_READY true)
    (s.restartUnlock (.session 0) pgTWIN 0x030).gate (.session 0) pgTWIN 0x030 4 = .ok ∧ s.owns 2 = true ∧ s.chState 2 = stISOLATED
    ∧ s.flag F.TWIN_STAT_READY = true := by decide +kernel

/-! UpdateCommands -/

/-- An update state on a module with an unlocked UPD page. -/
def wUpd (k : Nat) : State := (wUnlocked pgUPD).put F.UPD_STAT_STATE k
theorem witness_UpdateCommands_stage : ((wUpd 0).restartUnlock (.session 0) pgUPD 0x3FC).gate (.session 0) pgUPD 0x3FC 5 = .ok
    ∧ (wUpd 0).service (.session 0) = true ∧ (wUpd 0).get F.UPD_STAT_STATE = 0 := by decide +kernel
theorem witness_UpdateCommands_verify : ((wUpd 1).restartUnlock (.session 0) pgUPD 0x024).gate (.session 0) pgUPD 0x024 1 = .ok
    ∧ (wUpd 1).get F.UPD_STAT_STATE = 1 ∧ (wUpd 2).get F.UPD_STAT_STATE = 2 := by decide +kernel
theorem witness_UpdateCommands_arm : let s := ((wUpd 3).setReg R.UPD_ACT_TIME_LO 5).restartUnlock (.session 0) pgUPD 0x024
    s.gate (.session 0) pgUPD 0x024 2 = .ok ∧ s.unlocked (.session 0) pgUPD = true ∧ s.get F.UPD_STAT_STATE = 3
    ∧ sdiff 48 s.plantS s.actTime < 0 := by decide +kernel
theorem witness_UpdateCommands_cancel : let s := ((wUpd 4).modUpd (fun u => { u with actAt := some 5 })).restartUnlock (.session 0) pgUPD 0x024
    s.gate (.session 0) pgUPD 0x024 4 = .ok ∧ s.get F.UPD_STAT_STATE = 4 ∧ s.actDue = false := by decide +kernel
theorem witness_UpdateCommands_trial : let s := (wUpd 5).restartUnlock (.session 0) pgUPD 0x024
    s.gate (.session 0) pgUPD 0x024 8 = .ok ∧ s.get F.UPD_STAT_STATE = 5 ∧ s.mayConfirm = true
    ∧ (s.restartUnlock .unit pgUPD 0x024).gate .unit pgUPD 0x024 16 = .ok ∧ 1000 * s.upd.trialLen * 1000000 ≤ s.tb - s.upd.trialAt := by
  decide +kernel
theorem witness_UpdateCommands_due : let s := (wUpd 4).modUpd (fun u => { u with actAt := some 0 })
    s.actDue = true ∧ s.actHeld = false ∧ s.carries = true ∧ s.sup.holdupAt = none
    ∧ (s.modSup (fun p => { p with restarting := true })).sup.restarting = true := by decide +kernel

/-! SecretsAndTestAccess -/

theorem witness_SecretsAndTestAccess_gates : ((wUnlocked pgSEC).restartUnlock (.session 0) pgSEC 0x024).gate (.session 0) pgSEC 0x024 1 = .ok
    ∧ ((wUnlocked pgSEC).restartUnlock (.session 0) pgSEC 0x024).gate (.session 0) pgSEC 0x024 2 = .ok
    ∧ ((wUnlocked pgTEST).restartUnlock (.session 0) pgTEST 0x020).gate (.session 0) pgTEST 0x020 1 = .ok
    ∧ (wUnlocked pgTEST).sup.holdupAt = none := by decide +kernel
theorem witness_SecretsAndTestAccess_key : let s := (wOpen.put F.SEC_STAT_PROV 2).putB F.TEST_STAT_COVER_OPEN false
    s.get F.SEC_STAT_PROV = 2 ∧ s.flag F.TEST_STAT_TAP_EN = false ∧ s.flag F.TEST_STAT_COVER_OPEN = false := by decide +kernel
theorem witness_SecretsAndTestAccess_tap : let s := wOpen.putB F.TEST_STAT_TAP_EN true
    s.flag F.TEST_STAT_TAP_EN = true ∧ s.restrictOk = false ∧ ((wMode mHALT).putB F.TEST_STAT_TAP_EN true).restrictOk = true := by
  decide +kernel

/-! FifoUnderrunRepeats -/

theorem witness_FifoUnderrunRepeats : wOpen.reachable (.session 0) (pgFIFO 7) = .ok ∧ wOpen.rptr 7 = wOpen.wptr 7
    ∧ (wOpen.put (F.FIFO_PTR_WPTR 7) 5).reachable (.session 0) (pgFIFO 7) = .ok
    ∧ (wOpen.put (F.FIFO_PTR_WPTR 7) 5).rptr 7 ≠ (wOpen.put (F.FIFO_PTR_WPTR 7) 5).wptr 7 := by decide +kernel

/-! LatchedCounterReads -/

theorem witness_LatchedCounterReads : wOpen.pmcReadable (.session 0) (pgPMC 3) = .ok ∧ wOpen.reachable (.session 0) (pgPMC 3) = .ok
    ∧ wOpen.pmcReadable (.session 0) pgPMCS = .ok ∧ wOpen.reachable (.session 0) pgPMCS = .ok := by decide +kernel

/-! HoldAbandoned -/



/-! TripEffects -/

/-- CH3 in a channel state, every safety input enabled. -/
def wDemand (st : Nat) : State := ((wMode mRUN).put (F.SAFE_SICFG_EN 3) 15).put (F.CH_STATE_STATE 3) st
theorem witness_TripEffects : (wDemand stLOCKOUT).chState 3 = stLOCKOUT ∧ (wDemand stTRIPPED).chState 3 = stTRIPPED
    ∧ (wDemand stCONNECTED).chState 3 = stCONNECTED ∧ (wDemand stCONNECTED).getBit (F.SAFE_SICFG_EN 3) 3 = true
    ∧ (wDemand stTRIPPED).getBit (F.SAFE_SICFG_EN 3) 0 = true ∧ (wDemand stLOCKOUT).getBit (F.SAFE_SICFG_EN 3) 0 = true := by decide +kernel

/-! InterruptEdges -/

theorem witness_InterruptEdges : (pgSAFE 3).page ≠ .evt ∧
    (bit (wOpen.reg (R.IRQ_EN (pgSAFE 3))) 1 && !bit (wOpen.reg (R.IRQ_PEND (pgSAFE 3))) 1) = true
    ∧ (bit (wOpen.reg (R.IRQ_EN (pgSAFE 3))) 31 && !bit (wOpen.reg (R.IRQ_PEND (pgSAFE 3))) 31) = false := by decide +kernel

/-! ChannelEventsStayLocal -/



/-! SharedCommandsLeaveChannels -/

end Sys2Proof.Tests
end

section
/-! PROOFS. The gate of a session's write, condition by condition (R9, R48, R84, R329, R392). -/

namespace Sys2Proof.Machine
open Sys2Proof

/-- A session reaches every page while it is open, the supervisor runs, the mode is not DECAF and the module is
provisioned (R48, R375). -/
theorem reachable_session_ok {s : State} {i : Nat} (pg : PageRef) (hopen : s.session i ≠ none)
    (hsup : s.sup.restarting = false) (hdecaf : s.mode ≠ mDECAF) (hprov : s.get F.SEC_STAT_PROV = 1) :
    s.reachable (.session i) pg = .ok := by
  simp [State.reachable, hopen, hsup, hdecaf, hprov]

/-- Outside HALT the mode asks nothing of a session but that it reaches the page (R48). -/
theorem modeGate_session_ok {s : State} {i : Nat} {pg : PageRef} (off : Nat)
    (hreach : s.reachable (.session i) pg = .ok) (hhalt : s.mode ≠ mHALT) :
    s.modeGate (.session i) pg off = .ok := by
  simp [State.modeGate, hreach, userCode, hhalt]

/-- RW-I fields refuse nothing off the channel pages, in ISOLATED, or when they keep their values (R9, R392). -/
theorem rwiRefuses_eq_false {s : State} {pg : PageRef} {off : Nat} {d : RegD} {v : Word}
    (h : pg.page.isChan = true → s.chState pg.ch = stISOLATED
      ∨ s.presentWord pg off &&& maskOf d (fun a => a == .rwi) = v &&& maskOf d (fun a => a == .rwi)) :
    s.rwiRefuses pg off d v = false := by
  unfold State.rwiRefuses
  cases hc : pg.page.isChan with
  | false => rfl
  | true =>
    rcases h hc with hiso | hkeep
    · simp [hiso]
    · simp [hkeep]

/-- Settles O12: the mode lets the session through, and each later check of the gate is answered by one hypothesis. -/
theorem gateOpens : Obligations.GateOpens := by
  unfold Obligations.GateOpens
  intro s i pg off k d v hopen hsup hdecaf hhalt hprov hfind hwr hpriv hlock hstandby hrwi
  have hmode := modeGate_session_ok off (reachable_session_ok pg hopen hsup hdecaf hprov) hhalt
  have hpriv' : ¬ (privNeeded pg off v = true ∧ (!s.service (.session i)) = true) := by
    rintro ⟨hn, hs⟩; simp [hpriv hn] at hs
  have hlock' : ¬ (d.prot = true ∧ off ≠ 0x01C ∧ (!s.unlocked (.session i) pg) = true) := by
    rintro ⟨hp, ho, hu⟩; simp [hlock hp ho] at hu
  simp only [State.gate, hmode, hfind]
  rw [if_neg hwr, if_neg hpriv', if_neg hlock', if_neg (by simp [hstandby]), if_neg (by simp [rwiRefuses_eq_false hrwi])]

end Sys2Proof.Machine
end

section
/-! PROOFS. A write of one word by address (R69, R82, R392): what it answers when the word is refused and when it opens
a round of its own. -/

namespace Sys2Proof.Machine
open Sys2Proof

/-! ## Entering a round -/

/-- The beginning of a request touches the round's memory only. -/
theorem enter_eq (s : State) (src : Src) (j : Bool) : ∃ l, s.enter src j = { s with joined := l } := by
  unfold State.enter
  split
  · exact ⟨s.joined, rfl⟩
  · exact ⟨[], rfl⟩

/-- A refused write leaves all but the round and the sessions' unlock sequences. -/
theorem restartUnlock_enter_eq (s : State) (src : Src) (j : Bool) (pg : PageRef) (off : Nat) :
    ∃ l l', (s.enter src j).restartUnlock src pg off = { s with joined := l, sessions := l' } := by
  obtain ⟨l, hl⟩ := enter_eq s src j
  obtain ⟨l', hl'⟩ := restartUnlock_eq { s with joined := l } src pg off
  exact ⟨l, l', by rw [hl, hl']⟩

/-- The gate does not look at the arbitration round. -/
theorem gate_joined (s : State) (l : List (Nat × Nat)) (src : Src) (pg : PageRef) (off : Nat) (v : Word) :
    State.gate { s with joined := l } src pg off v = s.gate src pg off v := rfl

theorem restartUnlock_joined (s : State) (l : List (Nat × Nat)) (src : Src) (pg : PageRef) (off : Nat) :
    State.restartUnlock { s with joined := l } src pg off = { s.restartUnlock src pg off with joined := l } := by
  unfold State.restartUnlock
  split
  · split <;> rfl
  · rfl

theorem gate_restartUnlock_enter (s : State) (src : Src) (j : Bool) (pg : PageRef) (off : Nat) (v : Word) :
    ((s.enter src j).restartUnlock src pg off).gate src pg off v = (s.restartUnlock src pg off).gate src pg off v := by
  obtain ⟨l, hl⟩ := enter_eq s src j
  rw [hl, restartUnlock_joined, gate_joined]

/-! ## One word at an address -/

theorem writeAddr_misaligned {a : Nat} (h : a % 4 ≠ 0) (s : State) (src : Src) (v : Word) (j : Bool) :
    s.writeAddr src a v j = (.align, s) := by
  simp [State.writeAddr, h, refuse]

theorem writeAddr_unmapped {a : Nat} (h : a % 4 = 0) (hloc : locate a = .unmapped) (s : State) (src : Src) (v : Word)
    (j : Bool) : s.writeAddr src a v j = (.noaddr, s) := by
  simp [State.writeAddr, h, hloc, refuse]

theorem writeAddr_page {a off : Nat} {pg : PageRef} (h : a % 4 = 0) (hloc : locate a = .page pg off) (s : State) (src : Src)
    (v : Word) (j : Bool) : s.writeAddr src a v j = s.writeReg src pg off v j := by
  simp [State.writeAddr, h, hloc]

/-- A refused word leaves the round as it was, whatever was written before it. -/
theorem roundWrite_refused {s t : State} {src : Src} {a : Nat} {v : Word} {st : Status}
    (h : ∀ j, s.writeAddr src a v j = (st, t)) (hst : st ≠ .ok) (prev : List (Nat × Nat)) :
    s.roundWrite src prev a v = ((st, t), false) := by
  unfold State.roundWrite
  simp only [h]
  split
  · exact absurd rfl hst
  · exact absurd rfl hst
  · rfl

/-- The first accepted word of a round is remembered with its rank (R82). -/
theorem roundWrite_first {s t : State} {src : Src} {a : Nat} {v : Word} (h : s.writeAddr src a v false = (.ok, t)) :
    s.roundWrite src [] a v = ((.ok, { t with joined := (a, s.rankOf src) :: t.joined }), false) := by
  simp only [State.roundWrite, List.find?_nil, Option.isSome_none, h]
  cases locate a <;> rfl

/-- The word that a WRITE or a WRITE_MASK of one pair puts to the register (R69). -/
theorem writeWords_one (s : State) (src : Src) (prev : List (Nat × Nat)) (a : Nat) (m v : Word) :
    let q := s.roundWrite src prev a (if m = 0xFFFFFFFF then v else s.maskedWord src a (m, v))
    s.writeWords src prev a [(m, v)] =
      (if q.1.1 = .ok then ⟨.ok, 1, q.2, 0, []⟩ else ⟨q.1.1, 0, false, 0, []⟩, q.1.2) := by
  simp only [State.writeWords, List.foldl_cons, List.foldl_nil, Bool.false_or, if_true]

theorem writeOp_not_bcast {a : Nat} (h : ∀ off, locate a ≠ .bcast off) (s : State) (src : Src) (ps : List (Word × Word))
    (j : Bool) : s.writeOp src a ps j = (s.enter src j).writeWords src (s.enter src j).joined a ps := by
  unfold State.writeOp
  dsimp only
  split
  · rename_i off hb; exact absurd hb (h off)
  · rfl

/-- A register write that its address or its gate refuses answers the status, and leaves what the refusal leaves. -/
theorem registerWrite_refused {s t : State} {src : Src} {a : Nat} {v : Word} {st : Status} {j : Bool}
    (hloc : ∀ off, locate a ≠ .bcast off) (h : ∀ k, (s.enter src j).writeAddr src a v k = (st, t)) (hst : st ≠ .ok) :
    exec (.registerWrite src a v j) s = .next (t.refusedWith st) := by
  have hw : s.writeOp src a [(0xFFFFFFFF, v)] j = (⟨st, 0, false, 0, []⟩, t) := by
    rw [writeOp_not_bcast hloc, writeWords_one]
    simp only [if_true, roundWrite_refused h hst, hst, if_false]
  change answerOp (s.writeOp src a [(0xFFFFFFFF, v)] j) = _
  rw [hw]
  rfl

/-- A broadcast address is 0x20_0000 and its offset (Table 4.4). -/
theorem locate_bcast {a off : Nat} (h : locate a = .bcast off) : a = 0x200000 + off := by
  unfold locate at h
  dsimp only at h
  split_ifs at h
  have := Loc.bcast.inj h
  omega

/-- A misaligned broadcast address is refused before any channel is reached. -/
theorem registerWrite_bcast_misaligned {s : State} {src : Src} {a off : Nat} (h : a % 4 ≠ 0)
    (hloc : locate a = .bcast off) (v : Word) (j : Bool) :
    exec (.registerWrite src a v j) s = .next ((s.enter src j).refusedWith .align) := by
  have hoff : off % 4 ≠ 0 := by have := locate_bcast hloc; omega
  change answerOp (s.writeOp src a [(0xFFFFFFFF, v)] j) = _
  simp [State.writeOp, hloc, State.broadcast, hoff, answerOp, State.refusedWith]

/-- Settles O13: the refusals of `writeAddr` by cause; a gate's refusal leaves all but a begun unlock sequence. -/
theorem refusedWriteChangesNothing : Obligations.RefusedWriteChangesNothing := by
  unfold Obligations.RefusedWriteChangesNothing
  intro s src a off pg v j s0
  refine ⟨fun ha => ?_, fun ha hloc => ?_, fun ha hloc hgate => ?_⟩
  · by_cases hb : ∃ o, locate a = .bcast o
    · obtain ⟨o, ho⟩ := hb
      exact registerWrite_bcast_misaligned ha ho v j
    · exact registerWrite_refused (fun o ho => hb ⟨o, ho⟩) (writeAddr_misaligned ha s0 src v) (by decide)
  · exact registerWrite_refused (by simp [hloc]) (writeAddr_unmapped ha hloc s0 src v) (by decide)
  · have hgate0 := gate_restartUnlock_enter s src j pg off v
    have hw : ∀ k, s0.writeAddr src a v k =
        ((s.restartUnlock src pg off).gate src pg off v, s0.restartUnlock src pg off) := fun k => by
      rw [writeAddr_page ha hloc, State.writeReg, gated_refused (hgate0 ▸ hgate), hgate0]
    refine ⟨_, registerWrite_refused (by simp [hloc]) hw hgate, rfl, ?_⟩
    obtain ⟨l, l', hl⟩ := restartUnlock_enter_eq s src j pg off
    simp only [State.refusedWith, s0, hl, and_self]

/-! ## Registers that only keep their value -/

/-- A write of a block register that the gate lets through has the register's own meaning. -/
theorem writeReg_block {s : State} {src : Src} {pg : PageRef} {off k : Nat} {d : RegD} {v : Word}
    (hgate : (s.restartUnlock src pg off).gate src pg off v = .ok) (hfind : findReg pg.page off = some (d, k))
    (hoff : 0x20 ≤ off) (j : Bool) :
    s.writeReg src pg off v j = (s.restartUnlock src pg off).writeBlock src pg d k v j := by
  rw [State.writeReg, gated_ok hgate]
  simp only [hfind, if_neg (Nat.not_lt.mpr hoff)]

/-- On HOST, THERM and POUR a write in range leaves what the access types keep, and nothing follows from it (R9). -/
theorem writeBlock_keeping_page {s : State} {src : Src} {pg : PageRef} {d : RegD} {k : Nat} {v : Word}
    (hpage : pg.page ∈ [Page.host, .therm, .pour]) (hrange : s.rangeOk pg d.off k v = true) (j : Bool) :
    s.writeBlock src pg d k v j = (.ok, s.setReg (hdr pg (d.off + k * d.stride))
      (writeWord d (s.reg (hdr pg (d.off + k * d.stride))) v)) := by
  have hplain : s.writeBlock src pg d k v j = s.plainWrite pg d k v := by
    simp only [List.mem_cons, List.not_mem_nil, or_false] at hpage
    rcases hpage with h | h | h <;> simp only [State.writeBlock, h]
  have hafter : ∀ t : State, t.afterWrite pg d.off = t := by
    simp only [List.mem_cons, List.not_mem_nil, or_false] at hpage
    rcases hpage with h | h | h <;> simp [State.afterWrite, h]
  simp only [hplain, State.plainWrite, hrange, hafter, Bool.not_true, Bool.false_eq_true, if_false]

/-- The word that a masked write gives a register: the value under the mask, the present RW bits outside it (R69). -/
theorem maskedWord_reg {a off k : Nat} {pg : PageRef} {d : RegD} (hloc : locate a = .page pg off)
    (hfind : findReg pg.page off = some (d, k)) (s : State) (src : Src) (m v : Word) :
    s.maskedWord src a (m, v) =
      ((s.readReg src pg off).2.2 &&& maskOf d (fun y => y == .rw || y == .rwi) &&& ~~~m) ||| (v &&& m) := by
  simp only [State.maskedWord, hloc, hfind]

/-- Settles O11: all three commands put the same word to the register, as the first word of a round. -/
theorem plainWrites : Obligations.PlainWrites := by
  unfold Obligations.PlainWrites
  intro s src a off k pg d x ha hloc hfind hoff hpage s0 u reg hgate hrange t
  have hw : s0.writeAddr src a x false = (.ok, u.setReg reg (writeWord d (u.reg reg) x)) := by
    rw [writeAddr_page ha hloc, writeReg_block hgate hfind hoff, writeBlock_keeping_page hpage hrange]
  have hjoined : (u.setReg reg (writeWord d (u.reg reg) x)).joined = [] := by
    obtain ⟨l, hl⟩ := restartUnlock_eq s0 src pg off
    change (s0.restartUnlock src pg off).joined = []
    rw [hl]; rfl
  have hop : ∀ m v : Word, (if m = 0xFFFFFFFF then v else s0.maskedWord src a (m, v)) = x →
      answerOp (s.writeOp src a [(m, v)] false) = .next t := fun m v hx => by
    rw [writeOp_not_bcast (by simp [hloc]), writeWords_one]
    rw [hx, show (s.enter src false).joined = [] from rfl, roundWrite_first hw, hjoined]
    rfl
  refine ⟨hop 0xFFFFFFFF x (if_pos rfl), hop 0xFFFFFFFF x (if_pos rfl), fun m v hx => hop m v ?_⟩
  split
  · next hm =>
    have hm' : m = BitVec.allOnes 32 := hm
    rw [hx, hm', BitVec.not_allOnes, BitVec.and_zero, BitVec.zero_or, BitVec.and_allOnes]
  · rw [maskedWord_reg hloc hfind, hx]

end Sys2Proof.Machine
end

section
/-! PROOFS. Frames of the events of one channel (R1): overcurrent, demand, contactors, degradation and the FIFO. -/

namespace Sys2Proof.Machine
open Sys2Proof

/-- The outcome is a next state that concerns channel n only. -/
def GoesOnChannel (s : State) (n : Ch) (o : Host.Outcome State Fault Refusal) : Prop := ∃ t, o = .next t ∧ onlyChannel s t n

theorem goesOnChannel_happen {s t : State} {n : Ch} (h : onlyChannel s t n) : GoesOnChannel s n (happen t) := ⟨t, rfl, h⟩

/-- The result of an operation is no part of a channel. -/
theorem goesOnChannel_answer {s : State} {n : Ch} {r : Res} (h : onlyChannel s r.2 n) : GoesOnChannel s n (answer r) :=
  ⟨_, rfl, h.trans ⟨fun _ _ => rfl, rfl, fun _ _ _ => rfl⟩⟩

theorem only_tripC (s : State) (n : Ch) (cause : Nat) : onlyChannel s (s.tripC n cause) n := only_trip _ _ _ _ _

theorem onlyChannel.foldl {α : Type} {n : Ch} {f : State → α → State} (h : ∀ t x, onlyChannel t (f t x) n) (s : State)
    (l : List α) : onlyChannel s (l.foldl f s) n := by
  induction l generalizing s with
  | nil => exact .refl _ _
  | cons x l ih => exact (h s x).trans (ih _)

/-- A field of a register on the channel's pages, by the register's offset from the channel's base. -/
theorem only_put_chan (s : State) {n : Ch} {f : RF} {k : Nat} (v : Nat) (h : f.addr = chBase n + k)
    (hk : k < 0x20000 := by decide) : onlyChannel s (s.put f v) n := only_put _ _ (.inl (onChannel_of k h hk))

theorem only_putB_chan (s : State) {n : Ch} {f : RF} {k : Nat} (b : Bool) (h : f.addr = chBase n + k)
    (hk : k < 0x20000 := by decide) : onlyChannel s (s.putB f b) n := only_putB _ _ (.inl (onChannel_of k h hk))

theorem only_putBit_chan (s : State) {n : Ch} {f : RF} {k : Nat} (i : Nat) (b : Bool) (h : f.addr = chBase n + k)
    (hk : k < 0x20000 := by decide) : onlyChannel s (s.putBit f i b) n := only_putBit _ _ _ (.inl (onChannel_of k h hk))

/-! ## Trips and contactors (R195, R251, R257, R258, R262, R264) -/

theorem goesOnChannel_overcurrentDetect (s : State) (n : Ch) (aux : Bool) (mA : Int) :
    GoesOnChannel s n (execOvercurrentDetect n aux mA s) :=
  goesOnChannel_happen <| .ite
    (((only_putB_chan _ _ rfl).trans (only_pwmOff _ _)).trans (only_modSafe _ _ _)) (.refl _ _)

theorem goesOnChannel_overcurrent (s : State) (n : Ch) : GoesOnChannel s n (execOvercurrent n s) := by
  refine goesOnChannel_happen ?_
  split
  · exact .ite ((only_trip _ _ _ _ _).trans (only_modSafe _ _ _)) (.refl _ _)
  · exact .refl _ _

theorem only_siShow (s : State) (n : Ch) (x : Nat) : onlyChannel s (s.siShow n x) n := only_putBit_chan _ _ _ rfl

/-- The line of a safety input as SAFE.SISTAT shows it (Table 14.11). -/
theorem only_siLevel (s : State) (n : Ch) (lineB : Bool) (x : Nat) (v : Bool) :
    onlyChannel s (s.putBit (if lineB then F.SAFE_SISTAT_B n else F.SAFE_SISTAT_A n) x v) n := by
  cases lineB <;> exact only_putBit_chan _ _ _ rfl

theorem goesOnChannel_siDemand (s : State) (n : Ch) (k : Fin 4) (b : Bool) : GoesOnChannel s n (execSiDemand n k b s) := by
  refine goesOnChannel_happen (.ite ?_ (.refl _ _))
  refine onlyChannel.trans ?_ (only_trip _ _ _ _ _)
  refine onlyChannel.trans ?_ (only_siShow _ _ _)
  exact (only_modSafe _ _ _).trans (only_siLevel _ _ _ _ _)

theorem only_hold (s : State) (n : Ch) (pos neg pre : Bool) : onlyChannel s (s.hold n pos neg pre) n :=
  ((only_putB_chan _ _ rfl).trans (only_putB_chan _ _ rfl)).trans (only_putB_chan _ _ rfl)

theorem only_holdsOff (s : State) (n : Ch) : onlyChannel s (s.holdsOff n) n :=
  (only_hold _ _ _ _ _).trans (only_modSafe _ _ _)

theorem goesOnChannel_tripOpen (s : State) (n : Ch) : GoesOnChannel s n (execTripOpen n s) := by
  refine goesOnChannel_happen ?_
  split
  · exact .ite (((only_holdsOff _ _).trans (only_putB_chan _ _ rfl)).trans (only_modSafe _ _ _)) (.refl _ _)
  · exact .refl _ _

theorem goesOnChannel_stopTmo (s : State) (n : Ch) : GoesOnChannel s n (execStopTmo n s) := by
  refine goesOnChannel_happen ?_
  split
  · exact .ite (only_tripC _ _ _) (.refl _ _)
  · exact .refl _ _

theorem goesOnChannel_fbClose (s : State) (n : Ch) : GoesOnChannel s n (execFbClose n s) :=
  goesOnChannel_happen (.ite (only_tripC _ _ _) (.refl _ _))

theorem goesOnChannel_preTmo (s : State) (n : Ch) : GoesOnChannel s n (execPreTmo n s) :=
  goesOnChannel_happen (.ite (only_tripC _ _ _) (.refl _ _))

theorem goesOnChannel_testPulseStart (s : State) (n : Ch) (b : Bool) : GoesOnChannel s n (execTestPulseStart n b s) :=
  goesOnChannel_happen (.ite (.refl _ _) (only_modSafe _ _ _))

theorem goesOnChannel_degradeTmax (s : State) (n : Ch) : GoesOnChannel s n (execDegradeTmax n s) := by
  refine goesOnChannel_happen (.ite ?_ (.refl _ _))
  refine onlyChannel.trans ?_ (only_enterState _ _ _ _ (by decide))
  refine onlyChannel.trans ?_ (only_logReg _ _ _ _)
  exact (only_putB_chan _ _ rfl).trans (only_raise _ _ (.inl (on_irq n (pgSAFE n) (by simp))))

/-! ## FIFO (R132, R133, R137 to R141) -/

theorem only_fifoUpset (s : State) (n : Ch) (x : Nat × BitVec 39) : onlyChannel s (s.fifoUpset n x) n := only_modFifo _ _ _

theorem only_fifoCommit (s : State) (n : Ch) : onlyChannel s (s.fifoCommit n) n := by
  have hp := on_irq n (pgFIFO n) (by simp)
  unfold State.fifoCommit
  dsimp only
  refine .ite (.refl _ _) ?_
  refine onlyChannel.trans (only_modPour s n (fun p => { p with committed := true })) ?_
  generalize s.modPour n (fun p => { p with committed := true }) = u
  generalize ((s.ch n).pour.deliv.frame (u.flag (F.FIFO_CTRL_TEMP n)) 0).length = len
  have hmake : onlyChannel u (if u.flag (F.FIFO_CTRL_OVF n) then u.fifoMake n len 32768 else u) n :=
    .thenIf (.refl _ _) (only_fifoMake _ _ _ _)
  refine hmake.trans ?_
  generalize (if u.flag (F.FIFO_CTRL_OVF n) then u.fifoMake n len 32768 else u) = w
  refine .ite ((only_fifoDrop _ _).trans (only_fifoShow _ _)) ?_
  refine onlyChannel.trans ?_ (only_fifoShow _ _)
  refine .thenIf ((only_modFifo _ _ _).trans (only_put_chan _ _ rfl)) ?_
  exact ((only_putB_chan _ _ rfl).trans (only_putB_chan _ _ rfl)).trans (only_raise _ _ (.inl hp))

theorem goesOnChannel_fifoCommit (s : State) (c : FifoCommitIn) : GoesOnChannel s c.ch (execFifoCommit c s) :=
  goesOnChannel_happen ((onlyChannel.foldl (fun _ _ => only_fifoUpset _ _ _) _ _).trans (only_fifoCommit _ _))

/-- A write of FIFO.CMD behind the gate. -/
theorem goesOnChannel_fifoCmd (s : State) (src : Src) (n : Ch) (v : Word) :
    GoesOnChannel s n (answer (s.gated src (pgFIFO n) 0x024 v (fun t => t.doFifoCmd n v))) :=
  goesOnChannel_answer (only_gated _ _ _ _ _ _ _ (fun _ => only_doFifoCmd _ _ _))

/-- Settles O59: each command's own frame. -/
theorem channelEventsStayLocal : Obligations.ChannelEventsStayLocal := by
  unfold Obligations.ChannelEventsStayLocal
  intro s n
  exact ⟨goesOnChannel_overcurrentDetect s n, goesOnChannel_overcurrent s n, goesOnChannel_siDemand s n,
    goesOnChannel_tripOpen s n, goesOnChannel_stopTmo s n, goesOnChannel_fbClose s n, goesOnChannel_preTmo s n,
    goesOnChannel_testPulseStart s n, goesOnChannel_degradeTmax s n, fun l => goesOnChannel_fifoCommit s ⟨n, l⟩,
    fun src => ⟨goesOnChannel_fifoCmd s src n 1, goesOnChannel_fifoCmd s src n 2, goesOnChannel_fifoCmd s src n 4,
      goesOnChannel_fifoCmd s src n 8⟩⟩

end Sys2Proof.Machine
end

section
/-! PROOFS. A request datagram (R28, R65, R68): the session and its identity count as used, then the request is answered
from the stored responses or executed. -/

namespace Sys2Proof.Machine
open Sys2Proof

/-- The session and its kept identity count as used now. -/
def State.usedNow (s : State) (x : Session) : State :=
  (s.modIdent x.ident (fun y => { y with lastUsed := s.tb })).modSession x.sid (fun y => { y with lastReq := s.tb })

/-- An identity found after a change of it was kept before. -/
theorem any_ident_of_find_modIdent {s : State} {i : Ident} {f : IdState → IdState} {y : IdState}
    (h : (s.modIdent i f).idents.find? (fun z => z.ident == i) = some y) : s.idents.any (fun z => z.ident == i) = true := by
  obtain ⟨x, hx, hxy⟩ := List.mem_map.mp (List.mem_of_find?_eq_some h)
  refine List.any_eq_true.mpr ⟨x, hx, ?_⟩
  by_cases hi : x.ident = i
  · exact beq_iff_eq.mpr hi
  · rw [if_neg hi] at hxy
    exact absurd (hxy ▸ beq_iff_eq.mp (List.find?_some (p := fun z : IdState => z.ident == i) h)) hi

/-- Using an identity that is kept displaces none. -/
theorem useIdent_kept {s : State} {i : Ident} (h : s.idents.any (fun z => z.ident == i) = true) :
    s.useIdent i = s.modIdent i (fun y => { y with lastUsed := s.tb }) := if_pos h

/-- The request of a kept identity begins on the state with session and identity used now. -/
theorem usedNow_eq {s : State} {x : Session} {y : IdState}
    (h : (s.usedNow x).idents.find? (fun z => z.ident == x.ident) = some y) :
    (s.useIdent x.ident).modSession x.sid (fun z => { z with lastReq := s.tb }) = s.usedNow x := by
  rw [useIdent_kept (any_ident_of_find_modIdent h)]
  rfl

section
variable {s : State} {x : Session} {b : List Byte} {j : Bool} {y : IdState}
  (hkept : (s.usedNow x).idents.find? (fun z => z.ident == x.ident) = some y)
include hkept

/-- A repeated HSEQ is answered from the stored responses (R28). -/
theorem request_stored {old : List Byte} (hold : y.storedOf (bytesWord ((b.drop 4).take 4)) = some old) :
    s.request_ x b j = (s.usedNow x).emit (.response x.sid old) := by
  simp only [State.request_, usedNow_eq hkept, hkept, hold]

/-- A new HSEQ runs the operations, and the response with the next DSEQ is sent and stored (R28, R30). -/
theorem request_new {l : List WrapOp} (hnone : y.storedOf (bytesWord ((b.drop 4).take 4)) = none)
    (hnew : y.isOld (bytesWord ((b.drop 4).take 4)) = false) (hparse : parseRequest b = some l) :
    let r := (s.usedNow x).runRequest (.session x.sid) (beNat ((b.drop 12).take 2) == 1) j l
    s.request_ x b j = r.2.respond x.sid x.ident (bytesWord ((b.drop 4).take 4)) r.1 true := by
  simp only [State.request_, usedNow_eq hkept, hkept, hnone, hnew, hparse, Bool.false_eq_true, if_false]

end

/-- A datagram on an open session while the host ports are up (R68, R73). -/
theorem execWrapRequest_open {s : State} {sid : Nat} {x : Session} (hopen : s.session sid = some x)
    (hup : s.sup.restarting = false) (b : List Byte) (j : Bool) :
    let size := beNat ((b.drop 2).take 2) + 16
    execWrapRequest sid ⟨b, j⟩ s = .next (if b.length < 16 ∨ b.length ≠ size then
      s.log 0x0241 0xF 1 (BitVec.ofNat 32 b.length) (BitVec.ofNat 32 size) (BitVec.ofNat 32 (portIx x.port))
      else s.request_ x b j) := by
  simp only [execWrapRequest, happen, hopen, hup, Bool.false_eq_true, if_false]

/-- Settles O18: by the size first, then by what the kept identity knows of the HSEQ. -/
theorem wrapRequestAnswered : Obligations.WrapRequestAnswered := by
  unfold Obligations.WrapRequestAnswered
  intro s sid b j x hopen hup size h u
  have hexec : exec (.wrapRequest sid ⟨b, j⟩) s = _ := execWrapRequest_open hopen hup b j
  refine ⟨fun hsize => hexec.trans (by rw [if_pos hsize]), fun y old hlen h16 hkept => ?_⟩
  rw [hexec, if_neg (by omega)]
  exact ⟨fun hold => congrArg _ (request_stored hkept hold),
    fun l hnone hnew hparse => congrArg _ (request_new hkept hnone hnew hparse)⟩

end Sys2Proof.Machine
end

section
/-! PROOFS. Snapshots (R20, R21, R24, R25, R391): request, end, time-out and the releasing read. -/

namespace Sys2Proof.Machine
open Sys2Proof

/-- A source that owns the snapshot holds one. -/
theorem snap_isNone_of_ownsSnap {s : State} {src : Src} (h : s.ownsSnap src = true) : s.snap.isNone = false := by
  cases hs : s.snap with
  | none => simp [State.ownsSnap, hs] at h
  | some _ => rfl

/-- The owner's release of a held snapshot sets nothing but HELD (R24). -/
theorem snapRelease_false {s : State} (h : s.snap.isNone = false) :
    s.snapRelease false = { (s.putB F.SNAP_STAT_HELD false) with snap := none } := by
  simp only [State.snapRelease, h, Bool.false_eq_true, if_false]

/-- Any other release also sets EXPIRED, with its interrupt (R24). -/
theorem snapRelease_true {s : State} (h : s.snap.isNone = false) :
    s.snapRelease true = ({ (s.putB F.SNAP_STAT_HELD false) with snap := none }).setRaise F.SNAP_STAT_EXPIRED pgSNAP 2 := by
  simp only [State.snapRelease, h, Bool.false_eq_true, if_false, if_true]

/-- A snapshot held by nobody else is taken (anew) for the session (R21, R25). -/
theorem doSnapReq_free {s : State} {i : Nat} (h : s.snap = none ∨ s.ownsSnap (.session i) = true) (v : Word) (j : Bool) :
    s.doSnapReq (.session i) v j = (.ok, s.snapFreeze i (allCh.filter (fun n =>
      (if bitsOf v 7 0 = 0 then 0xFF else bitsOf v 7 0).testBit n.val))) := by
  refine if_neg fun hheld => ?_
  rcases h with h | h <;> simp [h] at hheld

/-- A snapshot held by another session refuses with OWNER (R25). -/
theorem doSnapReq_held {s : State} {i : Nat} (hheld : s.snap ≠ none) (hother : s.ownsSnap (.session i) = false) (v : Word) :
    s.doSnapReq (.session i) v false = refuse .owner s :=
  if_pos (by simp [hother, Option.isSome_iff_ne_none.mpr hheld])

theorem doSnapEnd_none {s : State} (h : s.snap = none) (src : Src) : s.doSnapEnd src = (.ok, s) := by
  simp only [State.doSnapEnd, h, Option.isNone_none, if_true]

theorem doSnapEnd_owner {s : State} {src : Src} (h : s.ownsSnap src = true) :
    s.doSnapEnd src = (.ok, { (s.putB F.SNAP_STAT_HELD false) with snap := none }) := by
  have hheld := snap_isNone_of_ownsSnap h
  simp only [State.doSnapEnd, hheld, h, snapRelease_false hheld, Bool.false_eq_true, if_false, if_true]

/-- A read by a source that reaches the page answers the word. -/
theorem readAs_ok {s : State} {src : Src} {pg : PageRef} (h : s.reachable src pg = .ok) (f : State → Status × State × Word) :
    s.readAs src pg f = answerRead (f s) := by
  simp only [State.readAs, h]

/-- A read of a window word: the word, and the release that the owner's read of SNAP.LAST_ADDR brings (R24, R391). -/
theorem readWin_eq (s : State) (src : Src) (n : Ch) (off : Nat) :
    s.readWin src n off = (if s.ownsSnap src ∧ chBase n + off = s.get F.SNAP_LAST_ADDR_ADDR then s.snapRelease false else s,
      s.winWord n off) := by
  simp only [State.readWin, Bool.and_eq_true, beq_iff_eq]
  split <;> rfl

/-- Settles O20: each command by the one check behind its gate. -/
theorem snapshotCommands : Obligations.SnapshotCommands := by
  unfold Obligations.SnapshotCommands
  refine ⟨?_, ?_, ?_, ?_⟩
  · intro s i v j u hgate m
    refine ⟨fun hfree => ?_, fun hheld hother => ?_⟩
    · change answer (s.gated _ _ _ _ _) = _
      rw [gated_ok hgate, doSnapReq_free hfree, answer_ok]
    · change answer (s.gated _ _ _ _ _) = _
      rw [gated_ok hgate, doSnapReq_held hheld hother, answer_refuse _ _ (by decide)]
  · intro s i v u hgate
    refine ⟨fun hnone => ?_, fun howner => ?_⟩
    · change answer (s.gated _ _ _ _ _) = _
      rw [gated_ok hgate, doSnapEnd_none hnone, answer_ok]
    · change answer (s.gated _ _ _ _ _) = _
      rw [gated_ok hgate, doSnapEnd_owner howner, answer_ok]
  · intro s h hheld
    change execSnapTimeout s = _
    simp only [execSnapTimeout, happen, hheld, snapRelease_true (s := s) (by simp [hheld])]
  · intro s src n off hloc hreach
    change execSnapLastRead src s = _
    simp only [execSnapLastRead, hloc, readAs_ok hreach, readWin_eq, answerRead_ok]

end Sys2Proof.Machine
end

section
/-! PROOFS. Sweeps (R113, R122 to R125, R132, R133, R256): sample instant, close, publication, commit, and the trips of
the counts. -/

namespace Sys2Proof.Machine
open Sys2Proof

/-! ## The commit to the FIFO -/

/-- The state in which a commit looks for room: the epoch counts as committed, and DROP_OLD has freed what it may (R133). -/
def State.fifoRoomMade (s : State) (n : Ch) : State :=
  let u := s.modPour n (fun p => { p with committed := true })
  let len := ((s.ch n).pour.deliv.frame (u.flag (F.FIFO_CTRL_TEMP n)) 0).length
  if u.flag (F.FIFO_CTRL_OVF n) then u.fifoMake n len 32768 else u

/-- The frame stored at the write pointer, before the registers show it (R132). -/
def State.fifoStored (s : State) (n : Ch) (b : EpochBuf) (temp : Bool) (len : Nat) : State :=
  (s.modFifo n (fun f => { f with
    mem := fifoStore f.mem (s.wptr n) (b.frame temp (s.ch n).fifo.droppedBefore)
    flips := unflip f.flips (s.wptr n) len, droppedBefore := 0 })).put (F.FIFO_PTR_WPTR n) ((s.wptr n + len) % 65536)

theorem fifoCommit_nothing {s : State} {n : Ch} (h : (s.ch n).pour.deliv.valid = false ∨ (s.ch n).pour.committed = true) :
    s.fifoCommit n = s := if_pos (by simpa using h)

section
variable {s : State} {n : Ch} (hvalid : (s.ch n).pour.deliv.valid = true) (hnew : (s.ch n).pour.committed = false)
include hvalid hnew

/-- Without room the frame counts as dropped (R133). -/
theorem fifoCommit_full (hfull : (s.fifoRoomMade n).fifoFree n
      < ((s.ch n).pour.deliv.frame (s.flag (F.FIFO_CTRL_TEMP n)) 0).length) :
    s.fifoCommit n = ((s.fifoRoomMade n).fifoDrop n).fifoShow n :=
  (if_neg (by simp [hvalid, hnew])).trans (if_pos hfull)

/-- With room the frame is stored; without a valid mark there is none to lose (R132, R138). -/
theorem fifoCommit_room (hroom : ((s.ch n).pour.deliv.frame (s.flag (F.FIFO_CTRL_TEMP n)) 0).length
      ≤ (s.fifoRoomMade n).fifoFree n) (hmark : (s.fifoRoomMade n).flag (F.FIFO_STAT_MARK_VALID n) = false) :
    s.fifoCommit n = ((s.fifoRoomMade n).fifoStored n (s.ch n).pour.deliv (s.flag (F.FIFO_CTRL_TEMP n))
      ((s.ch n).pour.deliv.frame (s.flag (F.FIFO_CTRL_TEMP n)) 0).length).fifoShow n := by
  refine (if_neg (by simp [hvalid, hnew])).trans ((if_neg (Nat.not_lt.mpr hroom)).trans (congrArg (fun t : State => t.fifoShow n) ?_))
  exact if_neg fun hlost => Bool.false_ne_true
    (hmark.symm.trans (Bool.and_eq_true_iff.mp (Bool.and_eq_true_iff.mp hlost).1).1)

end

/-! ## The trips of the counts -/

/-- Outside TRIPPED, or when the cause has newly arisen, a lasting cause trips (R269). -/
theorem tripOnce_new {s : State} {n : Ch} {cause : Nat}
    (h : s.chState n ≠ stTRIPPED ∨ (s.ch n).safe.present.contains cause = false) (path param : Nat) :
    s.tripOnce n cause path param = (s.trip n cause path param).modSafe n (fun f =>
      { f with present := cause :: f.present.filter (· != cause) }) :=
  if_neg fun ⟨ht, hp⟩ => h.elim (· ht) (fun h' => Bool.false_ne_true (h'.symm.trans hp))

/-- In TRIPPED a cause that still lasts changes nothing (R269). -/
theorem tripOnce_lasting {s : State} {n : Ch} {cause : Nat} (ht : s.chState n = stTRIPPED)
    (hp : (s.ch n).safe.present.contains cause = true) (path param : Nat) : s.tripOnce n cause path param = s :=
  if_pos ⟨ht, hp⟩

theorem execStale_due {s : State} {n : Ch} {i : Nat} (h : s.staleDue n = some i) :
    execStale n s = .next (s.tripOnce n 0x04 1 i) := by simp only [execStale, happen, h]

theorem execCellOt_due {s : State} {n : Ch} {m : Nat} (h : s.otDue n = some m) :
    execCellOt n s = .next (s.tripOnce n 0x03 1 m) := by simp only [execCellOt, happen, h]

/-! ## The sweep -/

/-- Settles O30: sample, close, publication and VLIM_MODEL do their work behind one test, which the hypotheses decide; the
commit and the counts by the lemmas above. -/
theorem sweepCommands : Obligations.SweepCommands := by
  unfold Obligations.SweepCommands
  refine ⟨?_, ?_, ?_, ?_, ?_, ?_, ?_, ?_⟩
  · intro s n i u hon hring
    exact congrArg _ (if_pos (Bool.and_eq_true_iff.mpr ⟨hon, hring⟩))
  · intro s n hsampled hopen
    exact congrArg _ (if_neg (by simp [hsampled, hopen]))
  · intro s n hpending
    exact congrArg _ (if_neg (by simp [hpending]))
  · intro s n fl s0
    refine ⟨fun hnothing => congrArg _ (fifoCommit_nothing hnothing), fun hvalid hnew => ⟨fun hfull => ?_, fun hroom => ?_⟩⟩
    · exact congrArg _ (fifoCommit_full hvalid hnew hfull)
    · exact fun hmark => congrArg _ (fifoCommit_room hvalid hnew hroom hmark)
  · intro s n i hcell htherm
    have hexec : exec (.stale n) s = _ := execStale_due (i := i) (by simp only [State.staleDue, hcell, htherm])
    exact ⟨fun hnew => hexec.trans (congrArg _ (tripOnce_new hnew _ _)),
      fun ht hp => hexec.trans (congrArg _ (tripOnce_lasting ht hp _ _))⟩
  · intro s n m hcell htherm hnew
    have hexec : exec (.stale n) s = _ := execStale_due (i := m) (by simp only [State.staleDue, hcell, htherm])
    exact hexec.trans (congrArg _ (tripOnce_new hnew _ _))
  · intro s n m hhot
    have hexec : exec (.cellOt n) s = _ := execCellOt_due hhot
    exact ⟨fun hnew => hexec.trans (congrArg _ (tripOnce_new hnew _ _)),
      fun ht hp => hexec.trans (congrArg _ (tripOnce_lasting ht hp _ _))⟩
  · intro s n henergised hrun
    exact congrArg _ (if_pos ⟨henergised, hrun⟩)

end Sys2Proof.Machine
end

section
/-! PROOFS. Plant time (R14, R304, R306 to R310): Syncs, slew and step, announcements, forwarding and the control. -/

namespace Sys2Proof.Machine
open Sys2Proof

/-- A write of PTP.CTRL within its ranges restarts both ports (Table 17.3). -/
theorem doPtpCtrl_legal {s : State} {v : Word} (hdom : bitsOf v 31 24 ≤ 127) (hprofile : bitsOf v 7 6 ≤ 1)
    (hrole : bitsOf v 5 4 ≤ 1) (htc : bit v 3 = true → bitsOf v 7 6 = 1) :
    s.doPtpCtrl v = (.ok, (s.setReg R.PTP_CTRL (v &&& 0xFFFFFFFE)).ptpRestart) := by
  refine if_neg ?_
  rintro (h | h | h | ⟨hbit, hne⟩)
  exacts [by omega, by omega, by omega, hne (htc hbit)]

/-- A Sync that an enabled port may use, outside a restart (R306, R308). -/
theorem execPtpSync_heard {s : State} {m : SyncMsg} (hon : s.ptpOn m.portB = true) (hmaster : s.get (ptpState m.portB) ≠ psMASTER)
    (hpassive : s.get (ptpState m.portB) ≠ psPASSIVE) (hup : s.sup.restarting = false) :
    execPtpSync m s = .next (if m.logInt < -4 ∨ 1 < m.logInt then
      (if s.get (ptpState m.portB) = psSLAVE then s else s.put (ptpState m.portB) psUNCALIBRATED) else s.ptpUse m) :=
  congrArg _ (if_neg (by simp [hon, hmaster, hpassive, hup]))

/-- A locked clock that loses its lock enters holdover and counts the loss (R309). -/
theorem ptpLose_locked {s : State} (h : s.locked = true) :
    let u := (s.putB F.PTP_STAT_LOCKED false).putB F.PTP_STAT_HOLDOVER true
    s.ptpLose = ((u.modClock (fun c => { c with lossAt := some u.tb, good := 0, bad := 0, firstOff := none
                                                acted := false })).incSat F.PTP_CNT_LOSSES).raise pgPTP 3 :=
  if_neg (by simp [h])

/-- A slew that has had its time (R310). -/
theorem execSlewEnd_due {s : State} {d : Int} (hslew : s.clock.slewBy = some d)
    (hdue : d.natAbs * 10000 ≤ s.tb - s.clock.slewAt) :
    let u := s.modClock (fun c => { c with plant := c.shift d, slewBy := none })
    execSlewEnd s = .next ((u.putB F.PTP_STAT_SLEWING false).ptpLock (u.get F.PTP_STAT_STATE_B == psSLAVE)) := by
  simp only [execSlewEnd, happen, hslew, if_neg (Nat.not_lt.mpr hdue)]

/-- A step in the second half of an epoch (R310, R14). -/
theorem execStep_due {s : State} {d : Int} (hstep : s.clock.stepBy = some d) (hdue : 500000 ≤ s.inEpoch) :
    let u := s.modClock (fun c => { c with plant := c.shift d, stepBy := none })
    execStep s = .next (((u.incSat F.PTP_CNT_STEPS).raise pgPTP 4).epochJump s.ep (nextSample u.clock.plant)) := by
  simp only [execStep, happen, hstep, if_neg (Nat.not_lt.mpr hdue)]

/-- A path delay measured on an enabled port may complete the lock (R309). -/
theorem execPtpPathDelay_on {s : State} {portB : Bool} (hon : s.ptpOn portB = true) (ns : Int) :
    execPtpPathDelay portB ns s = .next ((s.modClock (fun c =>
      if portB then { c with pathB := some ns } else { c with pathA := some ns })).ptpLock portB) :=
  congrArg _ (if_neg (by simp [hon]))

/-- Settles O47: each command by the test in front of its work, which the hypotheses decide. -/
theorem plantTimeCommands : Obligations.PlantTimeCommands := by
  unfold Obligations.PlantTimeCommands
  refine ⟨?_, ?_, fun s d => execSlewEnd_due, fun s d => execStep_due, fun s ns hon => execPtpPathDelay_on hon ns,
    fun s ns hon => execPtpPathDelay_on hon ns, ?_, ?_, ?_, ?_⟩
  · intro s m st hon hmaster hpassive hup
    have hexec : exec (.ptpSync m) s = _ := execPtpSync_heard hon hmaster hpassive hup
    refine ⟨fun hlo hhi => ?_, fun hout hslave => ?_⟩
    · rw [hexec, if_neg (by omega)]
    · rw [hexec, if_pos hout, if_neg hslave]
  · intro s hlocked hdue
    exact congrArg _ ((if_pos ⟨hlocked, hdue⟩).trans (ptpLose_locked hlocked))
  · intro s m hon hdom
    exact congrArg _ (if_neg (by simp [hon, hdom]))
  · intro s hrole
    exact congrArg _ (if_neg (not_not.mpr hrole))
  · intro s m htc hA hB
    exact congrArg _ (if_pos ⟨htc, hA, hB⟩)
  · intro s src v u hgate hdom hprofile hrole htc
    change answer (s.gated _ _ _ _ _) = _
    rw [gated_ok hgate, doPtpCtrl_legal hdom hprofile hrole htc, answer_ok]

end Sys2Proof.Machine
end

section
/-! PROOFS. Connectors and the front panel (R35 to R47): the detect loops, the pads, the keys, the isolate sequence and the
release of LOCKOUT. -/

namespace Sys2Proof.Machine
open Sys2Proof

/-! ## The key indications of PANEL.STAT (Table 2.8) -/

theorem panelAck_ok : F.PANEL_STAT_ACK.ok := ⟨by decide, le_rfl⟩
theorem panelIsolate_ok : F.PANEL_STAT_ISOLATE.ok := ⟨by decide, le_rfl⟩

theorem reg_keys_ne (s : State) (ack iso : Bool) {a : Nat} (h : a ≠ R.PANEL_STAT) : (s.keys ack iso).reg a = s.reg a :=
  (reg_putB_ne _ _ _ _ h).trans (reg_putB_ne _ _ _ _ h)

theorem get_keys_ne (s : State) (ack iso : Bool) {g : RF} (hack : F.PANEL_STAT_ACK.apart g)
    (hiso : F.PANEL_STAT_ISOLATE.apart g) : (s.keys ack iso).get g = s.get g :=
  (get_putB_ne _ _ _ _ panelIsolate_ok hiso).trans (get_putB_ne _ _ _ _ panelAck_ok hack)

/-- A field of another register than PANEL.STAT. -/
theorem get_keys_off (s : State) (ack iso : Bool) {g : RF} (h : g.addr ≠ R.PANEL_STAT) : (s.keys ack iso).get g = s.get g :=
  get_keys_ne s ack iso (.inl h) (.inl h)

theorem flag_keys_isolate (s : State) (ack iso : Bool) : (s.keys ack iso).flag F.PANEL_STAT_ISOLATE = iso :=
  flag_putB_same _ _ _ panelIsolate_ok

theorem flag_keys_ack (s : State) (ack iso : Bool) : (s.keys ack iso).flag F.PANEL_STAT_ACK = ack := by
  have hkept : (s.keys ack iso).get F.PANEL_STAT_ACK = (s.putB F.PANEL_STAT_ACK ack).get F.PANEL_STAT_ACK :=
    get_putB_ne _ _ _ _ panelIsolate_ok (.inr (.inr (by decide)))
  rw [State.flag, hkept]
  exact flag_putB_same _ _ _ panelAck_ok

/-- A one-bit field's write leaves the other bits of its word. -/
theorem bit_putB_ne (s : State) (f : RF) (b : Bool) (hbit : f.hi = f.lo) (h32 : f.lo < 32) {i : Nat} (hi : i ≠ f.lo) :
    bit ((s.putB f b).reg f.addr) i = bit (s.reg f.addr) i := by
  simp only [State.putB, reg_put, if_true, bit]
  rw [getLsbD_putBits _ _ _ _ _ (by omega) (by omega), if_neg (by omega)]

theorem bit_keys_ne (s : State) (ack iso : Bool) {i : Nat} (hiso : i ≠ F.PANEL_STAT_ISOLATE.lo)
    (hack : i ≠ F.PANEL_STAT_ACK.lo) : bit ((s.keys ack iso).reg R.PANEL_STAT) i = bit (s.reg R.PANEL_STAT) i := by
  unfold State.keys
  exact (bit_putB_ne (s.putB F.PANEL_STAT_ACK ack) F.PANEL_STAT_ISOLATE iso rfl (by decide) hiso).trans
    (bit_putB_ne s F.PANEL_STAT_ACK ack rfl (by decide) hack)

/-- What leaves all but registers and records leaves the operation result. -/
theorem sameParts_of_soft {s t : State} (h : Soft s t) : sameParts s t := by
  unfold Soft at h
  have hlast : t.last = s.last := by rw [h]
  rw [sameParts, hlast]
  exact h

/-- The keys are shown in registers only. -/
theorem sameParts_keys (s : State) (ack iso : Bool) : sameParts s (s.keys ack iso) :=
  sameParts_of_soft ((soft_setReg s _ _).trans (soft_setReg _ _ _))

/-- The selection stands in other bits than the keys (Table 2.8). -/
theorem selected_keys (s : State) (ack iso : Bool) : (s.keys ack iso).selected = s.selected := by
  have hsel : (s.keys ack iso).get F.PANEL_STAT_SELCH = s.get F.PANEL_STAT_SELCH :=
    get_keys_ne s ack iso (.inr (.inl (by decide))) (.inr (.inl (by decide)))
  simp only [State.selected, hsel]

theorem keysw_keys (s : State) (ack iso : Bool) :
    (s.keys ack iso).flag F.PANEL_STAT_KEYSW = s.flag F.PANEL_STAT_KEYSW := by
  have hkey : (s.keys ack iso).get F.PANEL_STAT_KEYSW = s.get F.PANEL_STAT_KEYSW :=
    get_keys_ne s ack iso (.inr (.inr (by decide))) (.inr (.inr (by decide)))
  simp only [State.flag, hkey]

/-- A channel's registers lie above the shared pages. -/
theorem chBase_add_ne_panelStat (n : Ch) (k : Nat) : chBase n + k ≠ R.PANEL_STAT := by
  simp only [chBase, R.PANEL_STAT]; omega

theorem chState_keys (s : State) (ack iso : Bool) (n : Ch) : (s.keys ack iso).chState n = s.chState n :=
  get_keys_off s ack iso (chBase_add_ne_panelStat n _)

theorem conn_keys (s : State) (ack iso : Bool) (n : Ch) : (s.keys ack iso).reg (R.CH_CONN n) = s.reg (R.CH_CONN n) :=
  reg_keys_ne s ack iso (chBase_add_ne_panelStat n _)

theorem restrictedNow_keys (s : State) (ack iso : Bool) : (s.keys ack iso).restrictedNow = s.restrictedNow := rfl

theorem mode_keys (s : State) (ack iso : Bool) : (s.keys ack iso).mode = s.mode := get_keys_off s ack iso (by decide)

/-- Settles O56: the abandoned hold only clears the key indications. -/
theorem holdAbandoned : Obligations.HoldAbandoned := by
  unfold Obligations.HoldAbandoned
  intro s
  exact ⟨s.keys false false, rfl, rfl, flag_keys_isolate s _ _, flag_keys_ack s _ _,
    fun a ha => reg_keys_ne s _ _ (by simpa using ha), sameParts_keys s _ _, fun i _ hiso hack => bit_keys_ne s _ _ hiso hack⟩

/-! ## Connectors (R35 to R37) -/

/-- The partner's detect loop does not speak for this connector: the result is taken, and one of the own ring port goes to
the partner first (R35, R89). -/
theorem execDetectLoopQualified_own {s : State} {n : Ch} {c : Conn}
    (h : (s.twinCh n && connIx c == s.remoteConn n) = false) (p : Bool) :
    execDetectLoopQualified n c p s = .next ((if s.twinCh n && connIx c == 1 - s.remoteConn n then s.ringMsg n 3 [b2n p]
      else s).connSet n (connIx c) p) :=
  congrArg _ (if_neg (by simp [h]))

/-- The first result after BOOT only sets the presence bit (R35). -/
theorem connSet_first {s : State} {n : Ch} {i : Nat} (h : (s.ch n).qual.getLsbD i = false) (p : Bool) :
    s.connSet n i p = ((s.bootShow 5).modCh n (fun c => { c with qual := c.qual ||| BitVec.ofNat 4 (2 ^ i) })).putB
      ⟨R.CH_CONN n, i, i⟩ p :=
  if_pos (by simp [h])

section
variable {s : State} {n : Ch} {i : Nat} {p : Bool} (hqual : (s.ch n).qual.getLsbD i = true)
  (hchange : s.flag ⟨R.CH_CONN n, i, i⟩ = !p)
include hqual hchange

/-- A changed level enters the presence bit, and an unplug takes back an entry into LOCKOUT of its round; outside LOCKOUT an
unplug trips before CONN is raised (R36, R37). -/
theorem connSet_changed :
    let v := if p then s.putB ⟨R.CH_CONN n, i, i⟩ p else (s.putB ⟨R.CH_CONN n, i, i⟩ p).lockUndo n
    let w := ((v.tripC n 0x08).setRaise ⟨R.CH_CONN n, i + 4, i + 4⟩ (pgCH n) 3).raise (pgCH n) 4
    s.connSet n i p = if !p && v.chState n != stLOCKOUT then w.log 0x8141 n.val 3 (w.reg (R.CH_CONN n)) 0 0
      else (v.raise (pgCH n) 4).log 0x8141 n.val 0 (v.reg (R.CH_CONN n)) 0 0 := by
  intro v w
  have hnew : ¬ s.flag ⟨R.CH_CONN n, i, i⟩ = p := by simp [hchange]
  rw [State.connSet, if_neg (by simp [hqual]), if_neg hnew]

end

/-- A turn of the key to RUN ends the service sessions, and a bundle under transfer is discarded (R42). -/
theorem execKeysw_run {s : State} (h : s.flag F.PANEL_STAT_KEYSW = true) :
    let u := ((s.putB F.PANEL_STAT_KEYSW false).raise pgPANEL 2).endPort .service
    execKeysw false s = .next (if u.get F.UPD_STAT_STATE = 1
      then ((u.setInactive Slot.empty).put F.UPD_STAT_STATE 0).verShow else u) :=
  congrArg _ (if_neg (by simp [h]))

/-! ## Pads and the selected channel (R39, R43, R44) -/

/-- The pads of one channel alone (R39). -/
theorem pads_of_one (n : Ch) : (BitVec.ofNat 8 (2 ^ n.val)).toNat = 2 ^ n.val
    ∧ allCh.filter (fun k => (BitVec.ofNat 8 (2 ^ n.val)).getLsbD k.val) = [n] := by
  revert n; decide

theorem execPadTouch_one (s : State) (n : Ch) : execPadTouch (BitVec.ofNat 8 (2 ^ n.val)) s =
    .next { ((((s.keys false false).put F.PANEL_STAT_PAD (2 ^ n.val)).put F.PANEL_STAT_SELCH n.val)) with
      panel := ⟨.channel n, s.tb⟩ } := by
  obtain ⟨hval, hone⟩ := pads_of_one n
  simp only [execPadTouch, hval, hone]
  rfl

theorem execIsolate_selected {s : State} {n : Ch} (h : s.selected = some n) :
    execIsolate s = .next (((s.keys false true).raise pgPANEL 4).isolateStart n) := by
  simp only [execIsolate, selected_keys, h, happen]

section
variable {s : State} {n : Ch} (hsel : s.selected = some n) (hlock : s.chState n = stLOCKOUT)
  (hkey : s.flag F.PANEL_STAT_KEYSW = true) (hir : s.restrictedNow = false)
include hsel hlock hkey hir

/-- With the key in SERVICE and no restricted instruction, the connectors of the selected channel decide (R44). -/
theorem execLockoutRelease_selected : let u := s.keys true false
    execLockoutRelease s = .next (if !s.allPlugged n then { u with panel := { u.panel with
      screen := .lockoutRefused n (BitVec.ofNat 4 (15 - bitsOf (s.reg (R.CH_CONN n)) 3 0)) } } else u.lockoutEnd n) := by
  have hgrant : ¬ ((s.keys true false).chState n ≠ stLOCKOUT ∨ (!(s.keys true false).flag F.PANEL_STAT_KEYSW) = true
      ∨ (s.keys true false).restrictedNow = true) := by
    rw [chState_keys, keysw_keys, restrictedNow_keys]
    simp [hlock, hkey, hir]
  simp only [execLockoutRelease, happen, selected_keys, hsel, if_neg hgrant, State.allPlugged, conn_keys]
  rfl

end

/-- Outside HALT and BOOT a released channel enters ISOLATED with its drives on and its ring started (R44). -/
theorem lockoutEnd_running {s : State} (n : Ch) (hhalt : s.mode ≠ mHALT) (hboot : s.mode ≠ mBOOT) :
    s.lockoutEnd n = ((((((s.drivesOn n).putB (F.CONT_STAT_INHIBIT n) false).putB (F.CONT_STAT_TRIP_ON n) true).enterState n
      stISOLATED 0).ringStart n).coilsOn n) :=
  (if_neg hhalt).trans (if_neg hboot)

/-- Settles O28: each command by the test in front of its work, which the hypotheses decide. -/
theorem panelAndConnectors : Obligations.PanelAndConnectors := by
  unfold Obligations.PanelAndConnectors
  refine ⟨?_, execPadTouch_one, ?_, fun s => rfl, ?_, fun s => execKeysw_run, fun s n => execIsolate_selected, fun s => rfl,
    fun s n => rfl, ?_, ?_⟩
  · intro s n c p hown i f u s0 v w
    have hexec : exec (.detectLoopQualified n c p) s = .next (s0.connSet n i p) := execDetectLoopQualified_own hown p
    refine ⟨fun hfirst => ?_, fun hqual hchange hp hout => ?_, fun hqual hchange hother => ?_⟩
    · exact hexec.trans (congrArg _ (connSet_first hfirst p))
    · have hunplug : (!p && v.chState n != stLOCKOUT) = true := by simp [hp, hout]
      exact hexec.trans (congrArg _ ((connSet_changed hqual hchange).trans (if_pos hunplug)))
    · have hkeep : ¬ (!p && v.chState n != stLOCKOUT) = true := by rcases hother with h | h <;> simp [h]
      exact hexec.trans (congrArg _ ((connSet_changed hqual hchange).trans (if_neg hkeep)))
  · intro s hsel hlapse
    exact congrArg _ (if_pos ⟨hsel, decide_eq_true hlapse⟩)
  · intro s hrun
    exact congrArg _ (if_neg (by simp [hrun]))
  · intro s n hiso hlate
    exact congrArg _ (if_pos ⟨hiso, decide_eq_true hlate⟩)
  · intro s n hsel hlock hkey hir u
    have hexec : exec .lockoutRelease s = _ := execLockoutRelease_selected hsel hlock hkey hir
    refine ⟨fun hplug hhalt hboot => ?_, fun hplug => ?_⟩
    · rw [hexec, if_neg (by simp [hplug]), lockoutEnd_running n (by rwa [mode_keys]) (by rwa [mode_keys])]
    · rw [hexec, if_pos (by simp [hplug])]

end Sys2Proof.Machine
end

section
/-! PROOFS. What trips a channel (R46, R251, R257, R258, R264, R265, R271): overcurrent, a demand, the contactors' times and
the trip test. -/

namespace Sys2Proof.Machine
open Sys2Proof

theorem tb_pwmOff (s : State) (n : Ch) : (s.pwmOff n).tb = s.tb := by
  obtain ⟨-, hclock, -⟩ := only_pwmOff s n
  simp only [State.tb, hclock]

theorem tb_putB (s : State) (f : RF) (b : Bool) : (s.putB f b).tb = s.tb := rfl

/-- Four outputs of a path in use above IOC inhibit the PWM, outside LOCKOUT (R257). -/
theorem execOvercurrentDetect_above {s : State} {n : Ch} {aux : Bool} {mA : Int} (hlock : s.chState n ≠ stLOCKOUT)
    (hioc : s.get (F.SAFE_LIMIT_IOC n) ≠ 0)
    (hpath : s.flag (if aux then F.CTLE_STAT_IAUX_FAIL n else F.CTLE_STAT_IMAIN_FAIL n) = false)
    (habove : s.get (F.SAFE_LIMIT_IOC n) * 1000 < ((s.calIn n aux (some mA)).getD mA).natAbs) :
    execOvercurrentDetect n aux mA s = .next (((s.putB (F.CONT_STAT_INHIBIT n) true).pwmOff n).modSafe n (fun f => { f with
      ocAt := if f.ocAt.isNone then some s.tb else f.ocAt
      ocPath := (if f.ocAt.isNone then 0 else f.ocPath) ||| (if aux then 2 else 1) })) := by
  have hseen : s.chState n ≠ stLOCKOUT ∧ s.get (F.SAFE_LIMIT_IOC n) ≠ 0
      ∧ (!s.flag (if aux then F.CTLE_STAT_IAUX_FAIL n else F.CTLE_STAT_IMAIN_FAIL n)) = true
      ∧ s.get (F.SAFE_LIMIT_IOC n) * 1000 < ((s.calIn n aux (some mA)).getD mA).natAbs :=
    ⟨hlock, hioc, by rw [hpath]; rfl, habove⟩
  simp only [execOvercurrentDetect, happen, if_pos hseen, tb_pwmOff, tb_putB]

/-- The decision on an overcurrent comes 30 µs after its inhibit (R257). -/
theorem execOvercurrent_due {s : State} {n : Ch} {t : Nat} (hoc : (s.ch n).safe.ocAt = some t) (hdue : 30000 ≤ s.tb - t) :
    execOvercurrent n s =
      .next ((s.trip n 0x05 (s.ch n).safe.ocPath 0).modSafe n (fun f => { f with ocAt := none, ocPath := 0 })) := by
  simp only [execOvercurrent, happen, hoc, if_pos hdue]

/-- TRIP opens 1 ms after the decision (R251 step 3). -/
theorem execTripOpen_due {s : State} {n : Ch} {t : Nat} (htrip : (s.ch n).safe.tripAt = some t) (hdue : s.passedMs t 1 = true) :
    execTripOpen n s = .next (((s.holdsOff n).putB (F.CONT_STAT_TRIP_ON n) false).modSafe n (fun f =>
      { f with tripAt := none
               holdOffAt := if s.anyFb n = true ∧ s.get (F.SAFE_TRIPREC_CAUSE n) ≠ 0x09 then some s.tb else none })) := by
  simp only [execTripOpen, happen, htrip, if_pos hdue]

/-- 100 ms after the holds went off, outside PRECHARGE, every feedback counts (R46, R262, R265). -/
theorem execWeld_due {s : State} {n : Ch} {t : Nat} (hoff : (s.ch n).safe.holdOffAt = some t) (hdue : s.passedMs t 100 = true)
    (hpre : s.chState n ≠ stPRECHARGE) :
    execWeld n s = .next (if s.anyFb n then
      (s.tripC n 0x09).modSafe n (fun f => { f with holdOffAt := none, isolating := false, isoWait := false })
      else s.isolatedCheck n) := by
  simp only [execWeld, happen, hoff, hdue, Bool.true_or, if_true, if_neg hpre]

/-- A demand of an enabled input outside LOCKOUT (R258). -/
theorem execSiDemand_enabled {s : State} {n : Ch} {k : Fin 4} (b : Bool) (hlock : s.chState n ≠ stLOCKOUT)
    (hen : s.getBit (F.SAFE_SICFG_EN n) k.val = true) :
    let u := s.modSafe n (fun f => { f with low := f.low ||| BitVec.ofNat 8 (2 ^ lineIx k b) })
    execSiDemand n k b s = .next (((u.putBit (if b then F.SAFE_SISTAT_B n else F.SAFE_SISTAT_A n) k.val false).siShow n
      k.val).trip n 0x06 (if b then 2 else 1) k.val) :=
  congrArg _ (if_pos ⟨hlock, hen⟩)

/-- Settles O43: each source by the test in front of its trip, which the hypotheses decide. -/
theorem tripSources : Obligations.TripSources := by
  unfold Obligations.TripSources
  refine ⟨fun s n aux mA => execOvercurrentDetect_above, fun s n t => execOvercurrent_due,
    fun s n k b => execSiDemand_enabled b, ?_, ?_, ?_, ?_, ?_⟩
  · intro s n t htrip hdue
    exact execTripOpen_due htrip (decide_eq_true hdue)
  · intro s n k hpre hstep hlate
    exact congrArg _ (if_pos ⟨hpre, hstep, decide_eq_true hlate⟩)
  · intro s n hpre hstep hlate
    exact congrArg _ (if_pos ⟨hpre, hstep, decide_eq_true hlate⟩)
  · intro s n t hoff hdue hpre
    have hexec : exec (.weld n) s = _ := execWeld_due hoff (decide_eq_true hdue) hpre
    exact ⟨fun hclosed => hexec.trans (congrArg _ (if_pos hclosed)),
      fun hopen => hexec.trans (congrArg _ (if_neg (by simp [hopen])))⟩
  · intro s n hen hlock hdue
    exact congrArg _ (if_neg (by simp [hen, hlock, hdue]))

end Sys2Proof.Machine
end

section
/-! PROOFS. Messages of the twin link (R329 to R334, R340 to R342, R370): heartbeats, notices, mirror records, ring messages
and the loss of the link. -/

namespace Sys2Proof.Machine
open Sys2Proof

/-- A notice names a channel of the module by its number (R331). -/
theorem notice_channel (n : Ch) : ¬ 7 < n.val ∧ (Fin.ofNat 8 n.val : Ch) = n :=
  ⟨by omega, Fin.ofNat_val_eq_self n⟩

/-- A TRIP notice dates the partner's trip, and trips the channel where this module owns it (R329, R336). -/
theorem execNoticeTrip_twin {s : State} {n : Ch} (h : s.twinCh n = true) (cause path : Nat) :
    let u := s.modTwin n (fun w => { w with pTripAt := some s.tb })
    execNoticeTrip n.val cause path s = .next (if u.owns n then u.trip n cause path 0 else u) := by
  obtain ⟨hrange, hn⟩ := notice_channel n
  simp only [execNoticeTrip, happen, if_neg hrange, hn, h, Bool.not_true, Bool.false_eq_true, if_false]

/-- A RELEASE notice lets this module claim the channel (R342). -/
theorem execNoticeRelease_twin {s : State} {n : Ch} (h : s.twinCh n = true) :
    execNoticeRelease n.val s =
      .next (s.modTwin n (fun w => { w with releaseAt := some s.tb, pOwned := false, toClaim := true })) := by
  obtain ⟨hrange, hn⟩ := notice_channel n
  simp only [execNoticeRelease, happen, if_neg hrange, hn, h, Bool.not_true, Bool.false_eq_true, if_false]

/-- A heartbeat that is discarded only counts (R330). -/
theorem heartbeat_bad {s : State} {m : HbMsg} (h : m.ok = false) : s.heartbeat m = s.incSat F.TWIN_CNT_BAD :=
  if_pos (by simp [h])

/-- A good segment reaches the standby of a twin channel (R332). -/
theorem execMirror_standby {s : State} {m : MirrorSeg} (hok : m.ok = true) (htwin : s.twinCh m.ch = true)
    (hstandby : (s.ch m.ch).twin.standby = true) :
    let l := (s.ch m.ch).twin.segs.filter (fun x => x.index != m.index) ++ [m]
    execMirror m s = .next (if (List.range m.total).all (fun k => l.any (fun x => x.index == k)) then s.mirrorStore m.ch l
      else s.modTwin m.ch (fun w => { w with segs := l, segAt := if w.segs = [] then s.tb else w.segAt })) :=
  congrArg _ ((if_neg (by simp [hok])).trans (if_neg (by simp [htwin, hstandby])))

/-- Settles O50: each message by the test in front of its work, which the hypotheses decide. -/
theorem twinMessages : Obligations.TwinMessages := by
  unfold Obligations.TwinMessages
  refine ⟨?_, fun s m => ⟨fun hbad => congrArg _ (heartbeat_bad hbad), fun hok => ?_⟩, ?_, ?_,
    fun s n cause path h => execNoticeTrip_twin h cause path, fun s n => execNoticeRelease_twin, fun s => rfl, ?_, fun s => rfl,
    fun s m => execMirror_standby, ?_, fun s => rfl, ?_, ?_⟩
  · intro s hconf htimebase
    exact congrArg _ (if_neg (by simp [hconf, htimebase]))
  · exact congrArg _ (if_neg (by simp [hok]))
  · intro s hconf hever hmissed
    exact congrArg _ (if_pos ⟨hconf, hever, hmissed⟩)
  · intro s hlink hmissed hclaims
    exact congrArg _ (if_pos ⟨hlink, hmissed, hclaims⟩)
  · intro s n htwin howns hlink hepoch
    exact congrArg _ (if_pos ⟨htwin, howns, hlink, hepoch⟩)
  · intro s n hsegs hlate
    exact congrArg _ (if_pos ⟨hsegs, decide_eq_true hlate⟩)
  · intro s n l htwin
    exact congrArg _ (if_pos htwin)
  · intro s n p htwin
    exact congrArg _ (if_neg (by simp [htwin]))

end Sys2Proof.Machine
end

section
/-! PROOFS. The mode commands of SYS.CMD behind its gate (R50, R55, R56, R58; Table 3.8). -/

namespace Sys2Proof.Machine
open Sys2Proof

/-- What the gate and the command of the value accept is done; R51 concerns a refused command only. -/
theorem sysCmd_accepted {s t : State} {src : Src} {v : Word}
    (hgate : (s.restartUnlock src pgSYS 0x034).gate src pgSYS 0x034 v = .ok)
    (hcmd : (s.restartUnlock src pgSYS 0x034).sysCmdOf src v = (.ok, t)) : s.sysCmd src v = .next t.done := by
  rw [State.sysCmd, gated_ok hgate, State.doSysCmd, hcmd, if_neg (by simp), answer_ok]

/-- Outside a hold-up the field that marks its start refuses nothing. -/
theorem not_holdup_isSome {s : State} (h : s.sup.holdupAt = none) : ¬ s.sup.holdupAt.isSome = true := by simp [h]

theorem doStandby_running {s : State} (h : s.mode = mRUN ∨ s.mode = mLIMP) :
    s.doStandby = (.ok, ((s.setOplvl 2).eachCh (fun t n =>
      if t.chState n = stPRECHARGE ∨ t.energised n then t.enterState n stSTOPPING 0x61 else t)).standbyCheck) :=
  if_neg (fun hother => h.elim hother.1 hother.2)

theorem doRun_admitted {s : State} (h : s.mode = mSTANDBY ∨ s.mode = mLIMP) :
    s.doRun = (.ok, if (s.setOplvl 3).mode = mSTANDBY then (s.setOplvl 3).setMode mRUN else s.setOplvl 3) :=
  if_neg (fun hother => h.elim hother.1 hother.2)

/-- DECAF from STANDBY (R55): the mode, the channels' states and the supply each take away one ground of refusal. -/
theorem doDecaf_standby {s : State} (hmode : s.mode = mSTANDBY) (hhold : s.sup.holdupAt = none)
    (hoff : allCh.all (fun n => s.chState n == stISOLATED || s.chState n == stLOCKOUT) = true) :
    let v := (s.modPanel (fun p => { p with screen := .final mDECAF 0 })).eachCh
      (fun t n => (((((t.ringSleep n).balZero n).pourStop n).percStop n 4).coilsOff n).modSafe n
        (fun f => { f with sdclk := false }))
    s.doDecaf =
      (.ok, (((v.modSup (fun p => { p with wakeRun := [], wakeVolt := false })).setMode mDECAF).evtRunEnd).nvStore) := by
  refine if_neg ?_
  rintro (hready | hbusy | hheld)
  · exact hready (.inl hmode)
  · simp [hoff] at hbusy
  · exact not_holdup_isSome hhold hheld

theorem doWake_seen {s : State} (hmode : s.mode = mDECAF) (hhold : s.sup.holdupAt = none) (hvolt : s.sup.wakeVolt = true) :
    s.doWake = (.ok, s.rebootFrom 1) := by
  have hready : ¬ (s.mode ≠ mDECAF ∨ s.sup.holdupAt.isSome = true) :=
    not_or_intro (not_not_intro hmode) (not_holdup_isSome hhold)
  rw [State.doWake, if_neg hready, State.wakeTry, if_pos hvolt]

/-- RESTART leaves a HALT of any cause but over-temperature (R58, R278). -/
theorem doRestart_service {s : State} {src : Src} (hservice : s.service src = true) (hmode : s.mode = mHALT)
    (hcause : s.get F.SYS_STAT_HALT_CAUSE ≠ 1) (hhold : s.sup.holdupAt = none) :
    s.doRestart src = (.ok, ((s.evtRunEnd.nvStore).modSup (fun p => { p with haltLatch := false })).rebootFrom 2) := by
  have hready : ¬ (s.mode ≠ mHALT ∨ s.sup.holdupAt.isSome = true) :=
    not_or_intro (not_not_intro hmode) (not_holdup_isSome hhold)
  rw [State.doRestart, if_neg hready, if_neg (by simp [hservice]), if_neg hcause]

/-- Settles O25: behind the gate each value is its command, and the hypotheses answer the command's own grounds of refusal. -/
theorem modeCommands : Obligations.ModeCommands := by
  unfold Obligations.ModeCommands
  intro s src u
  refine ⟨fun hgate hmode => ?_, fun hgate hmode => ?_, fun hgate hmode => ?_, fun hgate hmode hhold hoff => ?_,
    fun hgate hmode hhold hvolt => ?_, fun hgate hservice hmode hcause hhold => ?_, fun hgate hmode => ?_⟩
  · exact sysCmd_accepted hgate (doStandby_running hmode)
  · exact sysCmd_accepted hgate (doRun_admitted (.inl hmode))
  · exact sysCmd_accepted hgate (doRun_admitted (.inr hmode))
  · exact sysCmd_accepted hgate (doDecaf_standby hmode hhold hoff)
  · exact sysCmd_accepted hgate (doWake_seen hmode hhold hvolt)
  · exact sysCmd_accepted hgate (doRestart_service hservice hmode hcause hhold)
  · exact sysCmd_accepted hgate (if_neg hmode : u.doHalt = _)

end Sys2Proof.Machine
end

section
/-! PROOFS. Power-on, the end of BOOT and the ways out of DECAF at the module (R54, R56, R58, R278, R346; Table 3.3). -/

namespace Sys2Proof.Machine
open Sys2Proof

/-- What a power-on after an absence of `ms` milliseconds makes of the state before it decides on a mode: the cold state,
the HALT latch kept over a short absence only, one more power cycle (R58, R346). -/
def State.powerUp (s : State) (ms : Nat) : State :=
  (s.coldReset.modSup (fun p => { p with haltLatch := s.sup.haltLatch && decide (ms < 1000), vholdOk := false })).modEvt
    (fun e => { e with pcc := satInc 0xFFFFFF e.pcc })

theorem haltLatch_powerUp (s : State) (ms : Nat) :
    (s.powerUp ms).sup.haltLatch = (s.sup.haltLatch && decide (ms < 1000)) := rfl
theorem haltCause_powerUp (s : State) (ms : Nat) : (s.powerUp ms).sup.haltCause = s.sup.haltCause := rfl
theorem decafLatch_powerUp (s : State) (ms : Nat) : (s.powerUp ms).sup.decafLatch = s.sup.decafLatch := rfl

/-- Outside a hold-up a power-on goes by the latches of the powered state (Table 3.2). -/
theorem execPowerOn_powered {s : State} (hhold : s.sup.holdupAt = none) (ms : Nat) : let u := s.powerUp ms
    execPowerOn ms s = .next (if u.sup.haltLatch then ((u.evtBoot.1.verShow).enterHalt u.sup.haltCause).condUpdate
      else if u.sup.decafLatch then ((((u.evtBoot.1.verShow).modPanel (fun p => { p with screen := .final mDECAF 0 })).putB
        F.SYS_STAT_DECAF_LATCH true).setMode mDECAF).condUpdate
      else u.bootBegin 0) :=
  congrArg _ (if_neg (not_holdup_isSome hhold))

/-- BOOT's end in BOOT: the self-test, the temperature, the active image and the other one, in this order (Table 3.3). -/
theorem execBootEnd_booting {s : State} (hmode : s.mode = mBOOT) (hhold : s.sup.holdupAt = none) (r : BootResult) :
    let a := s.flag F.UPD_STAT_ACTIVE
    let okA := s.slotOk s.upd.slotA r.sigA
    let okB := s.slotOk s.upd.slotB r.sigB
    execBootEnd r s = .next (if !r.selftest then (s.enterHalt 3).condUpdate else if r.hot then (s.enterHalt 1).condUpdate
      else if if a then okB else okA then s.bootRest r
      else if if a then okA else okB then (((s.putB F.UPD_STAT_ACTIVE (!a)).modSup
        (fun p => { p with rebootFault := true })).logReg pgUPD 0x028).bootRest r
      else (s.enterHalt 2).condUpdate) :=
  congrArg _ (if_neg (not_or_intro (not_not_intro hmode) (not_holdup_isSome hhold)))

/-- The confirmation at the panel wakes as SYS.CMD = WAKE does, with the key in SERVICE (R56). -/
theorem execPanelWakeConfirm_seen {s : State} (hmode : s.mode = mDECAF) (hkey : s.flag F.PANEL_STAT_KEYSW = true)
    (hhold : s.sup.holdupAt = none) (hvolt : s.sup.wakeVolt = true) : execPanelWakeConfirm s = .next (s.rebootFrom 1) := by
  have hready : ¬ (s.mode ≠ mDECAF ∨ (!s.flag F.PANEL_STAT_KEYSW) = true ∨ s.sup.holdupAt.isSome = true) :=
    not_or_intro (not_not_intro hmode) (not_or_intro (by simp [hkey]) (not_holdup_isSome hhold))
  simp only [execPanelWakeConfirm, happen, if_neg hready, hvolt, Bool.true_or, State.wakeTry, if_true]

/-- Settles O26: power-on by the latches that the cold state keeps, BOOT's end by its tests in their order. -/
theorem powerOnAndBootEnd : Obligations.PowerOnAndBootEnd := by
  unfold Obligations.PowerOnAndBootEnd
  refine ⟨?_, ?_, ?_, fun s => execPanelWakeConfirm_seen⟩
  · intro s ms hhold hold u
    have hexec : exec (.powerOn ms) s = _ := execPowerOn_powered hhold ms
    rw [hexec, haltLatch_powerUp, haltCause_powerUp, decafLatch_powerUp]
    rfl
  · intro s r hmode hhold a okA okB
    have hexec : exec (.bootEnd r) s = _ := execBootEnd_booting hmode hhold r
    rw [hexec]
    refine ⟨fun htest => ?_, fun htest hhot => ?_, fun htest hhot hactive => ?_, fun htest hhot hactive hother => ?_,
      fun htest hhot hactive hother => ?_⟩
    · rw [if_pos (by simp [htest])]
    · rw [if_neg (by simp [htest]), if_pos hhot]
    · rw [if_neg (by simp [htest]), if_neg (by simp [hhot]), if_pos hactive]
    · rw [if_neg (by simp [htest]), if_neg (by simp [hhot]), if_neg (ne_true_of_eq_false hactive), if_pos hother]
    · rw [if_neg (by simp [htest]), if_neg (by simp [hhot]), if_neg (ne_true_of_eq_false hactive),
        if_neg (ne_true_of_eq_false hother)]
  · intro s mv hmode run
    exact congrArg _ (if_pos hmode)

end Sys2Proof.Machine
end

section
/-! PROOFS. The supplies' events (R59 to R61, R381 to R383): the inputs, the fuse, the hold-up capacitor and its use. -/

namespace Sys2Proof.Machine
open Sys2Proof

/-- An open fuse is dated, and the pulses that it fed end (R383). -/
theorem execAuxFuseOpen_first {s : State} (h : s.sup.fuseAt = none) :
    execAuxFuseOpen s = .next (((s.modSup (fun p => { p with fuseAt := some s.tb })).eachCh
      (fun t n => t.modSafe n (fun f => { f with pulseA := false, pulseB := false }))).logNone pgSYS) :=
  congrArg _ (if_neg (by simp [h]))

/-- The fuse recloses 1 s after it opened, with no HOLD output commanded (R383). -/
theorem execAuxFuseReclose_due {s : State} {t : Nat} (hopen : s.sup.fuseAt = some t) (hdue : s.passedMs t 1000 = true)
    (hhold : s.anyHold = false) : execAuxFuseReclose s = .next (s.modSup (fun p => { p with fuseAt := none })) := by
  have hclose : s.passedMs t 1000 = true ∧ (!s.anyHold) = true := ⟨hdue, by simp [hhold]⟩
  simp only [execAuxFuseReclose, happen, hopen, if_pos hclose]

/-- Hold-up starts once: the record first, then the channels' outputs, then what VHOLD can still store (R60). -/
theorem execHoldupStart_first {s : State} (h : s.sup.holdupAt = none) (o : HoldupOutcome) :
    let v := (s.modSup (fun p => { p with holdupAt := some s.tb })).modPanel (fun p => { p with screen := .final s.mode 0 })
    execHoldupStart o s = .next ((((v.raise pgSYS 3).log 0x0142 0xF 2 (BitVec.ofNat 32 o.mv) 0 0).eachCh (fun t n =>
      ((((t.putB (F.CONT_STAT_INHIBIT n) true).pwmOff n).coilsOff n).balZero n).modSafe n
        (fun f => { f with tripAt := some t.tb }))).holdupStore o) :=
  congrArg _ (if_neg (not_holdup_isSome h))

/-- The module resets 60 ms after hold-up began (R60). -/
theorem execHoldupReset_due {s : State} {t : Nat} (hheld : s.sup.holdupAt = some t) (hdue : s.passedMs t 60 = true) :
    execHoldupReset s = .next s.coldReset := by
  simp only [execHoldupReset, happen, hheld, if_pos hdue]

/-- Settles O27: each event by the test in front of its work, which the hypotheses decide. -/
theorem supplyEvents : Obligations.SupplyEvents := by
  unfold Obligations.SupplyEvents
  intro s
  refine ⟨fun mv hlow => congrArg _ (if_pos hlow), rfl, rfl, rfl, execAuxFuseOpen_first, fun t hopen hdue hhold => ?_, rfl,
    fun o hhold => execHoldupStart_first hhold o, fun t hheld hdue => ?_⟩
  · exact execAuxFuseReclose_due hopen (decide_eq_true hdue) hhold
  · exact execHoldupReset_due hheld (decide_eq_true hdue)

end Sys2Proof.Machine
end

section
/-! PROOFS. A WRAP request's bytes (R67 to R69, Tables 4.1 and 4.2): big-endian fields, operations and the header read
back as they were written. -/

namespace Sys2Proof.Machine
open Sys2Proof

/-! ## Big-endian numbers and words (R67) -/

@[simp] theorem length_beBytes (n v : Nat) : (beBytes n v).length = n := by
  induction n generalizing v with
  | zero => rfl
  | succ n ih => rw [beBytes, List.length_append, ih, List.length_singleton]

/-- Bytes spell the number that they were made of, as far as they hold it. -/
@[simp] theorem beNat_beBytes (n v : Nat) : beNat (beBytes n v) = v % 256 ^ n := by
  induction n generalizing v with
  | zero => rw [pow_zero, Nat.mod_one]; rfl
  | succ n ih =>
    have hlast : ∀ (l : List Byte) (b : Byte), beNat (l ++ [b]) = beNat l * 256 + b.toNat := fun l b => List.foldl_concat ..
    rw [beBytes, hlast, ih, BitVec.toNat_ofNat, pow_succ' 256 n, Nat.mod_mul, Nat.mul_comm, Nat.add_comm]

@[simp] theorem length_wordBytes (w : Word) : (wordBytes w).length = 4 := length_beBytes 4 _

@[simp] theorem bytesWord_wordBytes (w : Word) : bytesWord (wordBytes w) = w := by
  have hnat : beNat (wordBytes w) = w.toNat := (beNat_beBytes 4 _).trans (Nat.mod_eq_of_lt w.isLt)
  rw [bytesWord, hnat, BitVec.ofNat_toNat, BitVec.setWidth_eq]

theorem bytesWords_wordBytes_append (w : Word) (l : List Byte) : bytesWords (wordBytes w ++ l) = w :: bytesWords l :=
  congrArg (· :: bytesWords l) (bytesWord_wordBytes w)

theorem bytesWords_flatMap (ws : List Word) : bytesWords (ws.flatMap wordBytes) = ws := by
  induction ws with
  | nil => rfl
  | cons w ws ih => rw [List.flatMap_cons, bytesWords_wordBytes_append, ih]

theorem pairUp_bytesWords_flatMap (ps : List (Word × Word)) :
    pairUp (bytesWords (ps.flatMap (fun p => wordBytes p.1 ++ wordBytes p.2))) = ps := by
  induction ps with
  | nil => rfl
  | cons p ps ih =>
    rw [List.flatMap_cons, List.append_assoc, bytesWords_wordBytes_append, bytesWords_wordBytes_append, pairUp, ih]

theorem length_flatMap_wordBytes (ws : List Word) : (ws.flatMap wordBytes).length = 4 * ws.length := by
  simp [List.length_flatMap, Nat.mul_comm]

theorem length_flatMap_pairBytes (ps : List (Word × Word)) :
    (ps.flatMap (fun p => wordBytes p.1 ++ wordBytes p.2)).length = 8 * ps.length := by
  simp [List.length_flatMap, Nat.mul_comm]

/-! ## Operations (R69, Table 4.2) -/

/-- The front of an operation as `parseOp` takes it apart: its fields, which pass its checks, and what follows. -/
theorem opHeader_fields (code : Nat) {n a : Nat} (r : List Byte) (hcode : code < 256) (hn : n ≤ 255) (ha : a < 2 ^ 24) :
    let l := opHeader code n a ++ r
    ¬ l.length < 8 ∧ beNat (l.take 1) = code ∧ beNat ((l.drop 1).take 1) = n ∧ beNat ((l.drop 2).take 2) = 0
      ∧ beNat ((l.drop 4).take 4) = a ∧ l.drop 8 = r := by
  refine ⟨?_, ?_, ?_, ?_, ?_, rfl⟩
  · simp only [opHeader, List.length_append, length_beBytes]; omega
  · exact (beNat_beBytes 1 code).trans (Nat.mod_eq_of_lt hcode)
  · exact (beNat_beBytes 1 n).trans (Nat.mod_eq_of_lt (by omega))
  · exact beNat_beBytes 2 0
  · exact (beNat_beBytes 4 a).trans (Nat.mod_eq_of_lt (by omega))

/-- A well-formed operation's bytes parse to it, and leave what follows them. -/
theorem parseOp_encode {o : WrapOp} (h : o.wf = true) (r : List Byte) : parseOp (o.encode ++ r) = some (o, r) := by
  have hchecks : ∀ {n a : Nat}, 1 ≤ n → a < 2 ^ 24 → ¬ (n = 0 ∨ 0 ≠ 0 ∨ 2 ^ 24 ≤ a) := by omega
  cases o
  all_goals
    simp only [WrapOp.wf, Bool.and_eq_true, decide_eq_true_eq] at h
    obtain ⟨⟨ha, hpos⟩, hn⟩ := h
  case read a n =>
    obtain ⟨hlen, hcode, hcount, hres, haddr, hrest⟩ := opHeader_fields 1 r (by decide) hn ha
    simp only [WrapOp.encode, parseOp, hlen, hcode, hcount, hres, haddr, hrest, hchecks hpos ha, if_false]
  case repeated a n =>
    obtain ⟨hlen, hcode, hcount, hres, haddr, hrest⟩ := opHeader_fields 3 r (by decide) hn ha
    simp only [WrapOp.encode, parseOp, hlen, hcode, hcount, hres, haddr, hrest, hchecks hpos ha, if_false]
  case write a ws =>
    obtain ⟨hlen, hcode, hcount, hres, haddr, hrest⟩ := opHeader_fields 2 (ws.flatMap wordBytes ++ r) (by decide) hn ha
    have hdata := length_flatMap_wordBytes ws
    have hroom : ¬ (ws.flatMap wordBytes ++ r).length < 4 * ws.length := by rw [List.length_append]; omega
    simp only [WrapOp.encode, List.append_assoc, parseOp, hlen, hcode, hcount, hres, haddr, hrest, hchecks hpos ha, hroom,
      if_false, List.take_left' hdata, List.drop_left' hdata, bytesWords_flatMap]
  case mask a ps =>
    obtain ⟨hlen, hcode, hcount, hres, haddr, hrest⟩ :=
      opHeader_fields 4 (ps.flatMap (fun p => wordBytes p.1 ++ wordBytes p.2) ++ r) (by decide) hn ha
    have hdata := length_flatMap_pairBytes ps
    have hroom : ¬ (ps.flatMap (fun p => wordBytes p.1 ++ wordBytes p.2) ++ r).length < 8 * ps.length := by
      rw [List.length_append]; omega
    simp only [WrapOp.encode, List.append_assoc, parseOp, hlen, hcode, hcount, hres, haddr, hrest, hchecks hpos ha, hroom,
      if_false, List.take_left' hdata, List.drop_left' hdata, pairUp_bytesWords_flatMap]

/-- A body of well-formed operations is used up by parsing as many as it holds. -/
theorem parseOps_encode {l : List WrapOp} (h : ∀ o ∈ l, o.wf = true) :
    parseOps l.length (l.flatMap WrapOp.encode) = some l := by
  induction l with
  | nil => rfl
  | cons o l ih =>
    rw [List.forall_mem_cons] at h
    simp only [List.flatMap_cons, List.length_cons, parseOps, parseOp_encode h.1, ih h.2, Option.map_some]

/-! ## The header (R68, Table 4.1) -/

/-- The fields of a request's header as they are read: VERSION, TYPE, LENGTH, HSEQ, DSEQ, FLAGS, COUNT, and the body. -/
theorem encodeRequest_fields (h : Word) (a : Bool) (l : List WrapOp) :
    let b := encodeRequest h a l
    b.take 1 = [0x01] ∧ (b.drop 1).take 1 = beBytes 1 1 ∧ (b.drop 2).take 2 = beBytes 2 (l.flatMap WrapOp.encode).length
      ∧ (b.drop 4).take 4 = wordBytes h ∧ (b.drop 8).take 4 = beBytes 4 0 ∧ (b.drop 12).take 2 = beBytes 2 (b2n a)
      ∧ (b.drop 14).take 2 = beBytes 2 l.length ∧ b.drop 16 = l.flatMap WrapOp.encode :=
  ⟨rfl, rfl, rfl, rfl, rfl, rfl, rfl, rfl⟩

theorem length_encodeRequest (h : Word) (a : Bool) (l : List WrapOp) :
    (encodeRequest h a l).length = (l.flatMap WrapOp.encode).length + 16 := by
  simp only [encodeRequest, wrapHeader, List.length_append, length_beBytes, List.length_singleton]
  omega

/-- Settles O8: the header's fields read back, and the body parses operation by operation. -/
theorem requestRoundTrip : Obligations.RequestRoundTrip := by
  unfold Obligations.RequestRoundTrip
  intro h a l hpos hmax hwf hsize
  obtain ⟨hver, htype, hlen, hhseq, hdseq, hflags, hcount, hbody⟩ := encodeRequest_fields h a l
  have hbytes := length_encodeRequest h a l
  have hflag : beNat (beBytes 2 (b2n a)) = b2n a := by cases a <;> rfl
  have hn : beNat (beBytes 2 l.length) = l.length := (beNat_beBytes 2 _).trans (Nat.mod_eq_of_lt (by omega))
  have hok : headerOk (encodeRequest h a l) = true := by
    have hatomic : b2n a ≤ 1 := by cases a <;> decide
    have hone : beNat [0x01] = 1 ∧ beNat (beBytes 1 1) = 1 ∧ beNat (beBytes 4 0) = 0 := by decide
    simp only [headerOk, hver, htype, hdseq, hflags, hcount, hflag, hn, hone, hatomic, hpos, hmax, hsize, decide_true,
      beq_self_eq_true, Bool.and_self]
  refine ⟨?_, ?_, ?_, ?_⟩
  · rw [parseRequest, if_pos hok, hcount, hn, hbody, parseOps_encode hwf]
  · rw [hhseq, bytesWord_wordBytes]
  · rw [hlen, beNat_beBytes, Nat.mod_eq_of_lt (by omega), hbytes]
  · rw [hflags, hflag]; cases a <;> rfl

end Sys2Proof.Machine
end

section
/-! PROOFS. Reads by address (R9, R72, R76): a register without a read effect, and the words of READ and READ_REPEAT. -/

namespace Sys2Proof.Machine
open Sys2Proof

/-! ## A register without a read effect -/

/-- The pages whose registers a read leaves as they are and shows as stored. -/
def plainReadPages : List Page :=
  [.sys, .snap, .panel, .alloc, .therm, .twin, .hlth, .ch, .ring, .pour, .cdiag, .bal, .cbk0, .cbk1, .prof, .vax, .cont]

theorem readBlock_plain {pg : PageRef} (h : pg.page ∈ plainReadPages) (s : State) (src : Src) (off k : Nat) (w : Word) :
    s.readBlock src pg off k w = (.ok, s, w) := by
  obtain ⟨p, n⟩ := pg
  cases p <;> simp [plainReadPages] at h <;> rfl

/-- Only the performance counters ask for more than the page (R362). -/
theorem pmcReadable_plain {pg : PageRef} (h : pg.page ∈ plainReadPages) (s : State) (src : Src) :
    s.pmcReadable src pg = .ok := by
  have hpmc : isPmc pg = false := by
    obtain ⟨p, n⟩ := pg
    cases p <;> simp [plainReadPages] at h <;> rfl
  cases src <;> simp [State.pmcReadable, hpmc]

/-- An aligned address of a page is read at its offset. -/
theorem readAddr_page {a off : Nat} {pg : PageRef} (ha : a % 4 = 0) (hloc : locate a = .page pg off) (s : State) (src : Src) :
    s.readAddr src a = s.readReg src pg off := by
  have hok : addrStatus a = .ok := by simp [addrStatus, ha, hloc]
  simp only [State.readAddr, hok, hloc]

/-- Settles O10: behind the reach of the source, a plain page answers the word shown. -/
theorem plainRegisterReads : Obligations.PlainRegisterReads := by
  unfold Obligations.PlainRegisterReads
  intro s src a off pg ha hloc hreach hoff hpage
  have hpmc := pmcReadable_plain hpage s src
  refine ⟨fun d k hfind => ?_, fun hfind => ?_⟩
  · simp only [readAddr_page ha hloc, State.readReg, hreach, hpmc, hfind, if_neg (Nat.not_lt.mpr hoff), readBlock_plain hpage]
  · simp only [readAddr_page ha hloc, State.readReg, hreach, hpmc, hfind]

/-! ## READ and READ_REPEAT -/

/-- A word that reads OK has an address that can be read. -/
theorem addrStatus_of_readAddr {s t : State} {src : Src} {a : Nat} {w : Word} (h : s.readAddr src a = (.ok, t, w)) :
    addrStatus a = .ok := by
  unfold State.readAddr at h
  split at h
  · assumption
  · exact (Prod.mk.inj h).1

section
variable {s : State} {src : Src} {l : List Nat} {addr : Nat → Nat} {w : Nat → Word}
  (h : ∀ i ∈ l, s.readAddr src (addr i) = (.ok, s, w i))
include h

/-- Words that read OK without a side effect are collected in order. -/
theorem readWords_ok (acc : List Word) : s.readWords src (l.map addr) acc = (.ok, s, acc.reverse ++ l.map w) := by
  induction l generalizing acc with
  | nil => simp [State.readWords]
  | cons i l ih =>
    rw [List.forall_mem_cons] at h
    simp only [List.map_cons, State.readWords, h.1, ih h.2, List.reverse_cons, List.append_assoc, List.singleton_append]

/-- A read of such words answers them and leaves the state (R72). -/
theorem readOp_ok : s.readOp src (l.map addr) = (⟨.ok, l.length, false, 0, l.map w⟩, s) := by
  have hnone : ((l.map addr).map addrStatus).find? (· != .ok) = none := by
    simp only [List.map_map, List.find?_eq_none, List.mem_map]
    rintro _ ⟨i, hi, rfl⟩
    simp [addrStatus_of_readAddr (h i hi)]
  simp only [State.readOp, hnone, readWords_ok h, List.reverse_nil, List.nil_append, List.length_map]

end

/-- Settles O9: both commands read a list of addresses, each of which reads OK in the same state. -/
theorem readsAnswer : Obligations.ReadsAnswer := by
  unfold Obligations.ReadsAnswer
  intro s src a n
  refine ⟨fun w h => ?_, fun w h => ?_⟩
  · have hop := readOp_ok (l := List.range n) (fun i hi => h i (List.mem_range.mp hi))
    rw [List.length_range] at hop
    exact congrArg answerOp hop
  · have hop := readOp_ok (l := List.range n) (addr := fun _ => a) (w := fun _ => w) (fun _ _ => h)
    simp only [List.map_const', List.length_range] at hop
    exact congrArg answerOp hop

end Sys2Proof.Machine
end

section
/-! PROOFS. Atomic requests (R79, R81, R178): what the run on the shadow makes of the state, and what a refused set
answers. -/

namespace Sys2Proof.Machine
open Sys2Proof

/-! ## The run on the shadow (R178) -/

/-- The writes of one operation, the round's earlier writes being `prev`. -/
def State.applyOp (s : State) (src : Src) (prev : List (Nat × Nat)) (o : AtomicOp) : State :=
  match AtomicOp.words o with
  | some (a, ps) => (s.writeWords src prev a ps).2
  | none => s

/-- One step of a pass: an operation that `sel` picks is written and gets its result, another keeps its own. -/
def shadowStep (src : Src) (prev : List (Nat × Nat)) (sel : AtomicOp → Bool) (x : List (AtomicOp × OpResult) × State)
    (o : AtomicOp × OpResult) : List (AtomicOp × OpResult) × State :=
  match AtomicOp.words o.1, sel o.1 with
  | some (a, ps), true => (x.1 ++ [(o.1, (x.2.writeWords src prev a ps).1)], (x.2.writeWords src prev a ps).2)
  | _, _ => (x.1 ++ [o], x.2)

section
variable {src : Src} {prev : List (Nat × Nat)} {sel : AtomicOp → Bool}

theorem shadowPass_eq_foldl (s : State) (ops : List (AtomicOp × OpResult)) :
    s.shadowPass src prev sel ops = ops.foldl (shadowStep src prev sel) ([], s) := rfl

theorem shadowStep_fst (x : List (AtomicOp × OpResult) × State) (o : AtomicOp × OpResult) :
    (shadowStep src prev sel x o).1.map (·.1) = x.1.map (·.1) ++ [o.1] := by
  unfold shadowStep
  split <;> simp

theorem shadowStep_snd (x : List (AtomicOp × OpResult) × State) (o : AtomicOp × OpResult) :
    (shadowStep src prev sel x o).2 = if sel o.1 then x.2.applyOp src prev o.1 else x.2 := by
  unfold shadowStep State.applyOp
  cases AtomicOp.words o.1 <;> cases sel o.1 <;> rfl

/-- A pass keeps the operations in their order. -/
theorem shadowPass_fst (s : State) (ops : List (AtomicOp × OpResult)) :
    (s.shadowPass src prev sel ops).1.map (·.1) = ops.map (·.1) := by
  have hfold : ∀ (l : List (AtomicOp × OpResult)) (x : List (AtomicOp × OpResult) × State),
      (l.foldl (shadowStep src prev sel) x).1.map (·.1) = x.1.map (·.1) ++ l.map (·.1) := by
    intro l
    induction l with
    | nil => simp
    | cons o l ih => intro x; rw [List.foldl_cons, ih, shadowStep_fst, List.map_cons, List.append_assoc]; rfl
  exact hfold ops ([], s)

/-- A pass writes the operations that it picks, in their order. -/
theorem shadowPass_snd (s : State) (ops : List (AtomicOp × OpResult)) :
    (s.shadowPass src prev sel ops).2
      = (ops.map (·.1)).foldl (fun t o => if sel o then t.applyOp src prev o else t) s := by
  have hfold : ∀ (l : List (AtomicOp × OpResult)) (x : List (AtomicOp × OpResult) × State),
      (l.foldl (shadowStep src prev sel) x).2
        = (l.map (·.1)).foldl (fun t o => if sel o then t.applyOp src prev o else t) x.2 := by
    intro l
    induction l with
    | nil => intro x; rfl
    | cons o l ih => intro x; rw [List.foldl_cons, ih, shadowStep_snd, List.map_cons, List.foldl_cons]
  exact hfold ops ([], s)

end

/-- Without a BANKSEL write the shadow sees the writes in request order. -/
theorem shadowRun_no_banksel {ops : List AtomicOp} (h : ∀ o ∈ ops, banksel o = false) (s : State) (src : Src) :
    (s.shadowRun src ops).2 = ops.foldl (fun t o => t.applyOp src s.joined o) s := by
  have hops : (ops.map (fun o => (o, (⟨.ok, 0, false, 0, []⟩ : OpResult)))).map (·.1) = ops := by
    rw [List.map_map]; exact List.map_id ops
  simp only [State.shadowRun, shadowPass_snd, shadowPass_fst, hops]
  rw [List.foldl_ext _ (fun t _ => t) _ (fun t o ho => by simp [h o ho]), List.foldl_fixed]
  exact List.foldl_ext _ _ _ fun t o ho => by simp [h o ho]

/-! ## The answer -/

/-- The set may run as an atomic request: writes off the broadcast addresses alone, at most 64 words (R79, R81). -/
def atomicShape (ops : List AtomicOp) : Prop := (∀ o ∈ ops, atomicBad o = false) ∧ atomicSize ops ≤ 64

section
variable {s : State} {src : Src} {ops : List AtomicOp} {j : Bool}

theorem atomic_of_shape (hshape : atomicShape ops) : let r := (s.enter src j).shadowRun src ops
    s.atomic src ops j = if ∀ x ∈ r.1, x.status = .ok then r
      else (r.1.map (fun o => ⟨if o.status = .ok then .aborted else o.status, 0, false, 0, []⟩), s) := by
  have hbad : ops.any atomicBad = false := by simpa using hshape.1
  simp only [State.atomic, hbad, Nat.not_lt.mpr hshape.2, List.all_eq_true, beq_iff_eq, Bool.false_eq_true, if_false]

/-- A set that is not committed leaves the state and has an operation that is not OK. -/
theorem atomic_refused (h : ¬ (atomicShape ops ∧ ∀ x ∈ ((s.enter src j).shadowRun src ops).1, x.status = .ok)) :
    ∃ l, s.atomic src ops j = (l, s) ∧ ∃ o ∈ l, o.status ≠ .ok := by
  by_cases hshape : atomicShape ops
  · have hall : ¬ ∀ x ∈ ((s.enter src j).shadowRun src ops).1, x.status = .ok := fun hall => h ⟨hshape, hall⟩
    refine ⟨_, (atomic_of_shape hshape).trans (if_neg hall), ?_⟩
    obtain ⟨x, hx, hst⟩ := not_forall₂.mp hall
    exact ⟨_, List.mem_map_of_mem hx, by simp [hst]⟩
  · by_cases hbad : ops.any atomicBad = true
    · refine ⟨_, if_pos hbad, ?_⟩
      obtain ⟨o, ho, hob⟩ := List.any_eq_true.mp hbad
      exact ⟨_, List.mem_map_of_mem ho, by simp [hob]⟩
    · have hsize : 64 < atomicSize ops := by
        by_contra hle
        exact hshape ⟨by simpa using hbad, Nat.not_lt.mp hle⟩
      refine ⟨_, (if_neg hbad).trans (if_pos hsize), ?_⟩
      obtain ⟨o, ho⟩ := List.exists_mem_of_ne_nil ops (by rintro rfl; simp [atomicSize] at hsize)
      exact ⟨_, List.mem_map_of_mem ho, by decide⟩

/-- The command's result is a refusal when one of its operations was refused. -/
theorem execAtomicRequest_refused {t : State} {l : List OpResult} (hrun : s.atomic src ops j = (l, t))
    (h : ∃ o ∈ l, o.status ≠ .ok) :
    ∃ o : OpResult, o.status ≠ .ok ∧ execAtomicRequest src ⟨ops, j⟩ s = .next { t with last := o } := by
  have hbad : ∃ o : OpResult, o.status ≠ .ok ∧ (l.find? (fun o => o.status != .ok && o.status != .aborted)).or
      (l.find? (fun o => o.status != .ok)) = some o := by
    obtain ⟨o, ho, hst⟩ := h
    cases hfirst : l.find? (fun o => o.status != .ok && o.status != .aborted) with
    | some x =>
      have hx : (x.status != .ok && x.status != .aborted) = true :=
        List.find?_some (p := fun o : OpResult => o.status != .ok && o.status != .aborted) hfirst
      exact ⟨x, bne_iff_ne.mp (Bool.and_eq_true_iff.mp hx).1, rfl⟩
    | none =>
      cases hany : l.find? (fun o => o.status != .ok) with
      | some x => exact ⟨x, by simpa using List.find?_some hany, rfl⟩
      | none => exact absurd (by simpa using List.find?_eq_none.mp hany o ho) hst
  obtain ⟨o, hst, ho⟩ := hbad
  exact ⟨o, hst, by simp only [execAtomicRequest, hrun, ho, Option.getD_some, answerOp]⟩

/-- The command commits the shadow when every operation was OK. -/
theorem execAtomicRequest_ok {t : State} {l : List OpResult} (hrun : s.atomic src ops j = (l, t))
    (h : ∀ o ∈ l, o.status = .ok) :
    execAtomicRequest src ⟨ops, j⟩ s = .next { t with last := ⟨.ok, ops.length, false, 0, []⟩ } := by
  have hfirst : l.find? (fun o => o.status != .ok && o.status != .aborted) = none :=
    List.find?_eq_none.mpr fun o ho => by simp [h o ho]
  have hany : l.find? (fun o => o.status != .ok) = none := List.find?_eq_none.mpr fun o ho => by simp [h o ho]
  simp only [execAtomicRequest, hrun, hfirst, hany, Option.or_none, Option.getD_none, answerOp]

end

/-- Settles O14: by what `atomic` answers for a good set and for every other. -/
theorem atomicAllOrNothing : Obligations.AtomicAllOrNothing := by
  unfold Obligations.AtomicAllOrNothing
  intro s src ops j r shape good
  refine ⟨fun hgood => ?_, fun hbad => ?_, fun hbank _ => ?_, fun hshape hbad => ?_⟩
  · exact execAtomicRequest_ok ((atomic_of_shape hgood.1).trans (if_pos hgood.2)) hgood.2
  · obtain ⟨l, hrun, hrefused⟩ := atomic_refused hbad
    exact execAtomicRequest_refused hrun hrefused
  · exact shadowRun_no_banksel hbank (s.enter src j) src
  · exact (atomic_of_shape hshape).trans (if_neg fun hall => hbad ⟨hshape, hall⟩)

end Sys2Proof.Machine
end

section
/-! PROOFS. Broadcasts (R79, R80): one write for each enabled channel, and what is kept when every one accepts. -/

namespace Sys2Proof.Machine
open Sys2Proof

/-- The write to one channel of a broadcast; the answers stand beside their channels. -/
def bcastStep (src : Src) (prev : List (Nat × Nat)) (off : Nat) (ps : List (Word × Word)) (x : List (Ch × OpResult) × State)
    (n : Ch) : List (Ch × OpResult) × State :=
  (x.1 ++ [(n, (x.2.writeWords src prev (chBase n + off) ps).1)], (x.2.writeWords src prev (chBase n + off) ps).2)

/-- The writes of a broadcast to its channels, in order. -/
def State.bcastRun (s : State) (src : Src) (off : Nat) (ps : List (Word × Word)) (targets : List Ch) :
    List (Ch × OpResult) × State :=
  targets.foldl (bcastStep src s.joined off ps) ([], s)

/-- Every channel answers, in order. -/
theorem bcastRun_channels (s : State) (src : Src) (off : Nat) (ps : List (Word × Word)) (targets : List Ch) :
    (s.bcastRun src off ps targets).1.map (·.1) = targets := by
  have hfold : ∀ (l : List Ch) (x : List (Ch × OpResult) × State),
      (l.foldl (bcastStep src s.joined off ps) x).1.map (·.1) = x.1.map (·.1) ++ l := by
    intro l
    induction l with
    | nil => simp
    | cons n l ih => intro x; rw [List.foldl_cons, ih, bcastStep]; simp
  exact hfold targets ([], s)

/-- HOST.BCAST_RESULT of an identity that is known (R80). -/
def State.keepBcast (s : State) (i : Option Ident) (word : Word) : State :=
  match i with
  | some i => s.modIdent i (fun x => { x with bcast := word })
  | none => s

/-- A broadcast that every enabled channel accepts (R79, R80). -/
theorem broadcast_accepted {s : State} {src : Src} {off : Nat} {ps : List (Word × Word)} (hoff : off % 4 = 0)
    (huser : userCode src = false) (hroom : off + 4 * ps.length ≤ 0x4400) :
    let targets := allCh.filter (fun n => s.getBit F.HOST_BCAST_EN_EN n.val)
    let r := s.bcastRun src off ps targets
    let word := BitVec.ofNat 32 (chMask targets * 65536 + chMask targets)
    (∀ p ∈ r.1, p.2.status = .ok) → s.broadcast src s.joined off ps =
      (⟨.ok, if chMask targets = 0 then 0 else ps.length, r.1.any (fun p => p.2.ovw), BitVec.ofNat 8 (chMask targets),
        []⟩, r.2.keepBcast (s.identOf src) word) := by
  intro targets r word hok
  have hacc : r.1.filter (fun p => p.2.status == .ok) = r.1 := List.filter_eq_self.mpr fun p hp => by simp [hok p hp]
  have hbad : r.1.filter (fun p => p.2.status != .ok) = [] := List.filter_eq_nil_iff.mpr fun p hp => by simp [hok p hp]
  have hch : r.1.map (·.1) = targets := bcastRun_channels s src off ps targets
  unfold State.broadcast
  rw [if_neg (not_not.mpr hoff), if_neg (by simp [huser])]
  simp only [if_pos hroom]
  generalize hfold : List.foldl _ _ _ = run
  have hrun : run = r := hfold.symm
  have hnone : chMask ([] : List Ch) = 0 := rfl
  simp only [hrun, hacc, hbad, hch, List.map_nil, hnone, if_true, Nat.zero_mul, Nat.zero_add, Nat.add_zero]
  rfl

/-- Settles O15: an address of the broadcast range means the broadcast, which is judged as a run over the enabled channels. -/
theorem broadcastReachesEnabled : Obligations.BroadcastReachesEnabled := by
  unfold Obligations.BroadcastReachesEnabled
  intro s src off ws j hoff huser hroom s0 targets r
  have hlen : (fullMask ws).length = ws.length := List.length_map ..
  refine ⟨fun a hloc => ?_, fun hok => ?_⟩
  · have hop : ∀ ps, s.writeOp src a ps j = s0.broadcast src s0.joined off ps := fun ps => by
      simp only [State.writeOp, hloc, s0]
    exact ⟨congrArg answerOp (hop _), fun w => congrArg answerOp (hop _)⟩
  · have hrun := broadcast_accepted (s := s0) (ps := fullMask ws) hoff huser (by omega) hok
    rw [hlen] at hrun
    exact congrArg answerOp hrun

end Sys2Proof.Machine
end

section
/-! PROOFS. PAGE_UNLOCK (R84): the two writes of the unlock sequence. -/

namespace Sys2Proof.Machine
open Sys2Proof

/-- No page's type is the key that begins a sequence (Tables 4.12, 23.1, 23.2). -/
theorem pageType_ne_unlockKey (p : Page) : BitVec.ofNat 32 (pageType p) ≠ unlockKey := by
  cases p <;> decide

section
variable {s : State} {i : Nat} {pg : PageRef} {x : Session}
  (hopen : s.session i = some x) (hfree : s.lockedOut x.ident pg = false)
include hopen hfree

/-- The key outside a sequence begins one and ends an unlock that the page has. -/
theorem doUnlock_key (hbegun : x.begun.contains pg = false) : s.doUnlock (.session i) pg unlockKey =
    (.ok, s.modSession i (fun y => { y with
      unlocks := y.unlocks.filter (fun u => u.1 != pg), begun := y.begun.filter (· != pg) ++ [pg] })) := by
  simp only [State.doUnlock, hopen, hfree, hbegun, Bool.false_and, Bool.false_eq_true, if_false, if_true, List.append_nil]

/-- The page's type in a begun sequence completes it: the page is unlocked from now on. -/
theorem doUnlock_type (hbegun : x.begun.contains pg = true) :
    s.doUnlock (.session i) pg (BitVec.ofNat 32 (pageType pg.page)) = (.ok, s.modSession i (fun y => { y with
      unlocks := y.unlocks.filter (fun u => u.1 != pg) ++ [(pg, s.tb)], begun := y.begun.filter (· != pg) })) := by
  simp only [State.doUnlock, hopen, hfree, hbegun, pageType_ne_unlockKey, beq_self_eq_true, Bool.and_self, Bool.not_true,
    Bool.and_false, Bool.false_eq_true, if_false, if_true, List.append_nil]

end

/-- Settles O17: a write of PAGE_UNLOCK restarts no sequence, so both writes come behind the gate to `doUnlock`. -/
theorem unlockSequence : Obligations.UnlockSequence := by
  unfold Obligations.UnlockSequence
  intro s i pg x hopen hfree hgate
  have hexec : ∀ v, exec (.pageUnlock (.session i) pg v) s = answer (s.doUnlock (.session i) pg v) := fun v =>
    congrArg answer (gated_ok (hgate v))
  refine ⟨fun hbegun => ?_, fun hbegun => ?_⟩
  · exact (hexec unlockKey).trans (by rw [doUnlock_key hopen hfree hbegun, answer_ok])
  · rw [hexec, doUnlock_type hopen hfree hbegun, answer_ok]

end Sys2Proof.Machine
end

section
/-! PROOFS. The page header's commands (R74, R84, R393, R394; Tables 4.6 and 4.10). -/

namespace Sys2Proof.Machine
open Sys2Proof

/-! ## PAGE_CTRL -/

section
variable {s : State} {src : Src} {pg : PageRef}

/-- PAGE_CTRL with SOFT_RESET and ENABLE as it stands resets the page and nothing more (R393). -/
theorem doPageCtrl_soft (h : s.pageCtrlStatus pg (softWord s pg) = .ok) :
    s.doPageCtrl src pg (softWord s pg) = (.ok, (s.putB (F.ENABLE pg) (s.enabled pg)).softReset src pg) := by
  have hbits : bit (softWord s pg) 0 = s.enabled pg ∧ bit (softWord s pg) 31 = true := by
    unfold softWord; cases s.enabled pg <;> decide
  simp only [State.doPageCtrl, h, hbits, Bool.and_not_self, Bool.not_and_self, Bool.false_eq_true, if_false, if_true]

/-- ENABLE written 0 on an enabled page stops the block (R394). -/
theorem doPageCtrl_off (h : s.pageCtrlStatus pg 0 = .ok) (hon : s.enabled pg = true) :
    s.doPageCtrl src pg 0 = (.ok, (s.putB (F.ENABLE pg) false).pageOff pg) := by
  have hbits : bit 0 0 = false ∧ bit 0 31 = false := by decide
  simp only [State.doPageCtrl, h, hon, hbits, Bool.not_false, Bool.and_self, Bool.false_eq_true, if_false, if_true]

/-- ENABLE written 1 on a disabled page starts it (R394). -/
theorem doPageCtrl_on (h : s.pageCtrlStatus pg 1 = .ok) (hoff : s.enabled pg = false) :
    s.doPageCtrl src pg 1 = (.ok, (s.putB (F.ENABLE pg) true).pageOn pg) := by
  have hbits : bit 1 0 = true ∧ bit 1 31 = false := by decide
  simp only [State.doPageCtrl, h, hoff, hbits, Bool.not_false, Bool.not_true, Bool.and_self, Bool.false_eq_true, if_false, if_true]

end

/-- Settles O16: each write behind the gate by its register's meaning; the ends of unlocks and lockouts as they stand. -/
theorem headerCommands : Obligations.HeaderCommands := by
  unfold Obligations.HeaderCommands
  refine ⟨?_, ?_, ?_, ?_, fun _ _ _ => rfl, fun _ _ _ => rfl⟩
  · intro s src pg v u hgate
    exact congrArg answer (gated_ok hgate)
  · intro s src pg u w hgate hstatus hkeep
    have hw : w = softWord u pg := by rw [softWord, hkeep]
    rw [hw] at hstatus
    change answer (s.gated src pg 0x004 w (fun t => t.doPageCtrl src pg w)) = _
    rw [gated_ok hgate, hw, doPageCtrl_soft hstatus, answer_ok, hkeep]
  · intro s src pg u hgate hstatus hon
    change answer (s.gated _ _ _ _ _) = _
    rw [gated_ok hgate, doPageCtrl_off hstatus hon, answer_ok]
  · intro s src pg u hgate hstatus hoff
    change answer (s.gated _ _ _ _ _) = _
    rw [gated_ok hgate, doPageCtrl_on hstatus hoff, answer_ok]

end Sys2Proof.Machine
end

section
/-! PROOFS. Interrupt sources (R74, R75, R347): the bits of the page, and the NOTIFY records of the source and of its
event. -/

namespace Sys2Proof.Machine
open Sys2Proof

/-! ## The page's IRQ registers -/

/-- EVT lies a page or more from every other page. -/
theorem pageBase_apart_evt {pg : PageRef} (h : pg.page ≠ .evt) :
    pageBase pg + 0x400 ≤ pageBase pgEVT ∨ pageBase pgEVT + 0x400 ≤ pageBase pg := by
  have hall : ∀ (p : Page) (n : Ch), p ≠ .evt →
      pageBase ⟨p, n⟩ + 0x400 ≤ pageBase pgEVT ∨ pageBase pgEVT + 0x400 ≤ pageBase ⟨p, n⟩ := by
    intro p; cases p <;> decide
  exact hall pg.page pg.ch h

theorem irqRaw_ne_irqPend (pg : PageRef) : R.IRQ_RAW pg ≠ R.IRQ_PEND pg := by
  unfold R.IRQ_RAW R.IRQ_PEND hdr; omega

/-- The header registers of another page are none of EVT's. -/
theorem hdr_ne_evt {pg : PageRef} (h : pg.page ≠ .evt) {o o' : Nat} (ho : o < 0x400) (ho' : o' < 0x400) :
    hdr pg o ≠ hdr pgEVT o' := by
  have := pageBase_apart_evt h
  unfold hdr; omega

theorem irqEdge_snd (s : State) (pg : PageRef) (b : Nat) :
    (s.irqEdge pg b).2 = (bit (s.reg (R.IRQ_EN pg)) b && !bit (s.reg (R.IRQ_PEND pg)) b) := by
  unfold State.irqEdge
  dsimp only
  split
  · next h => exact h.symm
  · next h => exact (Bool.eq_false_iff.mpr h).symm

theorem reg_irqEdge_raw (s : State) (pg : PageRef) (b : Nat) :
    (s.irqEdge pg b).1.reg (R.IRQ_RAW pg) = s.reg (R.IRQ_RAW pg) ||| BitVec.ofNat 32 (2 ^ b) := by
  unfold State.irqEdge
  dsimp only
  split
  · rw [reg_setReg_ne _ _ _ _ (irqRaw_ne_irqPend pg), reg_setReg_same]
  · rw [reg_setReg_same]

theorem reg_irqEdge_pend (s : State) (pg : PageRef) (b : Nat) :
    (s.irqEdge pg b).1.reg (R.IRQ_PEND pg) =
      if (s.irqEdge pg b).2 then s.reg (R.IRQ_PEND pg) ||| BitVec.ofNat 32 (2 ^ b) else s.reg (R.IRQ_PEND pg) := by
  have hraw := reg_setReg_ne s (R.IRQ_RAW pg) (R.IRQ_PEND pg) (s.reg (R.IRQ_RAW pg) ||| BitVec.ofNat 32 (2 ^ b))
    (irqRaw_ne_irqPend pg).symm
  unfold State.irqEdge
  dsimp only
  split
  · rw [reg_setReg_same, hraw, if_pos rfl]
  · rw [hraw, if_neg Bool.false_ne_true]

theorem notifies_irqEdge (s : State) (pg : PageRef) (b : Nat) : (s.irqEdge pg b).1.notifies = s.notifies := by
  unfold State.irqEdge
  dsimp only
  split <;> rfl

/-! ## The records of EVT that an event brings (R347, R354) -/

/-- t has at most k NOTIFY records more than s, all of EVT. -/
def evtNotifies (s t : State) (k : Nat) : Prop :=
  ∃ l, t.notifies = s.notifies ++ l ∧ l.length ≤ k ∧ ∀ x ∈ l, x.page = pageBase pgEVT

theorem evtNotifies.same {s t : State} {k : Nat} (h : t.notifies = s.notifies) : evtNotifies s t k :=
  ⟨[], by rw [h, List.append_nil], Nat.zero_le k, fun _ hx => absurd hx List.not_mem_nil⟩

theorem evtNotifies.trans {s t u : State} {j k : Nat} (h1 : evtNotifies s t j) (h2 : evtNotifies t u k) :
    evtNotifies s u (j + k) := by
  obtain ⟨l, hl, hlen, hpage⟩ := h1
  obtain ⟨m, hm, hmlen, hmpage⟩ := h2
  refine ⟨l ++ m, by rw [hm, hl, List.append_assoc], by rw [List.length_append]; omega, fun x hx => ?_⟩
  exact (List.mem_append.mp hx).elim (hpage x) (hmpage x)

theorem evtNotifies.mono {s t : State} {j k : Nat} (h : evtNotifies s t j) (hjk : j ≤ k) : evtNotifies s t k := by
  obtain ⟨l, hl, hlen, hpage⟩ := h
  exact ⟨l, hl, hlen.trans hjk, hpage⟩

/-- A source of EVT makes one record at most. -/
theorem evtNotifies_raiseEvt (s : State) (b : Nat) : evtNotifies s (s.raiseEvt b) 1 := by
  have hedge := notifies_irqEdge s ⟨.evt, 0⟩ b
  unfold State.raiseEvt
  dsimp only
  split
  · exact ⟨_, congrArg (· ++ _) hedge, le_rfl, fun x hx => by rw [List.mem_singleton.mp hx]; rfl⟩
  · exact .same hedge

theorem evtNotifies_raiseEvt_if (s : State) (c : Prop) [Decidable c] (b : Nat) :
    evtNotifies s (if c then s.raiseEvt b else s) 1 := by
  split
  · exact evtNotifies_raiseEvt s b
  · exact .same rfl

/-- A recorded event can fill the log and be critical: two records of EVT at most. -/
theorem evtNotifies_record (s : State) (c k v : Nat) (p q r : Word) : evtNotifies s (s.record c k v p q r).1 2 := by
  have hstage : ∀ r : EventRec, evtNotifies s (s.stage r).1 2 := fun r => by
    unfold State.stage
    split
    · exact (evtNotifies_raiseEvt_if { s with evt := _ } _ 3).mono (by decide)
    · exact (evtNotifies_raiseEvt_if { s with evt := _ } _ 2).trans (evtNotifies_raiseEvt_if _ _ 4)
  unfold State.record
  dsimp only
  split
  · exact .same rfl
  · exact hstage _

/-! ## A source of a page other than EVT -/

section
variable {s : State} {pg : PageRef} {b : Nat}

/-- A source that becomes pending is recorded, and its NOTIFY record carries the event's number. -/
theorem raise_newly (hpg : pg.page ≠ .evt) (h : (s.irqEdge pg b).2 = true) : ∃ c k v p q r,
    let u := (s.irqEdge pg b).1.record c k v p q r
    s.raise pg b = u.1.notify pg b u.2 :=
  ⟨_, _, _, _, _, _, by unfold State.raise; exact (if_pos h).trans (if_neg hpg)⟩

theorem raise_quiet (h : (s.irqEdge pg b).2 = false) : s.raise pg b = (s.irqEdge pg b).1 :=
  if_neg (by simp [h])

/-- The source and its event change the page's registers as the source alone does. -/
theorem reg_raise_own (hpg : pg.page ≠ .evt) {o : Nat} (ho : o < 0x400) :
    (s.raise pg b).reg (hdr pg o) = (s.irqEdge pg b).1.reg (hdr pg o) := by
  cases h : (s.irqEdge pg b).2 with
  | true =>
    obtain ⟨c, k, v, p, q, r, hraise⟩ := raise_newly hpg h
    rw [hraise, reg_notify, reg_record_ne _ _ _ _ _ _ _ _ (hdr_ne_evt hpg ho (by decide)) (hdr_ne_evt hpg ho (by decide))]
  | false => rw [raise_quiet h]

end

/-- Settles O58: the page's bits follow the source alone; its event adds the records of EVT in front of its own. -/
theorem interruptEdges : Obligations.InterruptEdges := by
  unfold Obligations.InterruptEdges
  intro s pg b hpg _ t newly
  have hnewly : (s.irqEdge pg b).2 = newly := irqEdge_snd s pg b
  have hraw := reg_raise_own (s := s) (b := b) hpg (o := 0x00C) (by decide)
  have hpend := reg_raise_own (s := s) (b := b) hpg (o := 0x014) (by decide)
  refine ⟨hraw.trans (reg_irqEdge_raw s pg b), hpend.trans ?_, fun h => ?_, fun h => ?_,
    fun a ha => reg_raise_ne s pg b a ha, sameParts_of_soft (soft_raise s pg b)⟩
  · rw [← hnewly]; exact reg_irqEdge_pend s pg b
  · obtain ⟨c, k, v, p, q, r, hraise⟩ := raise_newly hpg (hnewly.trans h)
    obtain ⟨l, hl, hlen, hpage⟩ := evtNotifies_record (s.irqEdge pg b).1 c k v p q r
    have hsoft : Soft s ((s.irqEdge pg b).1.record c k v p q r).1 := (soft_irqEdge s pg b).trans (soft_record _ c k v p q r)
    have hep : ((s.irqEdge pg b).1.record c k v p q r).1.ep32 = s.ep32 := by rw [hsoft]; rfl
    refine ⟨l, ((s.irqEdge pg b).1.record c k v p q r).2, ?_, hlen, hpage⟩
    change (s.raise pg b).notifies = _
    rw [hraise, ← hep, ← notifies_irqEdge s pg b, ← hl]
    rfl
  · change (s.raise pg b).notifies = _
    rw [raise_quiet (hnewly.trans h), notifies_irqEdge]

end Sys2Proof.Machine
end

section
/-! PROOFS. Sessions (R64, R65) and their NOTIFY datagrams (R74, R75): a handshake, a session's time-out, the records
sent. -/

namespace Sys2Proof.Machine
open Sys2Proof

/-- An accepted handshake of an identity without a session ends none and opens one (R65). -/
theorem execDtlsHandshake_new {s : State} {p : Port} {i : Ident} {o : Offer} (haccept : s.accepts p i o = true)
    (hnew : ∀ x ∈ s.sessions, x.ident ≠ i) : let u := s.useIdent i
    execDtlsHandshake p i o s =
      .next { u with sessions := u.sessions ++ [⟨u.nextSid, i, p, u.tb, [], []⟩], nextSid := u.nextSid + 1 } := by
  have hnone : s.sessions.filter (fun x => x.ident == i) = [] := List.filter_eq_nil_iff.mpr fun x hx => by simp [hnew x hx]
  simp only [execDtlsHandshake, happen, haccept, hnone, Bool.not_true, Bool.false_eq_true, if_false, List.map_nil,
    List.foldl_nil]

theorem execSessionTimeout_open {s : State} {sid : Nat} {x : Session} (hopen : s.session sid = some x) :
    execSessionTimeout sid s = .next (if s.passedMs x.lastReq 60000 then s.endSession sid else s) := by
  simp only [execSessionTimeout, happen, hopen]

/-! ## NOTIFY -/

theorem length_notifyInsert (r : NotifyRec) (l : List NotifyRec) : (notifyInsert r l).length = l.length + 1 := by
  induction l with
  | nil => rfl
  | cons x l ih =>
    unfold notifyInsert
    split
    · rfl
    · rw [List.length_cons, ih, List.length_cons]

theorem length_notifySort (l : List NotifyRec) : (notifySort l).length = l.length := by
  have hfold : ∀ (m a : List NotifyRec), (m.foldl (fun a r => notifyInsert r a) a).length = a.length + m.length := by
    intro m
    induction m with
    | nil => intro a; rfl
    | cons r m ih => intro a; rw [List.foldl_cons, ih, length_notifyInsert, List.length_cons]; omega
  exact (hfold l []).trans (Nat.zero_add _)

/-- 1 to 64 records fit one datagram (R75). -/
theorem chunks64_one {l : List NotifyRec} (hne : l ≠ []) (hlen : l.length ≤ 64) : chunks64 l.length l = [l] := by
  obtain ⟨k, hk⟩ := Nat.exists_eq_succ_of_ne_zero (List.length_pos_iff.mpr hne).ne'
  have hdone : chunks64 k [] = [] := by cases k <;> rfl
  rw [hk, chunks64, if_neg hne, List.take_of_length_le hlen, List.drop_of_length_le hlen, hdone]

/-- A datagram to a session whose identity is kept. -/
theorem notifyTo_kept {s : State} {x : Session} {y : IdState} (h : s.idents.find? (fun z => z.ident == x.ident) = some y)
    (l : List NotifyRec) : s.notifyTo x l = (s.modIdent x.ident (fun z => { z with dseq := y.dseq + 1 })).emit
      (.notify x.sid (wrapHeader 3 (16 * l.length) 0 (y.dseq + 1).toNat 0 l.length ++ l.flatMap NotifyRec.bytes)) := by
  have hany : s.idents.any (fun z => z.ident == x.ident) = true :=
    List.any_eq_true.mpr ⟨y, List.mem_of_find?_eq_some h, List.find?_some (p := fun z : IdState => z.ident == x.ident) h⟩
  simp only [State.notifyTo, if_pos hany, h]

/-- With one open session and 1 to 64 records due, it gets them all in one datagram. -/
theorem execNotifySend_one {s : State} {x : Session} (hup : s.sup.restarting = false) (hone : s.sessions = [x])
    (hdue : s.notifies ≠ []) (hlen : s.notifies.length ≤ 64) :
    execNotifySend s = .next (State.notifyTo { s with notifies := [] } x (notifySort s.notifies)) := by
  have hsort := length_notifySort s.notifies
  have hne : notifySort s.notifies ≠ [] := by
    rw [← List.length_pos_iff, hsort]; exact List.length_pos_iff.mpr hdue
  simp only [execNotifySend, happen, hup, hone, chunks64_one hne (hsort.trans_le hlen), Bool.false_eq_true, if_false,
    List.foldl_cons, List.foldl_nil]

/-- Settles O19: the handshake, the time-out by the end of the session, the records by the datagram to the one session. -/
theorem sessionsOpenAndEnd : Obligations.SessionsOpenAndEnd := by
  unfold Obligations.SessionsOpenAndEnd
  refine ⟨fun s p i o haccept hnew => execDtlsHandshake_new haccept hnew, fun s sid x hopen => execSessionTimeout_open hopen,
    ?_⟩
  intro s x y hup hone hkept hdue hlen
  refine (execNotifySend_one hup hone hdue hlen).trans ?_
  rw [notifyTo_kept (s := { s with notifies := [] }) hkept]
  rfl

end Sys2Proof.Machine
end

section
/-! PROOFS. The frames of an epoch on the ring (R88, R91, R93, R100, R102, R103, R105): what TRIG_SEND, COLLECT_SEND and
READ_SEND send, and what a returning frame does. -/

namespace Sys2Proof.Machine
open Sys2Proof

/-- RUN and SPLIT are the states of a running ring (Table 5.13). -/
theorem ringRuns_iff {s : State} {n : Ch} :
    s.ringRuns n = true ↔ s.get (F.RING_STAT_STATE n) = 5 ∨ s.get (F.RING_STAT_STATE n) = 6 := by
  simp [State.ringRuns]

/-! ## Frames out of several ports -/

/-- Messages emitted one after another stand behind the outbox in their order. -/
theorem foldl_emit {α : Type} (f : α → OutMsg) (l : List α) (s : State) :
    l.foldl (fun t x => t.emit (f x)) s = { s with outbox := s.outbox ++ l.map f } := by
  induction l generalizing s with
  | nil => rw [List.map_nil, List.append_nil]; rfl
  | cons x l ih => rw [List.foldl_cons, ih, outbox_emit, List.append_assoc]; rfl

/-- Frames sent one after another all carry the sequence number of the sampled epoch: sending changes no channel. -/
theorem foldl_sendFrame (n : Ch) (op addr : Nat) (payload : List Byte) (l : List (Side × Nat)) (s : State) :
    l.foldl (fun t p => t.sendFrame n p op addr payload) s = { s with outbox := s.outbox ++ l.map (fun p =>
      .ringFrame n p.1 (frameBytes op p.2 addr (s.ch n).pour.epoch payload)) } := by
  induction l generalizing s with
  | nil => rw [List.map_nil, List.append_nil]; rfl
  | cons p l ih => rw [List.foldl_cons, ih, State.sendFrame, outbox_emit, ch_emit, List.append_assoc]; rfl

theorem execTrigSend_running {s : State} {n : Ch} (hrun : (s.splitEnter n).ringRuns n = true)
    (hon : ((s.splitEnter n).ch n).pour.on = true) : let u := s.splitEnter n
    execTrigSend n s = .next { u with outbox := u.outbox ++ (u.ports n).map (fun p =>
      OutMsg.ringFrame n p.1 (trigBytes p.2 u.ep)) } :=
  congrArg _ ((if_pos ⟨hrun, hon⟩).trans (foldl_emit _ _ _))

theorem execCollectSend_sampled {s : State} {n : Ch} (hrun : s.ringRuns n = true) (hon : (s.ch n).pour.on = true)
    (hsampled : (s.ch n).pour.sampled = true) :
    let l := (s.ports n).map (fun p => OutMsg.ringFrame n p.1 (frameBytes 2 p.2 0xFF (s.ch n).pour.epoch []))
    execCollectSend n s = .next { s with outbox := s.outbox ++ l } :=
  congrArg _ ((if_pos ⟨hrun, hon, hsampled⟩).trans (foldl_sendFrame _ _ _ _ _ _))

/-! ## READ_SEND -/

section
variable {s : State} {n : Ch} (hrun : s.ringRuns n = true) (hsampled : (s.ch n).pour.sampled = true)
  (hopen : (s.ch n).pour.closed = false)
include hrun hsampled hopen

/-- The one re-collect of a break goes first, out of the first master port (R103). -/
theorem execReadSend_recollect (hdue : (s.ch n).ring.recollectDue = true)
    (htime : s.endsBySweep n (16 + 56 * s.tiles n) = true) {p : Side × Nat} {l : List (Side × Nat)}
    (hports : (s.modRing n (fun r => { r with recollectDue := false })).ports n = p :: l) :
    execReadSend n s = .next (((s.modRing n (fun r => { r with recollectDue := false })).sendFrame n p 2 0xFF []).incSat
      (F.RING_ERRCNT_RECOLLECT n)) := by
  simp only [execReadSend, happen, hrun, hsampled, hopen, hdue, htime, hports, Bool.not_true, Bool.false_eq_true, or_self,
    if_true, if_false]

/-- Without one due, a READ of the first missing tile (R103). -/
theorem execReadSend_missing (hdue : (s.ch n).ring.recollectDue = false) (hcollected : (s.ch n).ring.collected = true)
    (hreads : (s.ch n).ring.reads < s.get (F.RING_CTRL_RETRY_MAX n)) (htime : s.endsBySweep n 72 = true) {k : Nat}
    {l : List Nat} {p : Side × Nat} (hmissing : s.missing n = k :: l) (hport : s.portOf n k = some p) :
    execReadSend n s = .next (((s.sendFrame n p 3 k []).incSat (F.RING_ERRCNT_READS n)).modRing n (fun r =>
      { r with reads := r.reads + 1, readTiles := r.readTiles ++ [k] })) := by
  simp only [execReadSend, happen, hrun, hsampled, hopen, hdue, hcollected, htime, hmissing, hport, Nat.not_le.mpr hreads,
    Bool.not_true, Bool.false_eq_true, or_self, if_false]

end

/-! ## Returning frames -/

/-- What a frame whose checks hold does on a running ring, by its opcode (Tables 5.2, 5.5). -/
def State.returned (s : State) (n : Ch) (r : RxFrame) : State :=
  match r.op with
  | 2 => ((chunks56 r.count r.blocks).foldl (fun t b => t.dataBlock n b) s).collectSeen n
  | 3 => (chunks56 r.count r.blocks).foldl (fun t b => t.dataBlock n b) s
  | 4 => s.writeReturn n r
  | 5 => s.statusCrc n r
  | 8 => s.statusCrc n r
  | _ => s

section
variable {s : State} {n : Ch} {side : Side} {l : List Byte} (hrun : s.ringRuns n = true) (htrig : trigOk l = false)
include hrun htrig

theorem frameReturn_unchecked (hparse : parseFrame l = none) :
    s.frameReturn n side l = (s.incSat (F.RING_ERRCNT_CRC n)).collectSeen n := by
  have hstate := ringRuns_iff.mp hrun
  rw [State.frameReturn, if_neg (by omega), if_neg (by simp [hrun]), if_neg (by simp [htrig]), hparse]

/-- WRAPADDR is judged before the blocks (R108). -/
theorem frameReturn_checked {r : RxFrame} (hparse : parseFrame l = some r) :
    s.frameReturn n side l = (if r.wrap = 0 then s else s.wrapSeen n side r.wrap).returned n r := by
  have hstate := ringRuns_iff.mp hrun
  rw [State.frameReturn, if_neg (by omega), if_neg (by simp [hrun]), if_neg (by simp [htrig]), hparse]
  rfl

end

/-- Settles O29: the sent frames by what the ports send one after another, a returned frame by its opcode. -/
theorem sweepFrames : Obligations.SweepFrames := by
  unfold Obligations.SweepFrames
  refine ⟨fun s n => execTrigSend_running, fun s n => execCollectSend_sampled, ?_, ?_⟩
  · intro s n hrun hsampled hopen
    refine ⟨fun hdue htime p l hports => execReadSend_recollect hrun hsampled hopen hdue htime hports, ?_⟩
    intro hdue hcollected hreads htime k l p hmissing hport
    exact execReadSend_missing hrun hsampled hopen hdue hcollected hreads htime hmissing hport
  · intro s n side l v hrun htrig
    refine ⟨fun hparse => congrArg _ (frameReturn_unchecked hrun htrig hparse), ?_⟩
    intro r hparse u
    have hexec : exec (.frameReturn n side l) s = .next (u.returned n r) :=
      congrArg _ (frameReturn_checked hrun htrig hparse)
    refine ⟨fun hop => ?_, fun hop => ?_, fun hop => ?_, fun hop => ?_⟩
    · simp only [hexec, State.returned, hop]
    · simp only [hexec, State.returned, hop]
    · simp only [hexec, State.returned, hop]
    · rcases hop with hop | hop <;> simp only [hexec, State.returned, hop]

end Sys2Proof.Machine
end

section
/-! PROOFS. The ring start (R95 to R100): each state of the start by the test in front of its work. -/

namespace Sys2Proof.Machine
open Sys2Proof

/-- A RESTART in ISOLATED within the ranges begins a start (Table 5.12). -/
theorem doRingCtrl_restart {s : State} {n : Ch} {v : Word} (htopo : bitsOf v 5 4 ≤ 1) (hlow : bitsOf v 3 0 ≤ 3)
    (hrestart : bit v 31 = true) (hiso : s.chState n = stISOLATED) :
    s.doRingCtrl n v = (.ok, (s.setReg (R.RING_CTRL n) (v &&& 0x133)).ringStart n) := by
  simp only [State.doRingCtrl, if_neg (show ¬ (1 < bitsOf v 5 4 ∨ 3 < bitsOf v 3 0) by omega), hrestart, hiso, ne_eq,
    not_true_eq_false, and_false, if_false, if_true]

theorem bit_or_restart (w : Word) : bit (w ||| 0x80000000) 31 = true := by simp [bit]

theorem not_passedMs_iff {s : State} {t ms : Nat} : (!s.passedMs t ms) = true ↔ s.tb - t < ms * 1000000 := by
  simp [State.passedMs]

/-! ## Enumeration (R95, R96) -/

/-- How often in a row the count of the returned ENUM has been the same. -/
def State.enumRun (s : State) (n : Ch) (k : Nat) : Nat :=
  if (s.ch n).ring.enumSame ≠ 0 ∧ (s.ch n).ring.enumCount = k then (s.ch n).ring.enumSame + 1 else 1

/-- The state that remembers the returned ENUM's count. -/
def State.enumSeen (s : State) (n : Ch) (k : Nat) : State :=
  s.modRing n (fun r => { r with enumCount := k, enumSame := s.enumRun n k })

/-- The serials of an accepted enumeration, tile by tile (R97). -/
def State.serialsStored (s : State) (n : Ch) (l : List EnumBlock) : State :=
  (List.range l.length).foldl (fun t i => match l[i]? with | some b => t.serialCheck n (i + 1) b.serial | none => t) s

section
variable {s : State} {n : Ch} {l : List EnumBlock} {far : Bool} (hstate : s.get (F.RING_STAT_STATE n) = 2)
include hstate

/-- Before the third agreeing ENUM and within 2 s the next one follows. -/
theorem execEnum_unsettled (hrun : s.enumRun n l.length < 3) (htime : s.tb - (s.ch n).ring.enumT0 < 2000000000) :
    execEnum n l far s = .next ((s.enumSeen n l.length).enumSend n) := by
  have hearly : (!(s.enumSeen n l.length).passedMs (s.ch n).ring.enumT0 2000) = true := by
    rw [not_passedMs_iff]; exact htime
  exact congrArg _ ((if_neg (not_not.mpr hstate)).trans (if_pos ⟨hrun, hearly⟩))

variable (hrun : 3 ≤ s.enumRun n l.length)
include hrun

/-- The third agreeing ENUM is judged, whatever the time; an error fails the start (R96). -/
theorem execEnum_error (herr : (s.enumSeen n l.length).enumErr n l far true ≠ 0) : execEnum n l far s =
    .next ((s.enumSeen n l.length).ringFail n ((s.enumSeen n l.length).enumErr n l far true)) := by
  have hstable : decide (3 ≤ s.enumRun n l.length) = true := decide_eq_true hrun
  rw [← hstable] at herr ⊢
  exact congrArg _ ((if_neg (not_not.mpr hstate)).trans ((if_neg fun h => Nat.not_le.mpr h.1 hrun).trans (if_pos herr)))

/-- Without an error serials and populations are stored, and the microcode check begins (R96, R97). -/
theorem execEnum_accepted (herr : (s.enumSeen n l.length).enumErr n l far true = 0) :
    execEnum n l far s = .next ((((((s.enumSeen n l.length).serialsStored n l).modRing n (fun r =>
      { r with pops := l.map (·.cells), mcTries := 0 })).put (F.RING_STAT_TILES n) l.length).put (F.RING_STAT_CELLS n)
        ((l.map (·.cells)).foldl (· + ·) 0)).ringEnter n 3 |>.mcSend n) := by
  have hstable : decide (3 ≤ s.enumRun n l.length) = true := decide_eq_true hrun
  rw [← hstable] at herr
  exact congrArg _ ((if_neg (not_not.mpr hstate)).trans ((if_neg fun h => Nat.not_le.mpr h.1 hrun).trans
    (if_neg (not_not.mpr herr))))

end

/-! ## Delay measurement (R99, R100) -/

/-- The start as a delay set leaves it once D and the tables are set, the holds written and the confirmed ones kept. -/
def State.delaysSet (s : State) (n : Ch) (m : DelayMeas) (c : List Bool) : State :=
  (((s.put (F.RING_DELAY_D_NS n) (measD m)).setTables n m).holdSend n).holdsConfirm n (fun k => c.getD k false)

section
variable {s : State} {n : Ch} {m : DelayMeas} {c : List Bool} (hstate : s.get (F.RING_STAT_STATE n) = 4)
include hstate

theorem execDelaySetDone_long (hlong : 12000 < measD m) : execDelaySetDone n ⟨m, c⟩ s = .next (s.ringFail n 8) :=
  congrArg _ ((if_neg (not_not.mpr hstate)).trans (if_pos hlong))

variable (hshort : measD m ≤ 12000)
include hshort

theorem execDelaySetDone_confirmed (hall : ∀ k, k < (s.delaysSet n m c).tiles n → c.getD k false = true) :
    execDelaySetDone n ⟨m, c⟩ s = .next ((s.delaysSet n m c).ringUp n) :=
  congrArg _ ((if_neg (not_not.mpr hstate)).trans ((if_neg (Nat.not_lt.mpr hshort)).trans
    (if_pos (List.all_eq_true.mpr fun k hk => hall k (List.mem_range.mp hk)))))

theorem execDelaySetDone_waiting (hsome : ∃ k, k < (s.delaysSet n m c).tiles n ∧ c.getD k false = false) :
    execDelaySetDone n ⟨m, c⟩ s = .next (s.delaysSet n m c) := by
  obtain ⟨k, hk, hno⟩ := hsome
  have hwait : ¬ (List.range ((s.delaysSet n m c).tiles n)).all (fun k => c.getD k false) = true := fun h =>
    Bool.false_ne_true (hno.symm.trans (List.all_eq_true.mp h k (List.mem_range.mpr hk)))
  exact congrArg _ ((if_neg (not_not.mpr hstate)).trans ((if_neg (Nat.not_lt.mpr hshort)).trans (if_neg hwait)))

end

/-- Settles O31: each state of the start by the test in front of its work, which the hypotheses decide. -/
theorem ringStartCommands : Obligations.RingStartCommands := by
  unfold Obligations.RingStartCommands
  refine ⟨fun _ _ => rfl, ?_, ?_, ?_, ?_, ?_, ?_⟩
  · intro s src n v u hgate htopo hlow hiso
    change answer (s.gated _ _ _ _ _) = _
    rw [gated_ok hgate, doRingCtrl_restart htopo hlow (bit_or_restart _) hiso, answer_ok]
  · intro s n hstate hdue
    exact congrArg _ (if_pos ⟨hstate, decide_eq_true hdue⟩)
  · intro s n l far hstate r same u
    exact ⟨execEnum_unsettled hstate, execEnum_error hstate, execEnum_accepted hstate⟩
  · intro s n crcs hstate ok
    refine ⟨fun hok => ?_, fun hbad htries => ?_, fun hbad htries => ?_⟩
    · exact congrArg _ ((if_neg (not_not.mpr hstate)).trans (if_pos hok))
    · exact congrArg _ ((if_neg (not_not.mpr hstate)).trans ((if_neg hbad).trans (if_neg (Nat.not_le.mpr htries))))
    · exact congrArg _ ((if_neg (not_not.mpr hstate)).trans ((if_neg hbad).trans (if_pos htries)))
  · intro s n m c hstate
    refine ⟨execDelaySetDone_long hstate, ?_⟩
    intro hshort u v
    refine ⟨fun hall => ?_, fun hsome => ?_⟩
    · exact execDelaySetDone_confirmed hstate hshort hall
    · exact execDelaySetDone_waiting hstate hshort hsome
  · intro s n hstate hdue
    exact congrArg _ (if_pos ⟨hstate, decide_eq_true hdue⟩)

end Sys2Proof.Machine
end

section
/-! PROOFS. The running ring (R101, R104, R107 to R109, R112): the command window, background sets, breaks and the rejoin. -/

namespace Sys2Proof.Machine
open Sys2Proof

/-! ## The command window (R104) -/

/-- The ports that a frame leaves: every master port for all tiles, else the one that reaches its tile. -/
def State.portsFor (s : State) (n : Ch) (f : CmdFrame) : List (Side × Nat) :=
  if f.addr = 0xFF then s.ports n else (s.portOf n f.addr).toList

/-- A WR_REG is tracked until it has returned to each of its ports (R105). -/
def State.track (s : State) (n : Ch) (f : CmdFrame) (k : Nat) : State :=
  if f.op = 4 then s.modRing n (fun r => { r with sent := r.sent ++ [⟨f, k, []⟩] }) else s

theorem execCommandFrameSend_next {s : State} {n : Ch} {t : Nat} {f : CmdFrame} (hrun : s.ringRuns n = true)
    (htime : s.winTime = some t) (hnext : s.nextFrame n t = some f) :
    let u := s.modRing n (fun r => { r with queue := dropFrame f r.queue })
    execCommandFrameSend n s = .next ((u.portsFor n f).foldl (fun v p => v.sendFrame n p f.op f.addr f.payload)
      (u.track n f (u.portsFor n f).length)) := by
  simp only [execCommandFrameSend, happen, hrun, htime, hnext, Bool.not_true, Bool.false_eq_true, if_false]
  rfl

/-! ## Background and rejoin sets (R101, R112) -/

section
variable {s : State} {n : Ch} {m : DelayMeas} (hwindows : (s.ch n).ring.probes = 0)
include hwindows

/-- In RUN an agreeing set is accepted. -/
theorem execBackgroundSetDone_agrees (hstate : s.get (F.RING_STAT_STATE n) = 5) (hset : (s.ch n).ring.bgActive = true)
    (hagrees : s.setAgrees n m = true) :
    execBackgroundSetDone n (m.tBack, m.tBdep) m.tiles s = .next (s.acceptSet n m) :=
  congrArg _ ((if_neg (not_not.mpr hwindows)).trans ((if_pos ⟨hstate, hset⟩).trans (if_pos hagrees)))

/-- In RUN another set is counted, and the third in a row marks DELAY_FAULT. -/
theorem execBackgroundSetDone_rejected (hstate : s.get (F.RING_STAT_STATE n) = 5) (hset : (s.ch n).ring.bgActive = true)
    (hother : s.setAgrees n m = false) :
    let u := (s.modRing n (fun r => { r with rejects := r.rejects + 1, probes := 16 })).raise (pgRING n) 5
    execBackgroundSetDone n (m.tBack, m.tBdep) m.tiles s = .next (if 3 ≤ (s.ch n).ring.rejects + 1
      then (u.putB (F.RING_STAT_DELAY_FAULT n) true).ringFaultShow n else u) :=
  congrArg _ ((if_neg (not_not.mpr hwindows)).trans ((if_pos ⟨hstate, hset⟩).trans
    (if_neg (Bool.eq_false_iff.mp hother))))

/-- In SPLIT an agreeing set unwraps the bordering tiles. -/
theorem execBackgroundSetDone_rejoins (hstate : s.get (F.RING_STAT_STATE n) = 6) (hset : (s.ch n).ring.rejoinSet = true)
    (hagrees : s.setAgrees n m = true) :
    execBackgroundSetDone n (m.tBack, m.tBdep) m.tiles s = .next ((s.acceptSet n m).unwrapQueue n) := by
  have hsplit : ¬ (s.get (F.RING_STAT_STATE n) = 5 ∧ (s.ch n).ring.bgActive = true) := fun h => by omega
  exact congrArg _ ((if_neg (not_not.mpr hwindows)).trans ((if_neg hsplit).trans ((if_pos ⟨hstate, hset⟩).trans
    (if_pos hagrees))))

end

/-! ## Links and breaks (R95, R107, R108) -/

theorem linkBreak_starting {s : State} {n : Ch} (hlo : 1 ≤ s.get (F.RING_STAT_STATE n))
    (hhi : s.get (F.RING_STAT_STATE n) ≤ 4) (a b : Nat) : s.linkBreak n a b = s.ringFail n 2 := if_pos ⟨hlo, hhi⟩

theorem linkBreak_running {s : State} {n : Ch} (hrun : s.ringRuns n = true) (a b : Nat) :
    s.linkBreak n a b = s.breakSeen n a b :=
  (if_neg fun h => by have := ringRuns_iff.mp hrun; omega).trans (if_pos (ringRuns_iff.mp hrun))

theorem breakSeen_first {s : State} {n : Ch} (h : s.breakNow n = none) (a b : Nat) :
    s.breakSeen n a b = s.locate_ n a b := by simp only [State.breakSeen, h, reduceCtorEq, if_false]

/-- The break in force is not located anew. -/
theorem breakSeen_same {s : State} {n : Ch} {a b : Nat} (h : s.breakNow n = some (a, b)) : s.breakSeen n a b = s := by
  simp only [State.breakSeen, h, min_self, max_self, if_true]

/-! ## SPLIT and the rejoin (R109, R112) -/

/-- A located break is entered when its epoch's TRIG leaves at least 20 us after the location. -/
theorem splitEnter_due {s : State} {n : Ch} {t a b : Nat} (hbreak : (s.ch n).ring.breakAt = some (t, a, b))
    (hstate : s.get (F.RING_STAT_STATE n) = 5) (hearly : s.inEpoch ≤ 100000) (htrig : 20000 ≤ s.trigTb n - (t : Int)) :
    s.splitEnter n = ((((((s.put (F.RING_STAT_STATE n) 6).putB (F.RING_BREAK_SPLIT n) true).put
      (F.RING_BREAK_POS_A n) a).put (F.RING_BREAK_POS_B n) b)).modRing n (fun r =>
        { r with breakAt := none, goodEpochs := 0 })) := by
  have hdue : ¬ (s.get (F.RING_STAT_STATE n) ≠ 5 ∨ 100000 < s.inEpoch ∨ s.trigTb n - (t : Int) < 20000) := by omega
  simp only [State.splitEnter, hbreak, if_neg hdue]

/-- The ring in RUN again behind a rejoin: no split, no wrap, and the 1,000 epochs of the background set begin anew. -/
def State.rejoined (s : State) (n : Ch) : State :=
  let u := (((s.put (F.RING_STAT_STATE n) 5).putB (F.RING_BREAK_SPLIT n) false).put (F.RING_BREAK_POS_A n) 0).put
    (F.RING_BREAK_POS_B n) 0
  u.modRing n (fun r =>
    { r with unwrapAt := none, unwrapOk := [], wrapA := false, wrapB := false, goodEpochs := 0, bgSince := u.ep })

theorem execRejoin_confirmed {s : State} {n : Ch} {e : Nat} {ca cb : Bool} (hact : (s.ch n).ring.unwrapAt = some e)
    (hcome : 0 ≤ sdiff 48 s.ep e) (hstate : s.get (F.RING_STAT_STATE n) = 6)
    (ha : s.unwrapped n (s.get (F.RING_BREAK_POS_A n)) ca = true)
    (hb : s.unwrapped n (s.get (F.RING_BREAK_POS_B n)) cb = true) :
    execRejoin n ca cb s = .next (((s.rejoined n).raise (pgRING n) 3).logReg (pgRING n) 0x024) := by
  have hdue : ¬ (s.get (F.RING_STAT_STATE n) ≠ 6 ∨ sdiff 48 s.ep e < 0) := by omega
  simp only [execRejoin, happen, hact, if_neg hdue, ha, hb, Bool.and_self, Bool.not_true, Bool.false_eq_true, if_false]
  rfl

/-- Settles O32: each command by the test in front of its work, which the hypotheses decide. -/
theorem ringRunCommands : Obligations.RingRunCommands := by
  unfold Obligations.RingRunCommands
  refine ⟨fun s n t f => execCommandFrameSend_next, ?_, ?_, ?_, ?_, ?_, fun _ _ => ⟨rfl, rfl⟩, ?_, ?_, ?_, ?_⟩
  · intro s n hstate hidle hepochs
    exact congrArg _ (if_pos ⟨hstate, by rw [hidle]; rfl, hepochs⟩)
  · intro s n m hstate hset hwindows
    exact ⟨execBackgroundSetDone_agrees hwindows hstate hset, execBackgroundSetDone_rejected hwindows hstate hset⟩
  · intro s n m hstate hset hwindows hagrees
    exact execBackgroundSetDone_rejoins hwindows hstate hset hagrees
  · intro s n u hused
    exact congrArg _ (if_neg (Bool.eq_false_iff.mp hused))
  · intro s n u hused
    exact congrArg _ (if_neg (Bool.eq_false_iff.mp hused))
  · intro s n a b
    exact ⟨fun hlo hhi => congrArg _ (linkBreak_starting hlo hhi a b), fun hrun =>
      ⟨congrArg _ (linkBreak_running hrun a b), fun h => breakSeen_first h a b, breakSeen_same⟩⟩
  · intro s n t a b hbreak hstate hearly htrig
    exact congrArg _ (splitEnter_due hbreak hstate hearly htrig)
  · intro s n hstate hgood hidle hnone
    exact congrArg _ (if_pos ⟨hstate, hgood, by rw [hidle]; rfl, by rw [hnone]; rfl⟩)
  · intro s n e ca cb hact hcome hstate ha hb
    exact execRejoin_confirmed hact hcome hstate ha hb

end Sys2Proof.Machine
end

section
/-! PROOFS. Reads of the epoch FIFO (R134, R135, R139, R141): what one read of FIFO.DATA changes, and many in a row. -/

namespace Sys2Proof.Machine
open Sys2Proof

/-! ## Addresses of the page (Tables 7.5 to 7.9) -/

theorem fifoPtr_apart (n : Ch) :
    R.FIFO_PTR n ∉ irqRegs (pgFIFO n) ∧ R.FIFO_PTR n ≠ R.FIFO_STAT n ∧ R.FIFO_PTR n ≠ R.FIFO_LEVEL n := by
  decide +revert

theorem fifoStat_apart (n : Ch) :
    R.FIFO_STAT n ∉ irqRegs (pgFIFO n) ∧ R.FIFO_STAT n ≠ R.FIFO_PTR n ∧ R.FIFO_STAT n ≠ R.FIFO_ECC n := by
  decide +revert

theorem locate_fifoData (n : Ch) :
    hdr (pgFIFO n) 0x034 % 4 = 0 ∧ locate (hdr (pgFIFO n) 0x034) = .page (pgFIFO n) 0x034 := by
  decide +kernel +revert

/-! ## What the parts of a read leave -/

/-- The registers of the shared pages but EVT's sources, the sessions and the supplies stand as they were. -/
def sharedKept (s t : State) : Prop :=
  t.sessions = s.sessions ∧ t.sup = s.sup ∧ ∀ a, a < 0x100000 → a ∉ irqOf pgEVT → t.reg a = s.reg a

theorem sharedKept.refl (s : State) : sharedKept s s := ⟨rfl, rfl, fun _ _ _ => rfl⟩

theorem sharedKept.trans {s t u : State} (h1 : sharedKept s t) (h2 : sharedKept t u) : sharedKept s u := by
  obtain ⟨hses, hsup, hreg⟩ := h1
  obtain ⟨hses', hsup', hreg'⟩ := h2
  exact ⟨hses'.trans hses, hsup'.trans hsup, fun a ha hb => (hreg' a ha hb).trans (hreg a ha hb)⟩

theorem sharedKept.ite {s t u : State} {c : Prop} [Decidable c] (h1 : sharedKept s t) (h2 : sharedKept s u) :
    sharedKept s (if c then t else u) := by split <;> assumption

theorem sharedKept_put (s : State) {n : Ch} {f : RF} {k : Nat} (v : Nat) (h : f.addr = chBase n + k) :
    sharedKept s (s.put f v) :=
  ⟨rfl, rfl, fun a ha _ => reg_put_ne s f v a (by rw [h]; unfold chBase; omega)⟩

theorem sharedKept_modFifo (s : State) (n : Ch) (f : FifoS → FifoS) : sharedKept s (s.modFifo n f) :=
  ⟨rfl, rfl, fun _ _ _ => rfl⟩

theorem sharedKept_raise_fifo (s : State) (n : Ch) (b : Nat) : sharedKept s (s.raise (pgFIFO n) b) := by
  refine ⟨sessions_raise s _ b, sup_raise s _ b, fun a ha hb => reg_raise_ne s _ b a ?_⟩
  have hraw : 0x100000 ≤ R.IRQ_RAW (pgFIFO n) := by decide +revert
  have hpend : 0x100000 ≤ R.IRQ_PEND (pgFIFO n) := by decide +revert
  simp only [irqOf, irqRegs, pgEVT, List.mem_cons, List.not_mem_nil, or_false, not_or] at hb ⊢
  omega

theorem sharedKept_logReg (s : State) (pg : PageRef) (o : Nat) : sharedKept s (s.logReg pg o) :=
  ⟨sessions_logReg s pg o, sup_logReg s pg o, fun a _ hb => reg_logReg_ne s pg o a hb⟩

/-- Who may reach a page hangs on the sessions, the supplies, the mode and the provisioning (R48, R375). -/
theorem reachable_of_sharedKept {s t : State} (h : sharedKept s t) (src : Src) (pg : PageRef) :
    t.reachable src pg = s.reachable src pg := by
  obtain ⟨hses, hsup, hreg⟩ := h
  have hmode : t.mode = s.mode := get_congr s t _ (hreg _ (by decide) (by decide))
  have hprov : t.get F.SEC_STAT_PROV = s.get F.SEC_STAT_PROV := get_congr s t _ (hreg _ (by decide) (by decide))
  unfold State.reachable State.session
  rw [hses, hsup, hmode, hprov]

/-- The correction of a word changes its counts and the sources (R141). -/
theorem reg_eccRead_ne (s : State) (n : Ch) (p : Nat) {a : Nat} (hecc : a ≠ R.FIFO_ECC n)
    (hirq : a ∉ irqRegs (pgFIFO n)) : (s.eccRead n p).reg a = s.reg a := by
  have hevt : a ∉ irqRegs ⟨.evt, 0⟩ := fun h => hirq (by
    simp only [irqRegs, List.mem_cons, List.not_mem_nil, or_false] at h ⊢
    omega)
  unfold State.eccRead State.eccFound
  split
  · split
    · rw [reg_modFifo, reg_incSat_ne s _ a hecc]
    · rw [reg_logReg_ne _ _ _ _ hevt, reg_raise_ne _ _ _ _ hirq, reg_incSat_ne s _ a hecc]
  · rfl

theorem sharedKept_eccRead (s : State) (n : Ch) (p : Nat) : sharedKept s (s.eccRead n p) := by
  unfold State.eccRead State.eccFound
  split
  · refine .ite ?_ ?_
    · exact (sharedKept_put _ _ rfl).trans (sharedKept_modFifo _ _ _)
    · exact ((sharedKept_put _ _ rfl).trans (sharedKept_raise_fifo _ _ _)).trans (sharedKept_logReg _ _ _)
  · exact .refl _

@[simp] theorem ch_fifoShow (s : State) (n k : Ch) : (s.fifoShow n).ch k = s.ch k := by
  rw [State.fifoShow, ch_put, ch_put, ch_putB]

theorem reg_fifoShow_ne (s : State) (n : Ch) {a : Nat} (hstat : a ≠ R.FIFO_STAT n) (hlevel : a ≠ R.FIFO_LEVEL n) :
    (s.fifoShow n).reg a = s.reg a := by
  unfold State.fifoShow
  rw [reg_put_ne _ _ _ _ hlevel, reg_put_ne _ _ _ _ hstat, reg_putB_ne _ _ _ _ hstat]

theorem sharedKept_fifoShow (s : State) (n : Ch) : sharedKept s (s.fifoShow n) :=
  ((sharedKept_put _ _ rfl).trans (sharedKept_put _ _ rfl)).trans (sharedKept_put _ _ rfl)

theorem lastWord_fifoFlushed (s : State) (n : Ch) : ((s.fifoFlushed n).ch n).fifo.lastWord = (s.ch n).fifo.lastWord := by
  rw [State.fifoFlushed, ch_fifoShow, ch_fifo_modFifo, ch_putB, ch_putB, ch_put]

theorem sharedKept_fifoFlushed (s : State) (n : Ch) : sharedKept s (s.fifoFlushed n) :=
  ((((sharedKept_put _ _ rfl).trans (sharedKept_put _ _ rfl)).trans (sharedKept_put _ _ rfl)).trans
    (sharedKept_modFifo _ _ _)).trans (sharedKept_fifoShow _ _)

/-- After a reset of the FIFO the word last returned is 0 (R135). -/
theorem lastWord_fifoReset (s : State) (n : Ch) : ((s.fifoReset n).ch n).fifo.lastWord = 0 := by
  rw [State.fifoReset]
  simp only [List.foldl_cons, List.foldl_nil]
  rw [ch_setReg, ch_setReg, ch_setReg, ch_setReg, ch_setReg, ch_fifo_modFifo, FifoS.reset]

/-! ## A read at the committed end (R135) -/

/-- The underrun of channel n's FIFO. -/
def State.underrun (s : State) (n : Ch) : State := (s.putB (F.FIFO_STAT_UNDERRUN n) true).raise (pgFIFO n) 2

theorem readFifo_empty {s : State} {n : Ch} (h : s.rptr n = s.wptr n) :
    s.readFifo n = (s.underrun n, (s.ch n).fifo.lastWord) := if_pos h

@[simp] theorem ch_underrun (s : State) (n k : Ch) : (s.underrun n).ch k = s.ch k := by
  rw [State.underrun, ch_raise, ch_putB]

theorem reg_underrun_ptr (s : State) (n : Ch) : (s.underrun n).reg (R.FIFO_PTR n) = s.reg (R.FIFO_PTR n) := by
  obtain ⟨hirq, hstat, -⟩ := fifoPtr_apart n
  rw [State.underrun, reg_raise_ne _ _ _ _ hirq, reg_putB_ne _ _ _ _ hstat]

theorem rptr_underrun (s : State) (n : Ch) : (s.underrun n).rptr n = s.rptr n := get_congr _ _ _ (reg_underrun_ptr s n)

theorem wptr_underrun (s : State) (n : Ch) : (s.underrun n).wptr n = s.wptr n := get_congr _ _ _ (reg_underrun_ptr s n)

theorem flag_underrun (s : State) (n : Ch) : (s.underrun n).flag (F.FIFO_STAT_UNDERRUN n) = true := by
  rw [State.flag, State.underrun, get_raise_ne _ _ _ _ (fifoStat_apart n).1]
  exact flag_putB_same s _ true ⟨by decide +revert, by decide +revert⟩

theorem irqRaw_underrun (s : State) (n : Ch) : bit ((s.underrun n).reg (R.IRQ_RAW (pgFIFO n))) 2 = true := by
  have hraw : (s.underrun n).reg (R.IRQ_RAW (pgFIFO n)) = _ :=
    (reg_raise_own (o := 0x00C) (by decide +revert) (by decide)).trans (reg_irqEdge_raw _ _ _)
  rw [hraw]
  simp [bit]

theorem sharedKept_underrun (s : State) (n : Ch) : sharedKept s (s.underrun n) :=
  (sharedKept_put _ _ rfl).trans (sharedKept_raise_fifo _ _ _)

/-! ## A read of a committed word (R134, R139, R141) -/

/-- The word at the read pointer as SECDED gives it (R141). -/
def State.fifoHead (s : State) (n : Ch) : Word := flipped ((s.ch n).fifo.flipAt (s.rptr n)) (s.fifoWord n (s.rptr n))

/-- The state with the word at the read pointer taken, before the registers show it. -/
def State.fifoTaken (s : State) (n : Ch) : State :=
  let f := (s.ch n).fifo
  let len := if f.headLeft = 0 then s.lenAt n (s.rptr n) else f.headLen
  ((s.eccRead n (s.rptr n)).put (F.FIFO_PTR_RPTR n) ((s.rptr n + 1) % 65536)).modFifo n (fun g =>
    { g with headLen := len, headLeft := (if f.headLeft = 0 then len else f.headLeft) - 1, lastWord := s.fifoHead n })

theorem lastWord_fifoTaken (s : State) (n : Ch) : ((s.fifoTaken n).ch n).fifo.lastWord = s.fifoHead n := by
  rw [State.fifoTaken, ch_fifo_modFifo]

/-- A word is taken; behind the last one of a frame a pending flush is done (R139). -/
theorem readFifo_word {s : State} {n : Ch} (h : s.rptr n ≠ s.wptr n) :
    s.readFifo n = (if ((s.fifoTaken n).ch n).fifo.headLeft = 0 ∧ (s.fifoTaken n).flag (F.FIFO_STAT_FLUSH_PEND n)
      then (s.fifoTaken n).fifoFlushed n else (s.fifoTaken n).fifoShow n, s.fifoHead n) := by
  have hleft : ((s.fifoTaken n).ch n).fifo.headLeft =
      (if (s.ch n).fifo.headLeft = 0 then
        (if (s.ch n).fifo.headLeft = 0 then s.lenAt n (s.rptr n) else (s.ch n).fifo.headLen)
      else (s.ch n).fifo.headLeft) - 1 := by
    rw [State.fifoTaken, ch_fifo_modFifo]
  rw [hleft]
  exact if_neg h

theorem lastWord_readFifo {s : State} {n : Ch} (h : s.rptr n ≠ s.wptr n) :
    ((s.readFifo n).1.ch n).fifo.lastWord = s.fifoHead n := by
  rw [readFifo_word h]
  dsimp only
  split
  · rw [lastWord_fifoFlushed, lastWord_fifoTaken]
  · rw [ch_fifoShow, lastWord_fifoTaken]

theorem flushPend_fifoTaken (s : State) (n : Ch) :
    (s.fifoTaken n).flag (F.FIFO_STAT_FLUSH_PEND n) = s.flag (F.FIFO_STAT_FLUSH_PEND n) := by
  obtain ⟨hirq, hptr, hecc⟩ := fifoStat_apart n
  have hreg : (s.fifoTaken n).reg (R.FIFO_STAT n) = s.reg (R.FIFO_STAT n) := by
    rw [State.fifoTaken, reg_modFifo, reg_put_ne _ _ _ _ hptr, reg_eccRead_ne s n _ hecc hirq]
  rw [State.flag, get_congr _ _ (F.FIFO_STAT_FLUSH_PEND n) hreg, ← State.flag]

theorem rptr_fifoTaken (s : State) (n : Ch) : (s.fifoTaken n).rptr n = (s.rptr n + 1) % 65536 := by
  have hfield : (F.FIFO_PTR_RPTR n).ok := ⟨by decide +revert, by decide +revert⟩
  rw [State.rptr, State.fifoTaken, get_modFifo, get_put_same _ _ _ hfield]
  exact Nat.mod_mod_of_dvd _ (dvd_refl 65536)

/-- Without a pending flush the read pointer moves on by one (R134). -/
theorem rptr_readFifo {s : State} {n : Ch} (h : s.rptr n ≠ s.wptr n) (hpend : s.flag (F.FIFO_STAT_FLUSH_PEND n) = false) :
    (s.readFifo n).1.rptr n = (s.rptr n + 1) % 65536 := by
  obtain ⟨-, hstat, hlevel⟩ := fifoPtr_apart n
  rw [readFifo_word h, flushPend_fifoTaken, hpend, if_neg (by simp), ← rptr_fifoTaken]
  exact get_congr _ _ _ (reg_fifoShow_ne _ n hstat hlevel)

theorem sharedKept_readFifo (s : State) (n : Ch) : sharedKept s (s.readFifo n).1 := by
  have htaken : sharedKept s (s.fifoTaken n) :=
    ((sharedKept_eccRead _ _ _).trans (sharedKept_put _ _ rfl)).trans (sharedKept_modFifo _ _ _)
  by_cases h : s.rptr n = s.wptr n
  · rw [readFifo_empty h]; exact sharedKept_underrun s n
  · rw [readFifo_word h]; exact .ite (htaken.trans (sharedKept_fifoFlushed _ _)) (htaken.trans (sharedKept_fifoShow _ _))

/-! ## FIFO.DATA by command and by address -/

theorem execFifoDataRead_reached {s : State} {src : Src} {n : Ch} (h : s.reachable src (pgFIFO n) = .ok) :
    execFifoDataRead src n s = .next ((s.readFifo n).1.doneRead (s.readFifo n).2) := by
  rw [execFifoDataRead, readAs_ok h]
  rfl

/-- A read at the address of FIFO.DATA takes a word (R134). -/
theorem readAddr_fifoData {s : State} {src : Src} {n : Ch} (h : s.reachable src (pgFIFO n) = .ok) :
    s.readAddr src (hdr (pgFIFO n) 0x034) = (.ok, s.readFifo n) := by
  have hpmc : s.pmcReadable src (pgFIFO n) = .ok := by cases src <;> rfl
  obtain ⟨halign, hloc⟩ := locate_fifoData n
  have hfind : ∃ d, findReg (pgFIFO n).page 0x034 = some (d, 0) ∧ d.off = 0x034 := ⟨_, rfl, rfl⟩
  obtain ⟨d, hfind, hoff⟩ := hfind
  rw [readAddr_page halign hloc]
  simp only [State.readReg, h, hpmc, hfind, hoff]
  rfl

/-- The words of a read of FIFO.DATA again and again are those of single reads: the reads do not change who may read. -/
theorem readWords_fifoData {src : Src} {n : Ch} (m : Nat) {s : State} (h : s.reachable src (pgFIFO n) = .ok)
    (acc : List Word) : s.readWords src (List.replicate m (hdr (pgFIFO n) 0x034)) acc =
      (.ok, (fifoReads n m s).1, acc.reverse ++ (fifoReads n m s).2) := by
  induction m generalizing s acc with
  | zero => simp [State.readWords, fifoReads]
  | succ m ih =>
    have hnext := (reachable_of_sharedKept (sharedKept_readFifo s n) src (pgFIFO n)).trans h
    simp only [List.replicate_succ, State.readWords, readAddr_fifoData h, ih hnext, fifoReads, List.reverse_cons,
      List.append_assoc, List.singleton_append]

theorem length_fifoReads (n : Ch) (m : Nat) (s : State) : (fifoReads n m s).2.length = m := by
  induction m generalizing s with
  | zero => rfl
  | succ m ih => simp only [fifoReads, List.length_cons, ih]

theorem execReadRepeat_fifoData {s : State} {src : Src} {n : Ch} (h : s.reachable src (pgFIFO n) = .ok) (m : Nat) :
    execReadRepeat src (hdr (pgFIFO n) 0x034) m s =
      .next { (fifoReads n m s).1 with last := ⟨.ok, m, false, 0, (fifoReads n m s).2⟩ } := by
  obtain ⟨halign, hloc⟩ := locate_fifoData n
  have haddr : addrStatus (hdr (pgFIFO n) 0x034) = .ok := by
    simp only [addrStatus, halign, hloc, ne_eq, not_true_eq_false, if_false]
  have hnone : ((List.replicate m (hdr (pgFIFO n) 0x034)).map addrStatus).find? (· != .ok) = none := by
    simp [haddr]
  simp only [execReadRepeat, State.readOp, hnone, readWords_fifoData m h, List.reverse_nil, List.nil_append,
    length_fifoReads, answerOp]

/-- From the committed end every read repeats the word last returned (R135). -/
theorem fifoReads_empty {n : Ch} (m : Nat) {s : State} (h : s.rptr n = s.wptr n) :
    (fifoReads n m s).2 = List.replicate m (s.ch n).fifo.lastWord ∧ (fifoReads n m s).1.rptr n = s.rptr n := by
  induction m generalizing s with
  | zero => exact ⟨rfl, rfl⟩
  | succ m ih =>
    obtain ⟨hwords, hptr⟩ := ih (s := s.underrun n) (by rw [rptr_underrun, wptr_underrun, h])
    simp only [fifoReads, readFifo_empty h, hwords, hptr, ch_underrun, rptr_underrun, List.replicate_succ, and_self]

/-- Settles O54: the underrun, the word taken and the reset, then the words of READ_REPEAT by induction on their number. -/
theorem fifoUnderrunRepeats : Obligations.FifoUnderrunRepeats := by
  unfold Obligations.FifoUnderrunRepeats
  refine ⟨fun s src n hreach hempty => ?_, fun s src n hreach hword => ?_, lastWord_fifoReset,
    fun s src n m hreach => execReadRepeat_fifoData hreach m, fun s n m => fifoReads_empty m⟩
  · have hexec : exec (.fifoDataRead src n) s = _ := execFifoDataRead_reached hreach
    rw [readFifo_empty hempty] at hexec
    exact ⟨s.underrun n, hexec, rptr_underrun s n, wptr_underrun s n, by rw [ch_underrun], flag_underrun s n,
      irqRaw_underrun s n⟩
  · have hexec : exec (.fifoDataRead src n) s = _ := execFifoDataRead_reached hreach
    exact ⟨(s.readFifo n).1, hexec.trans (by rw [readFifo_word hword]; rfl), lastWord_readFifo hword⟩

end Sys2Proof.Machine
end

section
/-! PROOFS. The commands of FIFO.CMD behind its gate (R137 to R139). -/

namespace Sys2Proof.Machine
open Sys2Proof

/-- The command bits of FIFO.CMD (Table 7.4). -/
theorem doFifoCmd_mark (s : State) (n : Ch) : s.doFifoCmd n 1 = s.doMark n := rfl
theorem doFifoCmd_rewind (s : State) (n : Ch) : s.doFifoCmd n 2 = s.doRewind n := rfl
theorem doFifoCmd_flush (s : State) (n : Ch) : s.doFifoCmd n 4 = s.doFlush n := rfl
theorem doFifoCmd_clrmark (s : State) (n : Ch) : s.doFifoCmd n 8 = s.doClrmark n := rfl

/-- MARK between frames (R137). -/
theorem doMark_between {s : State} {n : Ch} (h : (s.ch n).fifo.headLeft = 0) :
    s.doMark n = (.ok, ((s.put (F.FIFO_LEVEL_MARK n) (s.rptr n)).putB (F.FIFO_STAT_MARK_VALID n) true).putB
      (F.FIFO_STAT_MARK_LOST n) false) := if_neg (not_not_intro h)

/-- REWIND to a mark that is valid and not lost, with no flush pending (R137). -/
theorem doRewind_valid {s : State} {n : Ch} (hvalid : s.flag (F.FIFO_STAT_MARK_VALID n) = true)
    (hlost : s.flag (F.FIFO_STAT_MARK_LOST n) = false) (hpend : s.flag (F.FIFO_STAT_FLUSH_PEND n) = false) :
    s.doRewind n = (.ok, ((s.put (F.FIFO_PTR_RPTR n) (s.get (F.FIFO_LEVEL_MARK n))).modFifo n (fun f =>
      { f with headLeft := 0, headLen := 0 })).fifoShow n) := if_neg (by simp [hvalid, hlost, hpend])

/-- Settles O21: behind the gate each value is its command; a read answers as `readFifo` does. -/
theorem fifoCommands : Obligations.FifoCommands := by
  unfold Obligations.FifoCommands
  refine ⟨?_, fun s src n hreach => ?_⟩
  · intro s src n u
    refine ⟨fun hgate hbetween => ?_, fun hgate hvalid hlost hpend => ?_, fun hgate => ?_, fun hgate => ?_⟩
    · change answer (s.gated _ _ _ _ _) = _
      rw [gated_ok hgate, doFifoCmd_mark, doMark_between hbetween, answer_ok]
    · change answer (s.gated _ _ _ _ _) = _
      rw [gated_ok hgate, doFifoCmd_rewind, doRewind_valid hvalid hlost hpend, answer_ok]
    · change answer (s.gated _ _ _ _ _) = _
      rw [gated_ok hgate, doFifoCmd_flush, State.doFlush, answer_ok]
    · change answer (s.gated _ _ _ _ _) = _
      rw [gated_ok hgate, doFifoCmd_clrmark, State.doClrmark, answer_ok]
  · have hexec : exec (.fifoDataRead src n) s = _ := execFifoDataRead_reached hreach
    refine ⟨fun hempty => ?_, fun hword => ⟨_, hexec, ?_, rptr_readFifo hword⟩⟩
    · rw [hexec, readFifo_empty hempty, State.underrun]
    · rw [readFifo_word hword, State.fifoHead, State.doneRead]

end Sys2Proof.Machine
end

section
/-! PROOFS. The protection's commands and events (R259, R260, R263 to R265, R267, R268, R270 to R273): connect and
disconnect, the reset of a trip, feedbacks, test pulses, degradation and the Crema checks. -/

namespace Sys2Proof.Machine
open Sys2Proof

/-! ## Commands behind the gate -/

/-- A connect request without a refusal begins step 1 of the precharge (R263, R264, Table 14.3). -/
theorem doConnect_accepted {s : State} {n : Ch} (h : s.connectRefused n = false) :
    let v := (((s.enterState n stPRECHARGE 0).put (F.CONT_STAT_STEP n) 1).putB (F.CONT_STAT_HOLD_NEG n) true).putB
      (F.CTLE_STAT_PRE_DONE n) false
    s.doConnect n = (.ok, ((v.modPour n (fun p => { p with preRun := 0 })).modSafe n
      (fun f => { f with stepAt := v.tb })).modCtle n (fun c => { c with irefPre := 0, feSince := none })) :=
  if_neg (by simp [h])

theorem doDisconnect_running {s : State} {n : Ch} (h : s.chState n = stPRECHARGE ∨ s.energised n = true) :
    s.doDisconnect n = (.ok, s.enterState n stSTOPPING 0x60) := by
  rw [State.doDisconnect, if_pos h]

/-- A trip whose cause is gone, 1 s after it, is reset (R270). -/
theorem doReset_met {s : State} {src : Src} {n : Ch} (htripped : s.chState n = stTRIPPED)
    (hservice : classS (s.get (F.SAFE_TRIPREC_CAUSE n)) = true → s.service src = true)
    (htime : 1000000000 ≤ s.tb - (s.ch n).safe.tripTb) (hopen : s.anyFb n = false) (hgone : s.tripPresent n = false)
    (hiso : (s.ch n).safe.isolating = false) :
    let v := (s.putB (F.CONT_STAT_INHIBIT n) (s.mode == mBOOT)).putB (F.CONT_STAT_TRIP_ON n) true
    s.doReset src n = (.ok, (v.modSafe n (fun f =>
      { f with tripAt := none, ocAt := none, ocPath := 0, holdOffAt := none })).enterState n stISOLATED 0) := by
  have hpriv : ¬ (classS (s.get (F.SAFE_TRIPREC_CAUSE n)) && !s.service src) = true := fun h => by
    obtain ⟨hclass, hnot⟩ := Bool.and_eq_true_iff.mp h
    simp [hservice hclass] at hnot
  have hpassed : s.passedMs (s.ch n).safe.tripTb 1000 = true := decide_eq_true htime
  refine (if_neg (not_not_intro htripped)).trans ((if_neg hpriv).trans (if_neg ?_))
  simp [hpassed, hopen, hgone, hiso]

theorem doDegAck_service {s : State} {src : Src} (n : Ch) (h : s.service src = true) :
    s.doDegAck src n = (.ok, s.putB (F.SAFE_DEG_STAT_EXPIRED n) false) := if_neg (by simp [h])

/-- The checks that ran are stopped, which is recorded (R273). -/
theorem doHlthCtrl_stop {s : State} {src : Src} (hservice : s.service src = true) (hrun : s.flag F.HLTH_CTRL_EN = true) :
    s.doHlthCtrl src 0 = (.ok, ((s.putB F.HLTH_CTRL_EN false).condUpdate).logReg pgHLTH 0x020) := by
  have hstop : (!bit (0 : Word) 0 && s.flag F.HLTH_CTRL_EN) = true := hrun
  exact (if_neg (by simp [hservice])).trans (congrArg _ (if_pos hstop))

/-! ## Events -/

/-- The feedbacks as they change, with the step and the state that they complete (R264, R265). -/
theorem execFbChange_eq (s : State) (n : Ch) (a b c : Bool) :
    let u := ((s.putB (F.CONT_STAT_FB_POS n) a).putB (F.CONT_STAT_FB_NEG n) b).putB (F.CONT_STAT_FB_PRE n) c
    let v := (u.preStep n).isolatedCheck n
    execFbChange n a b c s = .next (if v.anyFb n = false ∧ v.chState n ≠ stPRECHARGE ∧ v.chState n ≠ stSTOPPING
      then v.modSafe n (fun f => { f with holdOffAt := none }) else v) := by
  simp only [execFbChange, happen, Bool.not_eq_true']

/-- Within its 400 µs a source goes low, outside LOCKOUT (R259). -/
theorem execTestPulseStart_low {s : State} {n : Ch} {b : Bool} (hlock : s.chState n ≠ stLOCKOUT)
    (htime : s.sincePulse n b < 400000) :
    execTestPulseStart n b s = .next (s.modSafe n
      (fun f => if b then { f with pulseB := true } else { f with pulseA := true })) :=
  congrArg _ (if_neg (not_or_intro hlock (Nat.not_le.mpr htime)))

/-- After its 400 µs and before the next source's a pulse is judged line by line (R259). -/
theorem execTestPulse_ended {s : State} {n : Ch} {b : Bool} (hlock : s.chState n ≠ stLOCKOUT)
    (hlow : 400000 ≤ s.sincePulse n b) (hnext : s.sincePulse n b < 1250000) (h x l : BitVec 4) :
    execTestPulse n b h x l s = .next ([0, 1, 2, 3].foldl (fun t k => t.lineCheck n b h x l k)
      (s.modSafe n (fun f => if b then { f with pulseB := false } else { f with pulseA := false }))) :=
  congrArg _ (if_neg (not_or_intro hlock (not_or_intro (Nat.not_lt.mpr hlow) (Nat.not_le.mpr hnext))))

/-- A failed line that has passed 50 periods is good again (R260). -/
theorem execSiLineRestore_passed {s : State} {n : Ch} {k : Fin 4} {b : Bool}
    (hfail : s.getBit (if b then F.SAFE_SISTAT_FAULT_B n else F.SAFE_SISTAT_FAULT_A n) k.val = true)
    (hoff : s.chState n = stISOLATED ∨ s.chState n = stTRIPPED) (hpass : 50 ≤ nth (s.ch n).safe.linePass (lineIx k b)) :
    execSiLineRestore n k b s = .next (((s.putBit (if b then F.SAFE_SISTAT_FAULT_B n else F.SAFE_SISTAT_FAULT_A n) k.val
      false).logReg (pgSAFE n) 0x02C).siLineShow n) :=
  congrArg _ (if_pos ⟨hfail, hoff, hpass⟩)

/-- Settles O44: the commands behind their gates, then each event by the test in front of its work. -/
theorem protectionCommands : Obligations.ProtectionCommands := by
  unfold Obligations.ProtectionCommands
  refine ⟨?_, ?_, ?_, execFbChange_eq, ?_, ?_, ?_, ?_⟩
  · intro s src n u
    refine ⟨fun hgate hfree => ?_, fun hgate hrun => ?_⟩
    · change answer (s.gated _ _ _ _ _) = _
      rw [gated_ok hgate, doConnect_accepted hfree, answer_ok]
    · change answer (s.gated _ _ _ _ _) = _
      rw [gated_ok hgate, doDisconnect_running hrun, answer_ok]
  · intro s src n u
    refine ⟨fun hgate htripped hservice htime hopen hgone hiso => ?_, fun hgate hservice => ?_⟩
    · change answer (s.gated _ _ _ _ _) = _
      rw [gated_ok hgate, doReset_met htripped hservice htime hopen hgone hiso, answer_ok]
    · change answer (s.gated _ _ _ _ _) = _
      rw [gated_ok hgate, doDegAck_service n hservice, answer_ok]
  · intro s src u hgate hservice hrun
    change answer (s.gated _ _ _ _ _) = _
    rw [gated_ok hgate, doHlthCtrl_stop hservice hrun, answer_ok]
  · intro s n hlock
    exact ⟨fun htime => execTestPulseStart_low hlock htime, fun htime => execTestPulseStart_low hlock htime,
      fun b h x l hlow hnext => execTestPulse_ended hlock hlow hnext h x l⟩
  · intro s n k b fld u hfail hoff hpass
    exact execSiLineRestore_passed hfail hoff hpass
  · intro s n hstate hdue
    exact congrArg _ (if_pos ⟨hstate, hdue⟩)
  · intro s r hrun hbad
    have hon : ¬ (!s.flag F.HLTH_CTRL_EN) = true := by simp [hrun]
    obtain ⟨kind, bad, chans⟩ := r
    obtain rfl : bad = true := hbad
    refine ⟨?_, ?_, ?_, ?_, ?_, ?_, ?_⟩ <;> (rintro rfl; exact congrArg _ (if_neg hon))

end Sys2Proof.Machine
end

section
/-! PROOFS. Cell integrity and balancing (R146, R149, R152, R158, R159): the commands of CDIAG, the automatic run and
the host's duties. -/

namespace Sys2Proof.Machine
open Sys2Proof

/-! ## CDIAG.CMD -/

/-- CLEAR of an open channel ends the latched suspicions and tests their taps again (R152). -/
theorem doCdiagCmd_clear {s : State} {n : Ch} (h : s.chState n = stISOLATED ∨ s.chState n = stLOCKOUT) :
    s.doCdiagCmd n 1 = (.ok, s.suspClear n) := by
  have hclear : bit 1 0 = true := by decide
  have hforce : bit 1 1 = false := by decide
  simp only [State.doCdiagCmd, hclear, hforce, Bool.and_false, Bool.false_eq_true, if_false, if_true, if_pos h]

/-- The number in `forceWord`, which the modulus of the word does not cut. -/
theorem toNat_forceWord (tile tap : Nat) :
    (forceWord tile tap).toNat = tile % 32 * 2 ^ 24 + tap % 32 * 2 ^ 16 + 2 := by
  rw [forceWord, BitVec.toNat_ofNat]
  omega

theorem bitsOf_forceWord_tile {tile : Nat} (h : tile < 32) (tap : Nat) : bitsOf (forceWord tile tap) 28 24 = tile := by
  rw [bitsOf, toNat_forceWord]
  omega

theorem bitsOf_forceWord_tap (tile : Nat) {tap : Nat} (h : tap < 32) : bitsOf (forceWord tile tap) 20 16 = tap := by
  rw [bitsOf, toNat_forceWord]
  omega

theorem bit_forceWord_clear (tile tap : Nat) : bit (forceWord tile tap) 0 = false := by
  rw [bit_eq_testBit, toNat_forceWord, Nat.testBit_eq_decide_div_mod_eq, decide_eq_false_iff_not]
  omega

theorem bit_forceWord_force (tile tap : Nat) : bit (forceWord tile tap) 1 = true := by
  rw [bit_eq_testBit, toNat_forceWord, Nat.testBit_eq_decide_div_mod_eq, decide_eq_true_iff]
  omega

/-- FORCE with a tile of the channel and a tap of that tile is tested in the tile's next slot (R146, Table 8.10). -/
theorem doCdiagCmd_force {s : State} {n : Ch} {tile tap : Nat} (hfirst : 1 ≤ tile) (hlast : tile ≤ s.tiles n)
    (htile : tile < 32) (htap : tap < 32) (hpop : tap ≤ s.pop n tile) :
    s.doCdiagCmd n (forceWord tile tap) = (.ok, s.owForce n tile tap 1) := by
  have hlegal : ¬ (tile = 0 ∨ s.tiles n < tile ∨ s.pop n tile < tap) := by omega
  simp only [State.doCdiagCmd, bit_forceWord_clear, bit_forceWord_force, bitsOf_forceWord_tile htile,
    bitsOf_forceWord_tap tile htap, Bool.false_and, Bool.false_eq_true, if_false, if_true, if_neg hlegal]

/-! ## Balancing -/

/-- The AUTO run, the first or 1,000 epochs after the last one, writes the automatic duties (R158). -/
theorem execBalAutoRun_due {s : State} {n : Ch} (hrun : s.balRuns n = true) (hauto : (s.ch n).bal.modeNow = 1)
    (hdue : (s.ch n).bal.autoAt = none ∨
      ∃ e, (s.ch n).bal.autoAt = some e ∧ 1000 ≤ (sdiff 48 s.ep e).natAbs) :
    execBalAutoRun n s = .next (s.modBal n (fun q => { q with duty := s.balAuto n, autoAt := some s.ep })) := by
  obtain hfirst | ⟨e, hlast, hpassed⟩ := hdue
  · simp [execBalAutoRun, happen, hrun, hauto, hfirst]
  · simp [execBalAutoRun, happen, hrun, hauto, hlast, hpassed]

/-- A legal HCMD in HOST mode sets the masked cells of its tile, 0 where a cell is absent or suspect, and notes when
they lapse (R159). -/
theorem doHcmd_legal {s : State} {n : Ch} {v : Word} (hhost : (s.ch n).bal.modeNow = 2) (hfirst : 1 ≤ bitsOf v 31 24)
    (hlast : bitsOf v 31 24 ≤ s.tiles n) (hduty : bitsOf v 23 16 ≤ 160) :
    let on (i : Nat) : Bool := decide (i / 16 + 1 = bitsOf v 31 24) && bit v (i % 16)
    let q (i : Nat) : Nat := (s.ch n).pour.deliv.cellQ.getD i 4
    s.doHcmd n v = (.ok, s.modBal n (fun b => { b with
      duty := (List.range (16 * s.tiles n)).map (fun i =>
        if on i then (if q i = 4 ∨ q i = 3 then 0 else bitsOf v 23 16) else nth b.duty i)
      hset := b.hset.filter (fun h => !on h.1) ++ ((List.range (16 * s.tiles n)).filter on).map (fun i =>
        (i, s.tb + 1000000000 * s.get (F.BAL_HOST_TMO_S n))) })) :=
  (if_neg (not_not_intro hhost)).trans (if_neg (by omega))

/-- A host duty whose time has come lapses: its cell receives 0 (R159). -/
theorem execBalHcmdLapse_due {s : State} {n : Ch} {tile cell i t : Nat}
    (hset : (s.ch n).bal.hset.find? (fun h => h.1 == 16 * (tile - 1) + cell) = some (i, t)) (hdue : t ≤ s.tb) :
    execBalHcmdLapse n tile cell s = .next (s.modBal n (fun q => { q with
      hset := q.hset.filter (fun x => x.1 != 16 * (tile - 1) + cell)
      duty := setAt 0 q.duty (16 * (tile - 1) + cell) 0 })) := by
  simp only [execBalHcmdLapse, happen, hset, if_pos hdue]

/-- Settles O33: each command by its legal write behind the gate, each event by the time that has passed. -/
theorem integrityAndBalancing : Obligations.IntegrityAndBalancing := by
  unfold Obligations.IntegrityAndBalancing
  refine ⟨?_, ?_, fun s n => execBalAutoRun_due, ?_, fun s n tile cell i t => execBalHcmdLapse_due⟩
  · intro s src n u hgate hopen
    change answer (s.gated _ _ _ _ _) = _
    rw [gated_ok hgate, doCdiagCmd_clear hopen, answer_ok, State.suspClear]
  · intro s src n tile tap u hgate hfirst hlast htile htap hpop
    change answer (s.gated _ _ _ _ _) = _
    rw [gated_ok hgate, doCdiagCmd_force hfirst hlast htile htap hpop, answer_ok]
  · intro s src n v u tile on q hgate hhost hfirst hlast hduty
    change answer (s.gated _ _ _ _ _) = _
    rw [gated_ok hgate, doHcmd_legal hhost hfirst hlast hduty, answer_ok]

end Sys2Proof.Machine
end

section
/-! PROOFS. The current control's own events (R165 to R169, R174, R179, R183 to R185): the sample, lateness and stage
faults, the precharge, the bank swap, injection and capture. -/

namespace Sys2Proof.Machine
open Sys2Proof

/-! ## The sample (R165, R167, R169) -/

/-- The state that a sample with the values `j` judges: its head has run, and a connect at step 6 is done (R264). -/
def State.sampleState (s : State) (n : Ch) (j : CtleIn) : State :=
  let h := ((s.modCtle n (fun c => { c with lateRun := 0 })).injStopCheck n).ctleHead n j
  if h.chState n = stPRECHARGE ∧ h.get (F.CONT_STAT_STEP n) = 6 then
    (h.connectDone n).modProf n (fun p => { p with curOn := false }) else h

section
variable {s : State} {n : Ch} {i : CtleIn} (hmode : s.mode ≠ mDECAF)
include hmode

theorem ctleSample_inhibited (hinh : (s.sampleState n (s.ctleIn n i)).inhibited n = true) :
    s.ctleSample n i = ((s.sampleState n (s.ctleIn n i)).pwmOff n).injTick n :=
  (if_neg hmode).trans (if_pos hinh)

variable (hfree : (s.sampleState n (s.ctleIn n i)).inhibited n = false)
include hfree

/-- A sample that is not inhibited goes by the regulated input and the bus voltage (R169, R173). -/
theorem ctleSample_free : s.ctleSample n i =
    match ((s.sampleState n (s.ctleIn n i)).iSel n (s.ctleIn n i)).1, (s.ctleIn n i).vBus with
    | some cur, some vb => ((s.sampleState n (s.ctleIn n i)).ctleRun n (s.ctleIn n i) cur vb).injTick n
    | none, _ => ((s.sampleState n (s.ctleIn n i)).pwmOff n).tripC n 0x0F
    | some _, none => (s.sampleState n (s.ctleIn n i)).pwmOff n :=
  (if_neg hmode).trans (if_neg (Bool.eq_false_iff.mp hfree))

theorem ctleSample_runs {cur vb : Int} (hcur : ((s.sampleState n (s.ctleIn n i)).iSel n (s.ctleIn n i)).1 = some cur)
    (hbus : (s.ctleIn n i).vBus = some vb) :
    s.ctleSample n i = ((s.sampleState n (s.ctleIn n i)).ctleRun n (s.ctleIn n i) cur vb).injTick n := by
  rw [ctleSample_free hmode hfree, hcur, hbus]

theorem ctleSample_noCurrent (hcur : ((s.sampleState n (s.ctleIn n i)).iSel n (s.ctleIn n i)).1 = none) :
    s.ctleSample n i = ((s.sampleState n (s.ctleIn n i)).pwmOff n).tripC n 0x0F := by
  rw [ctleSample_free hmode hfree, hcur]

theorem ctleSample_noBus {cur : Int} (hcur : ((s.sampleState n (s.ctleIn n i)).iSel n (s.ctleIn n i)).1 = some cur)
    (hbus : (s.ctleIn n i).vBus = none) : s.ctleSample n i = (s.sampleState n (s.ctleIn n i)).pwmOff n := by
  rw [ctleSample_free hmode hfree, hcur, hbus]

end

/-! ## Stage fault and precharge (R168, R183) -/

/-- A stage fault trips in PRECHARGE, CONNECTED, DERATED and STOPPING, and is only logged elsewhere (R168). -/
theorem execStageFault_new {s : State} {n : Ch} (hwas : (s.ch n).ctle.stageFault = false) :
    let u := ((s.modCtle n (fun c => { c with stageFault := true })).putB (F.CTLE_STAT_STAGE_FAULT n) true).pageFault
      (pgCTLE n) true
    let v := (u.pwmOff n).raise (pgCTLE n) 9
    execStageFault n true s = .next (if v.chState n = stPRECHARGE ∨ v.energised n ∨ v.chState n = stSTOPPING
      then v.tripC n 0x0D else v.logReg (pgCTLE n) 0x030) :=
  congrArg _ (if_pos (by simp [hwas]))

/-- The end of the FAULT pair's level does no more than end the indications. -/
theorem execStageFault_ended (s : State) (n : Ch) : execStageFault n false s = .next
    (((s.modCtle n (fun c => { c with stageFault := false })).putB (F.CTLE_STAT_STAGE_FAULT n) false).pageFault
      (pgCTLE n) false) := by
  simp only [execStageFault, happen, Bool.false_and, Bool.false_eq_true, if_false]

theorem execPloopFe_late {s : State} {n : Ch} {t : Nat} (hsince : (s.ch n).ctle.feSince = some t)
    (hpre : s.chState n = stPRECHARGE) (htime : s.coef n 0x06C * 1000000 ≤ ((s.tb - t : Nat) : Rat)) :
    execPloopFe n s = .next (((s.raise (pgCTLE n) 6).pwmOff n).tripC n 0x0C) := by
  simp only [execPloopFe, happen, hsince, if_pos (And.intro hpre htime)]

/-! ## Injection (R184) -/

section
variable {s : State} {n : Ch} {e : Nat} (hfrom : (s.ch n).ctle.injFrom = some e)
include hfrom

/-- At sample 0 of the epoch after START the injection begins; the capture that waits for it starts (Table 9.17). -/
theorem execInjBegin_due (hidle : (s.ch n).ctle.injOn = false) (hdue : 0 ≤ sdiff 48 s.ep e)
    (hconn : s.chState n = stCONNECTED) :
    execInjBegin n s = .next ((s.modCtle n (fun c => { c with
        injOn := true, injK := 0, injT0 := s.tb, injFrom := some s.ep
        cap := if s.flag (F.CTLE_CAP_STAT_ARMED n) ∧ s.get (F.CTLE_CAP_CTRL_TRIG n) = 1
          then { c.cap with started := true } else c.cap })).putB (F.CTLE_INJ_CTRL_ACTIVE n) true) := by
  have hbegins : ¬ ((s.ch n).ctle.injOn = true ∨ sdiff 48 s.ep e < 0) :=
    not_or_intro (Bool.eq_false_iff.mp hidle) (Int.not_lt.mpr hdue)
  simp only [execInjBegin, happen, hfrom, if_neg hbegins, if_neg (not_not_intro hconn)]

theorem execInjEnd_left (hleft : s.chState n ≠ stCONNECTED) :
    execInjEnd n s = .next ((s.putB (F.CTLE_INJ_CTRL_ABORT n) true).injFinish n) := by
  simp only [execInjEnd, happen, hfrom, if_pos hleft]

theorem execInjEnd_over (hconn : s.chState n = stCONNECTED) (hon : (s.ch n).ctle.injOn = true)
    (hover : (s.get (F.CTLE_INJ_CTRL_DURATION n) : Int) ≤ sdiff 48 s.ep e) :
    execInjEnd n s = .next (s.injFinish n) := by
  simp only [execInjEnd, happen, hfrom, if_neg (not_not_intro hconn), if_pos (And.intro hon hover)]

end

/-- Settles O34: the sample by its inhibit and its values, every other event by the test in front of its work. -/
theorem currentControlEvents : Obligations.CurrentControlEvents := by
  unfold Obligations.CurrentControlEvents
  refine ⟨?_, fun _ _ => rfl, fun _ _ => execStageFault_new, execStageFault_ended, ?_, fun _ _ _ => execPloopFe_late,
    ?_, ?_, ?_⟩
  · intro s n i hmode j h u
    exact ⟨fun hinh => congrArg Host.Outcome.next (ctleSample_inhibited hmode hinh),
      fun _ _ hfree hcur hbus => congrArg Host.Outcome.next (ctleSample_runs hmode hfree hcur hbus),
      fun hfree hcur => congrArg Host.Outcome.next (ctleSample_noCurrent hmode hfree hcur),
      fun _ hfree hcur hbus => congrArg Host.Outcome.next (ctleSample_noBus hmode hfree hcur hbus)⟩
  · intro s n hpre hstep hrun
    exact congrArg _ (if_pos ⟨hpre, hstep, hrun⟩)
  · intro s n hpend hdue
    exact congrArg _ (if_pos ⟨hpend, hdue⟩)
  · intro s n e hfrom
    exact ⟨execInjBegin_due hfrom, execInjEnd_left hfrom, execInjEnd_over hfrom⟩
  · intro s n hfull harmed
    exact congrArg _ (if_pos ⟨hfull, harmed⟩)

end Sys2Proof.Machine
end

section
/-! PROOFS. The current control's commands behind their gate (R177 to R179, R184 to R186): bank swap, ILOOP gains,
injection, capture and its data. -/

namespace Sys2Proof.Machine
open Sys2Proof

/-! ## Bank swap (R178, R179) -/

theorem doBankReq_consistent {s : State} {n : Ch} {atEpoch : Bool} (hidle : s.flag (F.CTLE_BANKSEL_PENDING n) = false)
    (hcross : s.crossFail n (1 - s.bank n) = none)
    (hahead : atEpoch = true → 1 ≤ sdiff 32 (s.reg (R.CTLE_SWAP_EPOCH n)).toNat s.ep32.toNat ∧
      sdiff 32 (s.reg (R.CTLE_SWAP_EPOCH n)).toNat s.ep32.toNat ≤ 60000) :
    s.doBankReq n atEpoch = (.ok, (s.putB (F.CTLE_BANKSEL_PENDING n) true).modCtle n (fun c => { c with
      swapAt := some (if atEpoch then (s.reg (R.CTLE_SWAP_EPOCH n)).toNat else s.swapSample n)
      swapEpoch := atEpoch })) := by
  simp only [State.doBankReq, hidle, hcross, if_neg (not_and_not_right.mpr hahead), Bool.false_eq_true, if_false]

theorem doBankCancel_eq (s : State) (n : Ch) : s.doBankCancel n = (.ok, if s.swapDue n then s
    else (s.putB (F.CTLE_BANKSEL_PENDING n) false).modCtle n (fun c => { c with swapAt := none })) :=
  (apply_ite (Prod.mk Status.ok) _ _ _).symm

/-! ## The ILOOP gains (R186) -/

theorem doGain_running {s : State} {n : Ch} (h : s.chState n ≠ stISOLATED) (ki : Bool) (v : Word) :
    s.doGain n ki v = refuse .state s := if_pos ⟨rfl, h⟩

/-- In ISOLATED an allowed value goes to the active bank (R177, R186). -/
theorem doGain_isolated {s : State} {n : Ch} {ki : Bool} {v : Word} {q : Rat} (hiso : s.chState n = stISOLATED)
    (hval : f32 v = some q) (hlo : (bankRange (if ki then 0x024 else 0x020)).1 ≤ q)
    (hhi : q ≤ (bankRange (if ki then 0x024 else 0x020)).2) :
    s.doGain n ki v = (.ok, s.setReg (bankAddr n (s.bank n) (if ki then 0x024 else 0x020)) v) := by
  have hrange := not_or_intro (not_lt.mpr hlo) (not_lt.mpr hhi)
  have hother : (if ki then 0x024 else 0x020) ≠ 0x05C := by cases ki <;> decide
  simp only [State.doGain, State.doCoef, hiso, hval, if_neg hrange, hother, ne_eq, not_true_eq_false, and_false,
    false_and, if_false]

/-! ## Injection (R184) -/

/-- The fields of an INJ_CTRL word as a write keeps them (Table 9.15). -/
def State.injFields (s : State) (n : Ch) (w : Word) : State :=
  ((s.put (F.CTLE_INJ_CTRL_POINT n) (bitsOf w 25 24)).put (F.CTLE_INJ_CTRL_MODE n) (bitsOf w 21 20)).put
    (F.CTLE_INJ_CTRL_DURATION n) (bitsOf w 15 0)

section
variable {s : State} {n : Ch} {w : Word} (hpoint : bitsOf w 25 24 ≤ 1) (hmin : 1 ≤ bitsOf w 15 0)
  (hmax : bitsOf w 15 0 ≤ 60000)
include hpoint hmin hmax

theorem injCtrl_legal : ¬ (1 < bitsOf w 25 24 ∨ bitsOf w 15 0 = 0 ∨ 60000 < bitsOf w 15 0) := by omega

/-- A START whose checks pass begins at the next epoch. -/
theorem doInjCtrl_start (hstart : bit w 31 = true) (hcheck : s.injCheck n w = .ok) (hstop : bit w 30 = false) :
    let y := if bit w 28 then (s.injFields n w).putB (F.CTLE_INJ_CTRL_ABORT n) false else s.injFields n w
    s.doInjCtrl n w = (.ok, y.modCtle n (fun c => { c with injFrom := some ((y.ep + 1) % 2 ^ 48) })) := by
  simp only [State.doInjCtrl, if_neg (injCtrl_legal hpoint hmin hmax), hstart, hcheck, hstop, if_true, ne_eq,
    not_true_eq_false, Bool.false_eq_true, false_and, if_false]
  rfl

/-- A STOP alone is noted for the next sample of an injection. -/
theorem doInjCtrl_stop (hstart : bit w 31 = false) (hstop : bit w 30 = true) (habort : bit w 28 = false) :
    s.doInjCtrl n w = (.ok, if ((s.injFields n w).ch n).ctle.injFrom.isSome
      then (s.injFields n w).modCtle n (fun c => { c with injStop := true }) else s.injFields n w) := by
  simp only [State.doInjCtrl, if_neg (injCtrl_legal hpoint hmin hmax), hstart, hstop, habort, ne_eq,
    not_true_eq_false, Bool.false_eq_true, true_and, if_false]
  rfl

end

theorem bit_injStopWord_start (s : State) (n : Ch) : bit (injStopWord s n) 31 = false := by simp [bit, injStopWord]
theorem bit_injStopWord_stop (s : State) (n : Ch) : bit (injStopWord s n) 30 = true := by simp [bit, injStopWord]
theorem bit_injStopWord_abort (s : State) (n : Ch) : bit (injStopWord s n) 28 = false := by simp [bit, injStopWord]

/-! ## Capture (R185) -/

theorem doCapCtrl_arm {s : State} {n : Ch} {w : Word} (hsigA : bitsOf w 27 24 ≤ 10) (hsigB : bitsOf w 19 16 ≤ 10)
    (hdecim : bitsOf w 15 8 ≠ 0) (htrig : bitsOf w 1 0 ≠ 3) (harm : bit w 31 = true) :
    let x := s.setReg (R.CTLE_CAP_CTRL n) (w &&& 0x0F0FFF03)
    s.doCapCtrl n w = (.ok, (x.setReg (R.CTLE_CAP_STAT n) 0x40000000).modCtle n (fun c =>
      { c with cap := { CapS.reset with epoch := x.ep } })) := by
  have hlegal : ¬ (10 < bitsOf w 27 24 ∨ 10 < bitsOf w 19 16 ∨ bitsOf w 15 8 = 0 ∨ bitsOf w 1 0 = 3) := by omega
  exact (if_neg hlegal).trans (if_pos harm)

section
variable {s : State} {n : Ch} (hdone : s.flag (F.CTLE_CAP_STAT_DONE n) = true)
include hdone

theorem readCapData_past (hpast : 8194 ≤ s.get (F.CTLE_CAP_STAT_RDIDX n)) : s.readCapData n = (.ok, s, 0) :=
  (if_neg (by simp [hdone])).trans (if_pos hpast)

/-- The epoch, the first sample's number, then the stored pairs (R185). -/
theorem readCapData_next (hleft : s.get (F.CTLE_CAP_STAT_RDIDX n) < 8194) :
    let i := s.get (F.CTLE_CAP_STAT_RDIDX n)
    let cp := (s.ch n).ctle.cap
    s.readCapData n = (.ok, s.put (F.CTLE_CAP_STAT_RDIDX n) (i + 1), if i = 0 then BitVec.ofNat 32 cp.epoch
      else if i = 1 then BitVec.ofNat 32 cp.first else cp.data.getD (i - 2) 0) :=
  (if_neg (by simp [hdone])).trans (if_neg (Nat.not_le.mpr hleft))

end

/-- Settles O35: behind the gate each word is its command, whose checks the hypotheses answer. -/
theorem currentControlCommands : Obligations.CurrentControlCommands := by
  unfold Obligations.CurrentControlCommands
  refine ⟨?_, ?_, ?_, ?_, ?_, ?_, ?_⟩
  · intro s src n atEpoch w u ahead t hgate hidle hcross hahead
    change answer (s.gated _ _ _ _ _) = _
    rw [gated_ok hgate, doBankReq_consistent hidle hcross hahead, answer_ok]
  · intro s src n u hgate
    change answer (s.gated _ _ _ _ _) = _
    rw [gated_ok hgate, doBankCancel_eq, answer_ok, apply_ite State.done]
  · intro s src n ki v off u c hgate
    refine ⟨fun hrun => ?_, fun q hiso hval hlo hhi => ?_⟩
    · change answer (s.gated _ _ _ _ _) = _
      rw [gated_ok hgate, doGain_running hrun, answer_refuse _ _ (by decide)]
    · change answer (s.gated _ _ _ _ _) = _
      rw [gated_ok hgate, doGain_isolated hiso hval hlo hhi, answer_ok]
  · intro s src n v w u hgate hpoint hmin hmax hcheck hstop x y
    change answer (s.gated _ _ _ _ _) = _
    rw [gated_ok hgate, doInjCtrl_start hpoint hmin hmax (bit_or_restart v) hcheck hstop, answer_ok]
    rfl
  · intro s src n w u hgate hpoint hmin hmax x
    change answer (s.gated _ _ _ _ _) = _
    rw [gated_ok hgate, doInjCtrl_stop hpoint hmin hmax (bit_injStopWord_start s n) (bit_injStopWord_stop s n)
      (bit_injStopWord_abort s n), answer_ok]
    rfl
  · intro s src n v w u hgate hsigA hsigB hdecim htrig x
    change answer (s.gated _ _ _ _ _) = _
    rw [gated_ok hgate, doCapCtrl_arm hsigA hsigB hdecim htrig (bit_or_restart v), answer_ok]
  · intro s src n hreach hdone i cp
    have hread : exec (.capDataRead src n) s = answerRead (s.readCapData n) :=
      readAs_ok hreach (fun t => t.readCapData n)
    exact ⟨fun hpast => by rw [hread, readCapData_past hdone hpast, answerRead_ok],
      fun hleft => by rw [hread, readCapData_next hdone hleft, answerRead_ok]⟩

end Sys2Proof.Machine
end

section
/-! PROOFS. The valve axis's own events (R183, R189, R196, R198 to R200, R203, R204): the evaluation, faults, the motor
supply, standstill, limit switches and the end of homing. -/

namespace Sys2Proof.Machine
open Sys2Proof

/-! ## The evaluation (R189, R198) -/

/-- What an evaluation takes in: the encoder's count and the drive's settings. -/
def State.vlvInput (s : State) (n : Ch) (c : Int) : State :=
  s.modVax n (fun x => { x with enc := c, drive := s.reg (R.VAX_DRIVE n) })

/-- The axis behind the steps of one evaluation, before its deviation is judged. -/
def State.vlvStepped (s : State) (n : Ch) : State :=
  (((if s.enabled (pgPROF n) then s.vlvReplan n else s).vlvStep n).devShow n).vlvDone n

theorem vlvEval_idle {s : State} {n : Ch} {c : Int} (h : (s.vlvInput n c).flag (F.VAX_STAT_ENERGISED n) = false ∨
    (s.vlvInput n c).get (F.VAX_STAT_FAULT n) ≠ 0) :
    s.vlvEval n c =
      (((s.vlvInput n c).modVax n (fun x => { x with vLast := 0 })).putB (F.VAX_STAT_MOVING n) false).devShow n := by
  have hidle : (!(s.vlvInput n c).flag (F.VAX_STAT_ENERGISED n) ||
      (s.vlvInput n c).get (F.VAX_STAT_FAULT n) != 0) = true := by simpa using h
  exact if_pos hidle

section
variable {s : State} {n : Ch} {c : Int} (hon : (s.vlvInput n c).flag (F.VAX_STAT_ENERGISED n) = true)
  (hok : (s.vlvInput n c).get (F.VAX_STAT_FAULT n) = 0)
include hon hok

theorem not_vlvIdle : ¬ (!(s.vlvInput n c).flag (F.VAX_STAT_ENERGISED n) ||
    (s.vlvInput n c).get (F.VAX_STAT_FAULT n) != 0) = true := by simp [hon, hok]

/-- A deviation inside the stall window, with no homing move to end, leaves the axis as its steps made it. -/
theorem vlvEval_near (hnear : absR (((s.vlvInput n c).vlvStepped n).vdev n) ≤
      (((s.vlvInput n c).vlvStepped n).get (F.VAX_ENC_STALL_WIN n) : Rat))
    (hphase : (((s.vlvInput n c).vlvStepped n).ch n).vax.phase = .none) :
    s.vlvEval n c = (s.vlvInput n c).vlvStepped n :=
  (if_neg (not_vlvIdle hon hok)).trans ((if_neg (not_lt.mpr hnear)).trans
    (if_neg fun hback => absurd (hphase.symm.trans hback.1) (by decide)))

/-- A deviation past the window stalls an axis that is not homing (Table 10.2). -/
theorem vlvEval_stall (hfar : (((s.vlvInput n c).vlvStepped n).get (F.VAX_ENC_STALL_WIN n) : Rat) <
      absR (((s.vlvInput n c).vlvStepped n).vdev n))
    (hhome : ((s.vlvInput n c).vlvStepped n).flag (F.VAX_STAT_HOMING n) = false) :
    s.vlvEval n c = ((s.vlvInput n c).vlvStepped n).axisFault n 1 :=
  (if_neg (not_vlvIdle hon hok)).trans ((if_pos hfar).trans
    (if_neg fun h => Bool.eq_false_iff.mp hhome h.1))

end

/-! ## Faults and the motor supply (R183, R199) -/

theorem execFe_late {s : State} {n : Ch} {t : Nat} (hsince : (s.ch n).vax.feSince = some t)
    (htime : s.coef n 0x08C * 1000000 ≤ ((s.tb - t : Nat) : Rat)) :
    execFe n s = .next ((s.raise (pgCTLE n) 6).axisFault n 2) := by
  simp only [execFe, happen, hsince, if_pos htime]

/-- A supply inside 20 V to 32 V ends an undervoltage and an overvoltage alike. -/
theorem execMotorSupplyRecover_inRange (s : State) {mv : Nat} (hlo : 20000 ≤ mv) (hhi : mv ≤ 32000) :
    execMotorSupplyRecover mv s = .next (s.eachCh (fun t n =>
      if (t.ch n).vax.supplyBad.isSome then t.modVax n (fun x => { x with supplyBad := none }) else t)) := by
  simp only [execMotorSupplyRecover, happen]
  congr 2
  funext t n
  cases (t.ch n).vax.supplyBad with
  | none => rfl
  | some ov => exact if_pos ⟨hlo, Or.inr hhi⟩

/-! ## Limit switches and homing (R200, R204) -/

theorem execLimitQualified_changed {s : State} {n : Ch} {hi : Bool} :
    let l := s.lim n hi
    let act := l.raw != s.flag (if hi then F.VAX_CTRL_POL_HI n else F.VAX_CTRL_POL_LO n)
    let f := if hi then F.VAX_STAT_LIM_HI n else F.VAX_STAT_LIM_LO n
    let u := (s.setLim n hi { l with active := act }).putB f (act || l.chatter)
    5000000 ≤ s.tb - l.since → act = !l.active →
      execLimitQualified n hi s = .next (if act then u.limitEdge n hi else u) := by
  intro l act f u hheld hnew
  have hpassed : s.passedMs l.since 5 = true := decide_eq_true hheld
  have hchanged : (act != l.active) = true := by rw [hnew]; cases l.active <;> rfl
  exact congrArg _ (if_pos (Bool.and_eq_true_iff.mpr ⟨hpassed, hchanged⟩))

/-- Sequence 3 takes the present position as the reference (Table 10.3). -/
theorem execHomeComplete_done {s : State} {n : Ch} (hhome : s.flag (F.VAX_STAT_HOMING n) = true)
    (hphase : (s.ch n).vax.phase = .done) :
    let u := ((s.homeMap n (s.vpos n)).vlvResync n).modVax n (fun x => { x with phase := .none })
    execHomeComplete n s =
      .next (((u.putB (F.VAX_STAT_HOMED n) true).putB (F.VAX_STAT_HOMING n) false).raise (pgVAX n) 2) := by
  simp only [execHomeComplete, happen, hhome, hphase, true_or, and_self, if_true]

/-- Settles O37: the evaluation by the axis's fitness and its deviation, every other event by the test in front of its
work. -/
theorem valveAxisEvents : Obligations.ValveAxisEvents := by
  unfold Obligations.ValveAxisEvents
  refine ⟨fun _ _ _ hidle => congrArg _ (vlvEval_idle hidle), ?_, fun s n t => execFe_late, ?_, ?_, fun _ _ => rfl,
    fun s mv => execMotorSupplyRecover_inRange s, ?_, fun _ _ _ _ => rfl, fun s n hi => execLimitQualified_changed,
    fun s n => execHomeComplete_done, ?_⟩
  · intro s n c u hon hok v x issued moving w z y d
    exact ⟨fun hnear hphase => congrArg _ (vlvEval_near hon hok hnear hphase),
      fun hfar hhome => congrArg _ (vlvEval_stall hon hok hfar hhome)⟩
  · intro s n hopen
    exact congrArg _ (if_neg hopen)
  · intro s n hon
    exact congrArg _ (if_pos hon)
  · intro s n hon hpassed
    exact congrArg _ (if_pos ⟨hon, decide_eq_true hpassed⟩)
  · intro s n hhome hpassed
    exact congrArg _ (if_pos ⟨hhome, decide_eq_true hpassed⟩)

end Sys2Proof.Machine
end

section
/-! PROOFS. Targets and limits (R190, R191, R193), the valve's stop, fault clear and homing (R199, R201, R202, R204),
and the end of a stop of the string current (R195, R265). -/

namespace Sys2Proof.Machine
open Sys2Proof

/-- A write that the gate lets through and its own rule accepts answers OK in the state that the rule makes. -/
theorem answer_gated_ok {s t : State} {src : Src} {pg : PageRef} {off : Nat} {v : Word} {f : State → Res}
    (hgate : (s.restartUnlock src pg off).gate src pg off v = .ok) (hwrite : f (s.restartUnlock src pg off) = (.ok, t)) :
    answer (s.gated src pg off v f) = .next t.done := by
  rw [gated_ok hgate, hwrite, answer_ok]

/-! ## Targets (R191, R193, R199, R201) -/

/-- A current target within the rating, on a channel that takes one from this source, waits for the next evaluation. -/
theorem doCurTarget_rated {s : State} {src : Src} {n : Ch} {v : Word}
    (hstate : s.chState n = stPRECHARGE ∨ s.energised n = true) (hpage : s.enabled (pgPROF n) = true)
    (hfree : src = .unit ∨ s.alloc.modeNow ≠ 1 ∨ s.member n = false)
    (hlo : -((s.get (F.CTLE_STAGE_IRATED n) : Int) * 1000) ≤ v.toInt)
    (hhi : v.toInt ≤ (s.get (F.CTLE_STAGE_IRATED n) : Int) * 1000) :
    s.doCurTarget src n v = (.ok, (s.modCtle n (fun c => { c with
      wrTarget := c.wrTarget ++ [(s.tb, s.reg (R.PROF_CUR_TARGET n))] })).setReg (R.PROF_CUR_TARGET n) v) := by
  have htakes : (s.chState n == stPRECHARGE || s.energised n) = true := by simpa using hstate
  have hallocated : ¬ (src ≠ .unit ∧ s.alloc.modeNow = 1 ∧ s.member n = true) := by
    rintro ⟨hsrc, hmode, hmember⟩
    rcases hfree with h | h | h
    · exact hsrc h
    · exact h hmode
    · exact Bool.eq_false_iff.mp h hmember
  exact (if_neg (by simp [htakes, hpage])).trans ((if_neg hallocated).trans
    (if_neg (not_or_intro (not_lt.mpr hlo) (not_lt.mpr hhi))))

/-- A target in range, on an axis that is fit and away from its limit switches, waits for the next evaluation. -/
theorem doVlvTarget_inRange {s : State} {n : Ch} {v : Word} (hhomed : s.flag (F.VAX_STAT_HOMED n) = true)
    (hhoming : s.flag (F.VAX_STAT_HOMING n) = false) (hfault : s.get (F.VAX_STAT_FAULT n) = 0)
    (hpage : s.enabled (pgPROF n) = true) (hlo : s.flag (F.VAX_STAT_LIM_LO n) = false)
    (hhi : s.flag (F.VAX_STAT_LIM_HI n) = false) (htarget : s.inRange n v.toInt = true)
    (href : s.inRange n (s.ch n).vax.refPos = true) :
    s.doVlvTarget n v = (.ok, (s.modProf n (fun p => { p with
      vWrT := p.vWrT ++ [(s.tb, s.reg (R.PROF_VLV_TARGET n))] })).setReg (R.PROF_VLV_TARGET n) v) :=
  (if_neg (by simp [hhomed, hhoming, hfault, hpage])).trans ((if_neg (by simp [hlo, hhi])).trans
    (if_neg (by simp [htarget, href])))

/-! ## Limits (R190, R191, Tables 10.5, 10.6, 10.8) -/

section
variable {s : State} {n : Ch} {v : Word} (hspeed : bitsOf v 31 20 ≠ 0) (hacc : bitsOf v 19 10 ≠ 0)
  (hjerk : bitsOf v 9 0 ≠ 0)
include hspeed hacc hjerk

/-- The limits of normal plans stay within those of stops. -/
theorem doLimit_curLim (hle : fieldsLe v (s.reg (R.PROF_CUR_STOP n)) = true) :
    s.doLimit n .curLim v = (.ok, (s.setReg (limAddr n .curLim) v).modCtle n (fun c =>
      { c with wrLim := c.wrLim ++ [(s.tb, s.reg (limAddr n .curLim))] })) :=
  if_neg (by simp [hspeed, hacc, hjerk, hle])

/-- The limits of stops stay at or above those of normal plans. -/
theorem doLimit_curStop (hle : fieldsLe (s.reg (R.PROF_CUR_LIM n)) v = true) :
    s.doLimit n .curStop v = (.ok, (s.setReg (limAddr n .curStop) v).modCtle n (fun c =>
      { c with wrStop := c.wrStop ++ [(s.tb, s.reg (limAddr n .curStop))] })) :=
  if_neg (by simp [hspeed, hacc, hjerk, hle])

theorem doLimit_vlvLim (hmax : bitsOf v 31 20 ≤ 3125) :
    s.doLimit n .vlvLim v = (.ok, (s.setReg (limAddr n .vlvLim) v).modProf n (fun p =>
      { p with vWrL := p.vWrL ++ [(s.tb, s.reg (limAddr n .vlvLim))] })) :=
  if_neg (by simp [hspeed, hacc, hjerk, hmax])

end

/-! ## Stop, fault clear and homing (R199, R201, R202) -/

theorem doStop_set {s : State} {n : Ch} (hhoming : s.flag (F.VAX_STAT_HOMING n) = false) :
    s.doStop n 1 = (.ok, s.modProf n (fun p => { p with vStop := some s.tb })) :=
  (if_neg (by decide)).trans (if_neg (by simp [hhoming]))

theorem bit_clrWord_home (s : State) (n : Ch) : bit (clrWord s n) 31 = false := by simp [bit, clrWord]
theorem bit_clrWord_clrfault (s : State) (n : Ch) : bit (clrWord s n) 29 = true := by simp [bit, clrWord]

/-- CLRFAULT alone, its cause ended, stores the fields beside it and clears the fault. -/
theorem doVaxCtrl_clrfault {s : State} {n : Ch} {w : Word} (hhome : bit w 31 = false) (hclr : bit w 29 = true)
    (hended : s.causeEnded n = true) :
    s.doVaxCtrl n w = (.ok, (s.setReg (R.VAX_CTRL n) (w &&& 0x307)).clrFault n) := by
  simp only [State.doVaxCtrl, hhome, hclr, hended, Bool.false_and, Bool.not_true, Bool.and_false, Bool.false_eq_true,
    if_false, if_true]

/-- HOME alone, on an energised and idle axis, stores the fields beside it and starts homing. -/
theorem doVaxCtrl_home {s : State} {n : Ch} {w : Word} (hhome : bit w 31 = true) (hclr : bit w 29 = false)
    (hon : s.flag (F.VAX_STAT_ENERGISED n) = true) (hfault : s.get (F.VAX_STAT_FAULT n) = 0)
    (hbusy : s.flag (F.PROF_STAT_VLV_BUSY n) = false) (hhoming : s.flag (F.VAX_STAT_HOMING n) = false) :
    s.doVaxCtrl n w = (.ok, (s.setReg (R.VAX_CTRL n) (w &&& 0x307)).homeStart n) := by
  have hidle : (!s.flag (F.VAX_STAT_ENERGISED n) || s.get (F.VAX_STAT_FAULT n) != 0
      || s.flag (F.PROF_STAT_VLV_BUSY n) || s.flag (F.VAX_STAT_HOMING n)) = false := by
    simp [hon, hfault, hbusy, hhoming]
  simp only [State.doVaxCtrl, hhome, hclr, hidle, Bool.and_false, Bool.false_and, Bool.false_eq_true, if_false, if_true]

/-! ## The end of a stop of the string current (R195, R265) -/

section
variable {s : State} {n : Ch} (hstop : s.chState n = stSTOPPING) (hheld : (s.ch n).safe.holdOffAt = none)
include hstop hheld

theorem execCurrentZero_counted (hzero : 3 ≤ (s.ch n).pour.zeroRun) :
    execCurrentZero n s = .next (((s.holdsOff n).modSafe n (fun f =>
      if f.isolating then { f with isoWait := true, stepAt := (s.holdsOff n).tb } else f)).isolatedCheck n) :=
  congrArg _ (if_pos ⟨hstop, hzero, Option.isNone_iff_eq_none.mpr hheld⟩)

theorem execStopTmo_due {t : Nat} (hentered : (s.ch n).prof.stopAt = some t) (hdue : s.passedMs t 5000 = true) :
    execStopTmo n s = .next (s.tripC n 0x14) := by
  simp only [execStopTmo, happen, hentered]
  exact congrArg _ (if_pos ⟨hstop, hdue, Option.isNone_iff_eq_none.mpr hheld⟩)

end

/-- Settles O36: each write behind its gate by what makes it legal, each end of the stop by the test in front of its
work. -/
theorem profileCommands : Obligations.ProfileCommands := by
  unfold Obligations.ProfileCommands
  refine ⟨?_, ?_, ?_, ?_, ?_, ?_, fun s n hstop hzero hheld => execCurrentZero_counted hstop hheld hzero,
    fun s n t hentered hstop hpassed hheld => execStopTmo_due hstop hheld hentered (decide_eq_true hpassed)⟩
  · intro s src n v u m hgate hstate hpage hfree hlo hhi
    exact answer_gated_ok hgate (doCurTarget_rated hstate hpage hfree hlo hhi)
  · intro s src n r v u hgate hspeed hacc hjerk w
    refine ⟨?_, ?_, ?_⟩
    · rintro rfl hle
      exact answer_gated_ok hgate (doLimit_curLim hspeed hacc hjerk hle)
    · rintro rfl hle
      exact answer_gated_ok hgate (doLimit_curStop hspeed hacc hjerk hle)
    · rintro rfl hmax
      exact answer_gated_ok hgate (doLimit_vlvLim hspeed hacc hjerk hmax)
  · intro s src n v u hgate hhomed hhoming hfault hpage hlo hhi htarget href
    exact answer_gated_ok hgate (doVlvTarget_inRange hhomed hhoming hfault hpage hlo hhi htarget href)
  · intro s src n u hgate hhoming
    exact answer_gated_ok hgate (doStop_set hhoming)
  · intro s src n w u hgate hended
    exact answer_gated_ok hgate (doVaxCtrl_clrfault (bit_clrWord_home s n) (bit_clrWord_clrfault s n) hended)
  · intro s src n v w u hgate hclr hon hfault hbusy hhoming
    exact answer_gated_ok hgate (doVaxCtrl_home (bit_or_restart v) hclr hon hfault hbusy hhoming)

end Sys2Proof.Machine
end

section
/-! PROOFS. Impedance blocks (R206 to R209, R211, R213 to R216): request and abort, the start of the lead-in, captured
epochs, the end of the block and its outcome. -/

namespace Sys2Proof.Machine
open Sys2Proof

/-! ## Void blocks and ABORT (R213, R214) -/

theorem voidBy_running {s : State} {n : Ch} (hrun : s.impRunning n = true) (cause : Nat) :
    s.voidBy n cause = s.blockVoid n ((s.voidCauses n ++ [cause]).foldl min 9) := if_pos hrun

theorem impRunning_eq_false_of_idle {s : State} {n : Ch} (hidle : s.get (F.IMP_STAT_PHASE n) = 0) :
    s.impRunning n = false := by simp [State.impRunning, hidle]

theorem impAbort_running {s : State} {n : Ch} (hrun : s.impRunning n = true) :
    s.impAbort n = s.blockVoid n ((s.voidCauses n ++ [8]).foldl min 9) :=
  (if_pos hrun).trans (voidBy_running hrun 8)

/-- With no block due and none running, be it idle or fully captured, ABORT does nothing. -/
theorem impAbort_none {s : State} {n : Ch} (hrun : s.impRunning n = false) (hdue : (s.ch n).imp.due = none) :
    s.impAbort n = s := by
  simp only [State.impAbort, hrun, hdue, Bool.false_eq_true, if_false, ite_self]

/-- A due block does not start: its result is void, and the next aligned E0 becomes due in PERIODIC mode. -/
theorem impAbort_due {s : State} {n : Ch} {e : Nat} (hidle : s.get (F.IMP_STAT_PHASE n) = 0)
    (hdue : (s.ch n).imp.due = some e) :
    s.impAbort n = (((s.modImp n (fun p => { p with due := none, minE0 := (e + 20000) % 2 ^ 48 })).impPublish n
      (voidRes 8 e 0 (s.impLimit n) (s.get (F.IMP_CTRL_NTONES n)) (s.get (F.IMP_CTRL_ZRES n)))).raise
        (pgIMP n) 3).impResched n := by
  simp only [State.impAbort, impRunning_eq_false_of_idle hidle, hidle, hdue, Bool.false_eq_true, if_false, ne_eq,
    not_true_eq_false]
  rfl

/-! ## Host commands (Table 11.8) -/

theorem doImpCmd_start {s : State} {n : Ch} (hmode : s.impMode n = 2) (hdue : (s.ch n).imp.due = none)
    (hidle : s.get (F.IMP_STAT_PHASE n) = 0) :
    s.doImpCmd n 1 = (.ok, s.modImp n (fun p => { p with due := some (s.impAligned n (s.ep + 1)) })) :=
  (if_neg (by decide)).trans ((if_pos (by decide)).trans (if_neg (by simp [hmode, hdue, hidle])))

theorem doImpCmd_abort {s t : State} {n : Ch} (habort : s.impAbort n = t) : s.doImpCmd n 2 = (.ok, t) :=
  habort ▸ (if_neg (by decide)).trans ((if_neg (by decide)).trans (if_pos (by decide)))

/-! ## Lead-in (R206, R208, R209) -/

section
variable {s : State} {n : Ch} {e0 : Nat} (hdue : (s.ch n).imp.due = some e0)
  (htime : 0 ≤ sdiff 48 (s.ep + 1000 * s.get (F.IMP_SCHED_LEADIN n)) e0) (hidle : s.get (F.IMP_STAT_PHASE n) = 0)
include htime hidle

theorem not_leadinWaits : ¬ (sdiff 48 (s.ep + 1000 * s.get (F.IMP_SCHED_LEADIN n)) e0 < 0 ∨
    s.get (F.IMP_STAT_PHASE n) ≠ 0) :=
  not_or_intro (Int.not_lt.mpr htime) (not_not_intro hidle)

include hdue

/-- The block starts with the settings of now. -/
theorem execImpLeadinStart_starts (htones : s.tonesOk n = true) (hmay : s.impMayStart n = true) :
    execImpLeadinStart n s = .next ((((s.modImp n (fun p => { p with
        due := none, lastLead := some s.ep, minE0 := 0, leadAt := s.ep, snrMin := s.get (F.IMP_SCHED_SNR_MIN n)
        e0 := e0, limit := s.impLimit n, ntones := s.get (F.IMP_CTRL_NTONES n)
        bins := (List.range (s.get (F.IMP_CTRL_NTONES n))).map (fun m => s.get (F.IMP_TONE_BIN n m))
        weights := (List.range (s.get (F.IMP_CTRL_NTONES n))).map (fun m => s.get (F.IMP_TONE_WEIGHT n m))
        ttone := s.get (F.IMP_CTRL_TTONE n), rtone := s.get (F.IMP_CTRL_RTONE n), zres := s.get (F.IMP_CTRL_ZRES n)
        cap := [], gradeMin := 0, temps := [0, 0], socs := [] })).modCtle n (fun c =>
          { c with refLimited := false })).impPhase n
          (if s.get (F.IMP_SCHED_LEADIN n) = 0 then 2 else 1) true).impResched n) := by
  simp only [execImpLeadinStart, happen, hdue, if_neg (not_leadinWaits htime hidle), htones, hmay, Bool.and_self,
    if_true]

/-- A condition of R208 is not met: the block is skipped. -/
theorem execImpLeadinStart_skips (htones : s.tonesOk n = true) (hmay : s.impMayStart n = false) :
    execImpLeadinStart n s = .next ((((s.incSat (F.IMP_STAT_SKIPPED n)).raise (pgIMP n) 4).modImp n (fun p =>
      { p with due := none, minE0 := (e0 + 20000) % 2 ^ 48 })).impResched n) := by
  simp only [execImpLeadinStart, happen, hdue, if_neg (not_leadinWaits htime hidle), htones, hmay, Bool.and_false,
    Bool.false_eq_true, if_false, if_true]

/-- An illegal tone set is indicated, and the block is skipped (R209). -/
theorem execImpLeadinStart_illegalTones (htones : s.tonesOk n = false) :
    execImpLeadinStart n s = .next (((((s.setRaise (F.IMP_STAT_CFG_ERR n) (pgIMP n) 5).incSat
      (F.IMP_STAT_SKIPPED n)).raise (pgIMP n) 4).modImp n (fun p =>
        { p with due := none, minE0 := (e0 + 20000) % 2 ^ 48 })).impResched n) := by
  simp only [execImpLeadinStart, happen, hdue, if_neg (not_leadinWaits htime hidle), htones, Bool.false_and,
    Bool.false_eq_true, if_false]

end

/-! ## Capture (R211) -/

/-- The delivered epoch that the block waits for joins it; the first one ends the lead-in. -/
theorem execImpedanceAccumulation_expected {s : State} {n : Ch} :
    let b := (s.ch n).pour.deliv
    let ts := measured b.temp b.tempQ 16 true
    let u := if s.get (F.IMP_STAT_PHASE n) = 1 then s.put (F.IMP_STAT_PHASE n) 2 else s
    b.valid = true → s.get (F.IMP_STAT_PHASE n) ≠ 0 →
    b.epoch = ((s.ch n).imp.e0 + (s.ch n).imp.cap.length) % 2 ^ 48 → (s.ch n).imp.cap.length < 20000 →
    execImpedanceAccumulation n s = .next (u.modImp n (fun p => { p with
      cap := p.cap ++ [⟨istrOf b, b.cellV, b.cellQ⟩], gradeMin := max p.gradeMin b.grade
      temps := [p.temps.getD 0 0 + sumI ts, p.temps.getD 1 0 + ts.length], socs := u.socSums n })) := by
  intro b ts u hvalid hblock hepoch hroom
  have hjoins : ¬ (!b.valid ∨ s.get (F.IMP_STAT_PHASE n) = 0 ∨
      b.epoch ≠ ((s.ch n).imp.e0 + (s.ch n).imp.cap.length) % 2 ^ 48 ∨ (s.ch n).imp.captured) := by
    simp [hvalid, hblock, hepoch, ImpS.captured, hroom]
  exact congrArg _ (if_neg hjoins)

/-! ## The outcome of a block (R212, R215, R216) -/

@[simp] theorem ch_impPhase (s : State) (n : Ch) (ph : Nat) (inj : Bool) (k : Ch) :
    (s.impPhase n ph inj).ch k = s.ch k := by
  rw [State.impPhase, ch_putB, ch_put]

@[simp] theorem imp_impPublish (s : State) (n : Ch) (r : ImpRes) : ((s.impPublish n r).ch n).imp =
    { (s.ch n).imp with prev := keepRes s.ep ((s.ch n).imp.res :: (s.ch n).imp.prev), res := r, cap := [] } := by
  simp [State.impPublish]

/-- A resistance observation concerns the estimator alone (R230). -/
@[simp] theorem imp_observe (s : State) (n : Ch) (i : Nat) (re soc t imin imax : Rat) :
    ((s.observe n i re soc t imin imax).ch n).imp = (s.ch n).imp := by
  simp only [State.observe]
  split
  · rw [ch_incSat]
  · rw [ch_imp_modEst]

theorem imp_foldl_eq {α : Type} {n : Ch} {f : State → α → State} (hkeeps : ∀ t x, ((f t x).ch n).imp = (t.ch n).imp)
    (l : List α) (s : State) : ((l.foldl f s).ch n).imp = (s.ch n).imp := by
  induction l generalizing s with
  | nil => rfl
  | cons x l ih => rw [List.foldl_cons, ih, hkeeps]

/-- The tones of a block as its captured string currents give them (R212). -/
def ImpS.blockTones (p : ImpS) : List ToneRes :=
  p.bins.map (fun b => toneOf (p.cap.map (fun e => (e.istr : Rat) / 1000)) b p.snrMin)

section
variable {s : State} {n : Ch} (hended : s.get (F.IMP_STAT_PHASE n) = 3) (hfull : 20000 ≤ (s.ch n).imp.cap.length)
include hended hfull

theorem not_blockOpen : ¬ (s.get (F.IMP_STAT_PHASE n) ≠ 3 ∨ (s.ch n).imp.cap.length < 20000) :=
  not_or_intro (not_not_intro hended) (Nat.not_lt.mpr hfull)

theorem blockDone_noTone (hnone : (s.ch n).imp.blockTones.all (fun t => !t.ok) = true) :
    s.blockDone n = s.blockVoid n 9 :=
  (if_neg (not_blockOpen hended hfull)).trans (if_pos hnone)

/-- With a valid tone the block's result replaces the last one; what follows leaves it as published. -/
theorem blockDone_publishes (hsome : (s.ch n).imp.blockTones.all (fun t => !t.ok) = false) :
    ∃ r : ImpRes, ((s.blockDone n).ch n).imp = { (s.ch n).imp with
        prev := keepRes s.ep ((s.ch n).imp.res :: (s.ch n).imp.prev), res := r, cap := [] } ∧
      r.status = 1 ∧ r.startEpoch = (s.ch n).imp.e0 ∧ r.endEpoch = ((s.ch n).imp.e0 + 19999) % 2 ^ 48 ∧
      r.tones = (s.ch n).imp.blockTones := by
  rw [ImpS.blockTones, ← Bool.not_eq_true] at hsome
  simp only [State.blockDone, if_neg (not_blockOpen hended hfull)]
  rw [if_neg hsome, imp_foldl_eq, ch_raise, ch_incSat, ch_putB, ch_impPhase, imp_impPublish]
  · exact ⟨_, rfl, rfl, rfl, rfl, rfl⟩
  · intro t q
    split
    · exact imp_observe ..
    · rfl

end

/-- Settles O38: the commands behind their gate, then each event by the test in front of its work. -/
theorem impedanceCommands : Obligations.ImpedanceCommands := by
  unfold Obligations.ImpedanceCommands
  refine ⟨?_, ?_, fun s n => execImpedanceAccumulation_expected, ?_, ?_, ?_⟩
  · intro s src n u
    exact ⟨fun hgate hmode hdue hidle => answer_gated_ok hgate (doImpCmd_start hmode hdue hidle),
      fun hgate hrun => answer_gated_ok hgate (doImpCmd_abort (impAbort_running hrun)),
      fun hgate hrun hdue => answer_gated_ok hgate (doImpCmd_abort (impAbort_none hrun hdue)),
      fun e hgate hidle hdue => answer_gated_ok hgate (doImpCmd_abort (impAbort_due hidle hdue))⟩
  · intro s n e0 hdue htime hidle lead
    exact ⟨execImpLeadinStart_starts hdue htime hidle, execImpLeadinStart_skips hdue htime hidle,
      execImpLeadinStart_illegalTones hdue htime hidle⟩
  · intro s n hphase hover
    exact congrArg _ (if_pos ⟨hphase, hover⟩)
  · intro s n hended hfull p tones
    refine ⟨fun hnone => congrArg _ (blockDone_noTone hended hfull hnone), fun hsome => ?_⟩
    obtain ⟨r, himp, hstatus, hstart, hend, htones⟩ := blockDone_publishes hended hfull hsome
    exact ⟨_, rfl, by rw [himp]; exact ⟨hstatus, hstart, hend, htones, rfl⟩⟩
  · intro s n k hrun
    exact ⟨fun hcause => congrArg _ ((if_pos hcause).trans (voidBy_running hrun _)),
      fun hclear hjump htakeover => congrArg _ (if_neg (by simp [hclear, hjump, htakeover]))⟩

end Sys2Proof.Machine
end
section
/-! PROOFS. What every command keeps (O3, O6, O7): the queue of waiting commands, and the canonical form of the register
memory, which a word write, a cold start and the parameter defaults are the only ones to touch. One lemma says it of each
operation of the model, after a state `t` that keeps both since `s`: so a lemma reads as the operation's own order of
parts, and the theorem on `exec` names each command's lemma. -/

namespace Sys2Proof.Machine
open Sys2Proof

/-- What every step keeps: the queue of waiting commands, and the canonical form of the register memory. -/
def Kept (s t : State) : Prop := t.pending = s.pending ∧ (s.regsCanonical → t.regsCanonical)

/-- A command goes on to a state that keeps both. -/
def GoesKept (s : State) (o : Host.Outcome State Fault Refusal) : Prop := ∃ t, o = .next t ∧ Kept s t

theorem GoesKept.next {s t : State} (h : Kept s t) : GoesKept s (.next t) := ⟨t, rfl, h⟩

namespace Kept

variable {s t u v : State} {n : Ch} {src : Src} {pg : PageRef} {sid off e tile i : Nat} {join : Bool} {side : Side}
  {b : EpochBuf}

theorem refl (s : State) : Kept s s := ⟨rfl, id⟩

/-- A change of the other parts of the state. -/
theorem frame (h : Kept s t) {mram : Mem} {dirty : List Nat} {chans : Vector Chan 8} {clock : ClockS} {sup : SupS}
    {snap : Option SnapS} {sessions : List Session} {idents : List IdState} {nextSid : Nat} {joined : List (Nat × Nat)}
    {last : OpResult} {notifies : List NotifyRec} {outbox : List OutMsg} {panel : PanelS} {therm : ThermS} {alloc : AllocS}
    {can : CanS} {twin : TwinS} {evt : EvtS} {upd : UpdS} {pmcs : PmcS} {free : Nat} :
    Kept s ⟨t.pending, t.regs, mram, dirty, chans, clock, sup, snap, sessions, idents, nextSid, joined, last, notifies,
      outbox, panel, therm, alloc, can, twin, evt, upd, pmcs, free⟩ :=
  h

section
variable {α β : Type} {c : Prop} {_ : Decidable c}

theorem ite (h1 : Kept s u) (h2 : Kept s v) : Kept s (if c then u else v) := by split <;> assumption

theorem iteFst {a b : State × α} (h1 : Kept s a.1) (h2 : Kept s b.1) : Kept s (if c then a else b).1 := by
  split <;> assumption

theorem iteSnd {a b : α × State} (h1 : Kept s a.2) (h2 : Kept s b.2) : Kept s (if c then a else b).2 := by
  split <;> assumption

theorem iteSndFst {a b : α × State × β} (h1 : Kept s a.2.1) (h2 : Kept s b.2.1) : Kept s (if c then a else b).2.1 := by
  split <;> assumption

theorem iteFstSnd {a b : (α × State) × β} (h1 : Kept s a.1.2) (h2 : Kept s b.1.2) : Kept s (if c then a else b).1.2 := by
  split <;> assumption

/-- A part of an operation that happens under a condition, and one that happens otherwise. -/
theorem thenIf (h : Kept s t) (f : Kept s t → Kept s u) : Kept s (if c then u else t) := ite (f h) h
theorem elseIf (h : Kept s t) (f : Kept s t → Kept s u) : Kept s (if c then t else u) := ite h (f h)
theorem branch (h : Kept s t) (f : Kept s t → Kept s u) (g : Kept s t → Kept s v) : Kept s (if c then u else v) :=
  ite (f h) (g h)
theorem branchFst {a b : State × α} (h : Kept s t) (f : Kept s t → Kept s a.1) (g : Kept s t → Kept s b.1) :
    Kept s (if c then a else b).1 := iteFst (f h) (g h)
end

/-- An operation repeated over a list. -/
theorem foldl {α : Type} {f : State → α → State} {l : List α} (h : Kept s t)
    (hf : ∀ {u : State} {a : α}, Kept s u → Kept s (f u a)) : Kept s (l.foldl f t) := by
  induction l generalizing t with
  | nil => exact h
  | cons a l ih => exact ih (hf h)

/-- An operation repeated over a list that collects answers beside the state. -/
theorem foldlOn {α β : Type} {p : β → State} {f : β → α → β} {l : List α} {b : β} (h : Kept s (p b))
    (hf : ∀ {b : β} {a : α}, Kept s (p b) → Kept s (p (f b a))) : Kept s (p (l.foldl f b)) := by
  induction l generalizing b with
  | nil => exact h
  | cons a l ih => exact ih (hf h)

/-- The one place where a register's word changes: the memory stays canonical. -/
theorem setReg (h : Kept s t) {a : Nat} {w : Word} : Kept s (t.setReg a w) :=
  ⟨h.1, fun hs => Mem.wf_sset resetWord t.regs a w (h.2 hs)⟩

end Kept

namespace GoesKept

variable {s t : State}

theorem happen (h : Kept s t) : GoesKept s (happen t) := .next h
theorem answer {r : Res} (h : Kept s r.2) : GoesKept s (answer r) := .next h.frame
theorem answerOp {r : OpResult × State} (h : Kept s r.2) : GoesKept s (answerOp r) := .next h.frame

theorem answerRead {r : Status × State × Word} (h : Kept s r.2.1) : GoesKept s (answerRead r) := by
  unfold Machine.answerRead
  split
  · exact .next h.frame
  · exact answer h

end GoesKept

namespace Kept

variable {s t u v : State} {n : Ch} {src : Src} {pg : PageRef} {sid off e tile i : Nat} {join : Bool} {side : Side}
  {b : EpochBuf}

/-! ## Registers and channels -/

theorem put (h : Kept s t) {f : RF} {v : Nat} : Kept s (t.put f v) := h.setReg

theorem putB (h : Kept s t) {f : RF} {b : Bool} : Kept s (t.putB f b) := h.put

theorem putI (h : Kept s t) {f : RF} {i : Int} : Kept s (t.putI f i) := h.setReg

theorem incSat (h : Kept s t) {f : RF} : Kept s (t.incSat f) := h.put

theorem setCh (h : Kept s t) {c : Chan} : Kept s (t.setCh n c) := h.frame

theorem modCh (h : Kept s t) {f : Chan → Chan} : Kept s (t.modCh n f) := h.setCh

theorem eachCh (h : Kept s t) {f : State → Ch → State} (hf : ∀ {u : State} {n : Ch}, Kept s u → Kept s (f u n)) :
    Kept s (t.eachCh f) :=
  h.foldl hf

/-! ## Events, interrupt sources, messages -/

theorem tick (h : Kept s t) : Kept s t.tick := h.frame

theorem irqEdge (h : Kept s t) {b : Nat} : Kept s (t.irqEdge pg b).1 := iteFst h.setReg.setReg h.setReg

theorem notify (h : Kept s t) {b : Nat} {seq : Word} : Kept s (t.notify pg b seq) := h.frame

theorem raiseEvt (h : Kept s t) {b : Nat} : Kept s (t.raiseEvt b) := ite h.irqEdge.notify h.irqEdge

theorem stage (h : Kept s t) {r : EventRec} : Kept s (t.stage r).1 :=
  iteFst (ite h.frame.raiseEvt h.frame) (ite h.frame.raiseEvt h.frame |>.thenIf (·.raiseEvt))

theorem record (h : Kept s t) {code chan sev : Nat} {p0 p1 p2 : Word} : Kept s (t.record code chan sev p0 p1 p2).1 :=
  iteFst h.frame h.stage

theorem log (h : Kept s t) {code chan sev : Nat} {p0 p1 p2 : Word} : Kept s (t.log code chan sev p0 p1 p2) := h.record

theorem logReg (h : Kept s t) : Kept s (t.logReg pg off) := h.log

theorem logNone (h : Kept s t) : Kept s (t.logNone pg) := h.log

theorem raise (h : Kept s t) {b : Nat} : Kept s (t.raise pg b) :=
  ite (ite h.irqEdge.notify h.irqEdge.record.notify) h.irqEdge

theorem draw (h : Kept s t) : Kept s t.draw.2 := h.frame

theorem setRegs (h : Kept s t) {f : Nat → Nat} {l : List Word} : Kept s (t.setRegs f l) := h.foldl (·.setReg)

theorem emit (h : Kept s t) {m : OutMsg} : Kept s (t.emit m) := h.frame

theorem twinSend (h : Kept s t) {type : Nat} {payload : List Nat} : Kept s (t.twinSend type payload) := h.emit

/-! ## Flags -/

theorem pageFault (h : Kept s t) {on : Bool} : Kept s (t.pageFault pg on) := ite (ite h.putB h.putB.raise) h.putB.setReg

theorem putBit (h : Kept s t) {f : RF} {b : Bool} : Kept s (t.putBit f i b) := h.setReg

theorem setRaise (h : Kept s t) {f : RF} {b : Nat} : Kept s (t.setRaise f pg b) := ite h h.putB.raise

theorem collide (h : Kept s t) : Kept s (t.collide pg) := ite h h.raise

theorem pendClear (h : Kept s t) {v : Word} : Kept s (t.pendClear pg v) := h.setReg.setReg

/-! ## Modes, channel states, trips -/

theorem modRing (h : Kept s t) {f : RingS → RingS} : Kept s (t.modRing n f) := h.modCh

theorem modPour (h : Kept s t) {f : PourS → PourS} : Kept s (t.modPour n f) := h.modCh

theorem modFifo (h : Kept s t) {f : FifoS → FifoS} : Kept s (t.modFifo n f) := h.modCh

theorem modCdiag (h : Kept s t) {f : CdiagS → CdiagS} : Kept s (t.modCdiag n f) := h.modCh

theorem modBal (h : Kept s t) {f : BalS → BalS} : Kept s (t.modBal n f) := h.modCh

theorem modCtle (h : Kept s t) {f : CtleS → CtleS} : Kept s (t.modCtle n f) := h.modCh

theorem modProf (h : Kept s t) {f : ProfS → ProfS} : Kept s (t.modProf n f) := h.modCh

theorem modVax (h : Kept s t) {f : VaxS → VaxS} : Kept s (t.modVax n f) := h.modCh

theorem modImp (h : Kept s t) {f : ImpS → ImpS} : Kept s (t.modImp n f) := h.modCh

theorem modEst (h : Kept s t) {f : EstS → EstS} : Kept s (t.modEst n f) := h.modCh

theorem modSafe (h : Kept s t) {f : SafeS → SafeS} : Kept s (t.modSafe n f) := h.modCh

theorem modPerc (h : Kept s t) {f : PercS → PercS} : Kept s (t.modPerc n f) := h.modCh

theorem modTwin (h : Kept s t) {f : TwinCh → TwinCh} : Kept s (t.modTwin n f) := h.modCh

theorem pwmOff (h : Kept s t) : Kept s (t.pwmOff n) := h.modCtle.modProf.putB.put.putB.put.setReg

theorem vlvHold (h : Kept s t) {p : Rat} : Kept s (t.vlvHold n p) := h.modProf.putB.putB

theorem coilsOff (h : Kept s t) : Kept s (t.coilsOff n) := h.putB.putB.putB.putB.putB.vlvHold.modVax

theorem balZero (h : Kept s t) : Kept s (t.balZero n) := h.modBal.modRing

theorem percStop (h : Kept s t) {cause : Nat} : Kept s (t.percStop n cause) :=
  ite h (h.put.put.modPerc.modRing.branch (·.incSat.logReg.raise) (fun h => ite h.logReg.raise h))

theorem seqPage (h : Kept s t) {epoch : Nat} {holdover : Bool} : Kept s (t.seqPage pg epoch holdover) := h.setReg.putB

theorem setMode (h : Kept s t) {m : Nat} : Kept s (t.setMode m) := ite h h.put.raise.log

theorem bootShow (h : Kept s t) {k : Nat} : Kept s (t.bootShow k) := ite h.put h

theorem setOplvl (h : Kept s t) {l : Nat} : Kept s (t.setOplvl l) := ite h h.put.raise

theorem standbyCheck (h : Kept s t) : Kept s t.standbyCheck := ite h.setMode h

theorem pourStop (h : Kept s t) : Kept s (t.pourStop n) :=
  h.modPour.modEst.modPerc.elseIf (·.put) |>.elseIf (·.modPerc.raise)

theorem reloadCheck (h : Kept s t) : Kept s (t.reloadCheck n) := ite h.modSafe.put.pourStop h

theorem setBridge (h : Kept s t) {on : Bool} : Kept s (t.setBridge n on) := h.putBit.putB

theorem enterState (h : Kept s t) {new cause : Nat} : Kept s (t.enterState n new cause) :=
  ite h (ite h.put.put.put h.put.put |>.raise.thenIf (·.raise) |>.log.putBit.elseIf (·.put)
    |>.thenIf (·.setReg.modCtle) |>.thenIf (·.balZero) |>.thenIf (·.pwmOff) |>.modSafe.thenIf (·.modProf)
    |>.thenIf (·.percStop) |>.thenIf (·.reloadCheck) |>.thenIf (·.setBridge) |>.standbyCheck)

theorem setCause (h : Kept s t) {on : Bool} : Kept s (t.setCause n i on) :=
  ite h (ite (h.putBit.raise.thenIf (·.enterState)) (ite (h.putBit.putB.thenIf (·.enterState)) h.putBit))

theorem isolateAtTrip (h : Kept s t) {cause : Nat} : Kept s (t.isolateAtTrip n cause) := h.modSafe

theorem trip (h : Kept s t) {cause path param : Nat} : Kept s (t.trip n cause path param) :=
  ite h (ite h.log.isolateAtTrip
    (h.putB.pwmOff.setReg.setReg.modSafe.raise.log.enterState.isolateAtTrip.thenIf (·.twinSend)))

theorem tripC (h : Kept s t) {cause : Nat} : Kept s (t.tripC n cause) := h.trip

theorem enterHalt (h : Kept s t) {cause : Nat} : Kept s (t.enterHalt cause) :=
  ite h (h.put.frame.eachCh (·.tripC.pourStop.percStop.coilsOff) |>.setMode)

theorem limp (h : Kept s t) : Kept s t.limp := ite h.logNone (ite h.setRaise.setMode (ite h.setRaise.frame h.setRaise))

/-! ## The gate -/

theorem restartUnlock (h : Kept s t) : Kept s (t.restartUnlock src pg off) := by
  unfold State.restartUnlock
  split
  · exact ite h h.frame
  · exact h

theorem gated (h : Kept s t) {src : Src} {pg : PageRef} {off : Nat} {w : Word} {f : State → Res}
    (hf : ∀ {u : State}, Kept s u → Kept s (f u).2) : Kept s (t.gated src pg off w f).2 := by
  unfold State.gated
  dsimp only
  split
  · exact hf h.restartUnlock
  · exact h.restartUnlock

/-! ## State estimation -/

theorem mapCells (h : Kept s t) {f : Nat → EstCell → EstCell} : Kept s (t.mapCells n f) := h.modEst

theorem openShow (h : Kept s t) : Kept s (t.openShow n) := h.put

theorem disqualify (h : Kept s t) {code : Nat} {p : Nat → EstCell → Bool} : Kept s (t.disqualify n code p) :=
  ite h h.modEst.put.put.raise.openShow

theorem reinit (h : Kept s t) : Kept s (t.reinit n) := h.mapCells.modEst

theorem newCells (h : Kept s t) : Kept s (t.newCells n tile) := h.disqualify.mapCells.modEst

theorem calEnd (h : Kept s t) {res : Nat} : Kept s (t.calEnd n res) := h.put.modEst

theorem doIcal (h : Kept s t) {w : Word} : Kept s (t.doIcal n w).2 :=
  iteSnd h (iteSnd h (iteSnd h.put h.put.put.modEst))

/-- Behind the gate, for every word: the word of the command itself would be evaluated. -/
theorem icalGated (h : Kept s t) {w : Word} : Kept s (t.gated src (pgEST n) 0x044 w (fun t => t.doIcal n w)).2 :=
  h.gated fun h => h.doIcal

theorem calFeed (h : Kept s t) {main aux : Option Int} : Kept s (t.calFeed n main aux) := by
  unfold State.calFeed
  dsimp only
  refine ite h (ite h.modEst (ite h.calEnd ?_))
  split
  · exact h.calEnd
  · exact h.modEst

theorem icalDone (h : Kept s t) : Kept s (t.icalDone n) :=
  ite h (ite h.calEnd (ite (ite h.modEst.calEnd h.calEnd) (ite h.calEnd (ite h.modEst.calEnd h.calEnd))))

theorem execIcalDone (h : Kept s t) : GoesKept s (execIcalDone n t) := .happen h.icalDone

theorem outageEnd (h : Kept s t) {epoch : Nat} : Kept s (t.outageEnd n epoch) := by
  unfold State.outageEnd
  dsimp only
  split
  · exact h
  · exact ite h.modEst.logReg h.modEst

theorem gapCheck (h : Kept s t) : Kept s (t.gapCheck n b) := ite h.disqualify h |>.thenIf (·.modEst)

theorem estFeed (h : Kept s t) {main aux : Option Int} : Kept s (t.estFeed n b main aux) :=
  h.calFeed.outageEnd.gapCheck.modEst.mapCells

theorem kfUpdate (h : Kept s t) : Kept s (t.kfUpdate n) := ite h h.mapCells.modEst

theorem execKfUpdate (h : Kept s t) : GoesKept s (execKfUpdate n t) := .happen (ite h h.kfUpdate)

theorem socAdvance (h : Kept s t) {x : AggIn} {cur : Rat} : Kept s (t.socAdvance n x cur) := h.mapCells

theorem learnChecks (h : Kept s t) : Kept s (t.learnChecks n b) := by
  unfold State.learnChecks
  exact
  h.disqualify.thenIf (·.disqualify) |>.thenIf (·.disqualify) |>.disqualify.thenIf (·.disqualify)
    |>.disqualify.disqualify

theorem restCheck (h : Kept s t) : Kept s (t.restCheck n b) := by
  unfold State.restCheck
  dsimp only
  split
  · exact h.modEst
  · exact ite h.modEst h.modEst

theorem aggEpoch1 (h : Kept s t) {x : AggIn} {cur : Rat} : Kept s (t.aggEpoch1 n x cur) :=
  h.socAdvance.learnChecks.restCheck

theorem aggRun (h : Kept s t) {l : List AggIn} {last : Rat} : Kept s (t.aggRun n l last) := by
  unfold State.aggRun
  induction l generalizing t last with
  | nil => exact h
  | cons x l ih =>
    rw [List.foldl_cons]
    exact ih h.aggEpoch1

theorem aggregateTask (h : Kept s t) : Kept s (t.aggregateTask n) :=
  ite h h.modEst.aggRun.modEst.modEst.seqPage.put.putB

theorem execAggregateTask (h : Kept s t) : GoesKept s (execAggregateTask n t) := .happen (ite h h.aggregateTask)

theorem sopUpdate (h : Kept s t) : Kept s (t.sopUpdate n) := ite h h.mapCells.modEst

theorem execSopUpdate (h : Kept s t) : GoesKept s (execSopUpdate n t) := .happen (ite h h.sopUpdate)

theorem execTaskLate (h : Kept s t) {task : EstTask} : GoesKept s (execTaskLate n task t) := .happen h.incSat.raise

theorem learnCell (h : Kept s t) {cur : Rat} : Kept s (t.learnCell n cur i) := by
  unfold State.learnCell
  dsimp only
  refine ite h ?_
  split
  · exact h.modEst
  · exact ite h (ite h.modEst.incSat.raise.modEst h.disqualify.modEst)

theorem restPoint (h : Kept s t) : Kept s (t.restPoint n) := by
  unfold State.restPoint
  dsimp only
  split
  · exact h
  · exact ite h (h.mapCells.foldl (·.learnCell) |>.openShow.modEst.put.putB)

theorem execRestPoint (h : Kept s t) : GoesKept s (execRestPoint n t) := .happen (ite h h.restPoint)

theorem execRestAgeTick (h : Kept s t) : GoesKept s (execRestAgeTick n t) :=
  .happen (ite (h.incSat.modEst.thenIf (·.putB.raise.logReg)) h)

theorem chemSync (h : Kept s t) : Kept s (t.chemSync n) := h.setReg

theorem doChemAddr (h : Kept s t) {v : Word} : Kept s (t.doChemAddr n v).2 := iteSnd h h.put.chemSync

theorem chemNext (h : Kept s t) : Kept s (t.chemNext n) := h.put.chemSync

theorem doChemData (h : Kept s t) {v : Word} : Kept s (t.doChemData n v).2 := h.modEst.chemNext

theorem readChemData (h : Kept s t) : Kept s (t.readChemData n).1 := h.chemNext

theorem chemStore (h : Kept s t) : Kept s (t.chemStore n) := ite h.modEst h

theorem doCommitChem (h : Kept s t) : Kept s (t.doCommitChem n).2 := by
  unfold State.doCommitChem
  dsimp only
  refine iteSnd h ?_
  split
  · exact h.put
  · exact h.disqualify.modEst.chemStore.mapCells.reinit.put.putB.setReg.openShow

theorem doChemCmd (h : Kept s t) {v : Word} : Kept s (t.doChemCmd n v).2 := iteSnd h.doCommitChem h

theorem learnClear (h : Kept s t) : Kept s (t.learnClear n) := h.disqualify.mapCells.modEst.openShow

theorem doEstCtrl (h : Kept s t) {v : Word} : Kept s (t.doEstCtrl src n v).2 :=
  iteSnd h (iteSnd h (ite h.put.reinit h.put |>.thenIf (·.learnClear)))

theorem estWrite (h : Kept s t) : Kept s (t.estWrite n) := h.modEst

theorem execEstRecordWrite (h : Kept s t) : GoesKept s (execEstRecordWrite n t) := .happen (ite h.estWrite h)

theorem estBoot (h : Kept s t) : Kept s (t.estBoot n) := by
  unfold State.estBoot
  dsimp only
  split
  · exact h.putB.setReg.modEst.chemSync.modEst.put.disqualify
  · exact h.putB.setReg.modEst.chemSync.modEst.setRaise.logReg

theorem execChemDataAccess (h : Kept s t) {w : Option Word} : GoesKept s (execChemDataAccess src n w t) := by
  unfold Machine.execChemDataAccess
  dsimp only
  split
  · exact .answer (h.gated (·.doChemData))
  · split
    · exact .next h.readChemData.frame
    · exact .answer h

theorem execCommitChem (h : Kept s t) : GoesKept s (execCommitChem src n t) := .answer (h.gated (·.doCommitChem))

theorem execReinit (h : Kept s t) : GoesKept s (execReinit src n t) := .answer (h.gated (·.doEstCtrl))

theorem execLearnClear (h : Kept s t) : GoesKept s (execLearnClear src n t) := .answer (h.gated (·.doEstCtrl))

theorem execIcalOffset (h : Kept s t) : GoesKept s (execIcalOffset src n t) := .answer h.icalGated

theorem execIcalGain (h : Kept s t) : GoesKept s (execIcalGain src n t) := .answer h.icalGated

/-! ## Current control -/

theorem setPlan (h : Kept s t) {pl : Plan} {stopLim : Bool} {clip : Option Rat} :
    Kept s (t.setPlan n pl stopLim clip) :=
  h.modProf.putB.putB

theorem planTo (h : Kept s t) {k : Kin} {target : Rat} {stop : Bool} : Kept s (t.planTo n k target stop) :=
  ite h.setPlan (ite h.setPlan h.setPlan)

theorem planLimits (h : Kept s t) {k : Kin} : Kept s (t.planLimits n k) := h.planTo

theorem planLimitWrite (h : Kept s t) {k : Kin} : Kept s (t.planLimitWrite n k) := ite h.setPlan (ite h h.putB.raise)

theorem curTaken (h : Kept s t) : Kept s (t.curTaken n) := h.modCtle

theorem curReplan (h : Kept s t) : Kept s (t.curReplan n) :=
  ite h.planTo (ite h.planLimits (ite h.planTo (ite h.planLimits (ite h.planLimitWrite h)))) |>.curTaken.modProf.put

theorem curClip (h : Kept s t) : Kept s (t.curClip n) := by
  unfold State.curClip
  dsimp only
  split
  · exact h
  · exact ite h.modProf.setRaise h

theorem curDone (h : Kept s t) : Kept s (t.curDone n) := ite h.putB.putB.raise h

theorem curStopping (h : Kept s t) : Kept s (t.curStopping n) := ite (ite h.planLimitWrite h) h.planTo.put |>.curTaken

theorem ploop (h : Kept s t) {first : Bool} {vs ts : Rat} : Kept s (t.ploop n first vs ts) := h.modCtle.putB.put

theorem stage1 (h : Kept s t) {first : Bool} {vs ts : Rat} : Kept s (t.stage1 n first vs ts).1 :=
  iteFst h.ploop (ite h.putB.modCtle h
    |>.branchFst (·.modProf.put.setReg)
    (fun h => ite h.modProf h |>.branch (·.curStopping) (·.curReplan) |>.curClip.curDone.putI))

theorem failInput (h : Kept s t) {aux : Bool} : Kept s (t.failInput n aux) := h.putB.raise.setCause

theorem modelJudge (h : Kept s t) {badMain badAux : Bool} : Kept s (t.modelJudge n badMain badAux) :=
  ite (ite h.pwmOff.tripC (ite h.failInput (ite h.failInput h))) (ite h.pwmOff.tripC h)

theorem capture (h : Kept s t) {k : Nat} {sig : Nat → Rat} : Kept s (t.capture n k sig) :=
  ite h (ite h (ite h.modCtle (ite h.modCtle h.modCtle.put)))

theorem vstrAt (h : Kept s t) {v : Option Int} : Kept s (t.vstrAt v).2 := by
  unfold State.vstrAt
  dsimp only
  split
  · exact h
  · exact h.draw

theorem ctleHead (h : Kept s t) {i : CtleIn} : Kept s (t.ctleHead n i) :=
  ite h.modCtle h |>.modCtle.putB.thenIf (·.tripC)

theorem ctleRun (h : Kept s t) {i : CtleIn} {cur vbmV : Int} : Kept s (t.ctleRun n i cur vbmV) :=
  ite h.modCtle h |>.vstrAt.stage1.modCtle.putB.put.putB.putB.put.setReg.put.put.capture.thenIf (·.modelJudge)

theorem connectDone (h : Kept s t) : Kept s (t.connectDone n) := h.enterState.raise

theorem injFinish (h : Kept s t) : Kept s (t.injFinish n) := h.modCtle.putB.raise

theorem injTick (h : Kept s t) : Kept s (t.injTick n) := h.modCtle

theorem injStopCheck (h : Kept s t) : Kept s (t.injStopCheck n) := ite h.injFinish h

theorem ctleSample (h : Kept s t) {i : CtleIn} : Kept s (t.ctleSample n i) := by
  unfold State.ctleSample
  dsimp only
  refine ite h (ite (h.modCtle.injStopCheck.ctleHead.thenIf (·.connectDone.modProf) |>.pwmOff.injTick) ?_)
  split
  · exact h.modCtle.injStopCheck.ctleHead.thenIf (·.connectDone.modProf) |>.ctleRun.injTick
  · exact h.modCtle.injStopCheck.ctleHead.thenIf (·.connectDone.modProf) |>.pwmOff.tripC
  · exact h.modCtle.injStopCheck.ctleHead.thenIf (·.connectDone.modProf) |>.pwmOff

theorem execCtleSample (h : Kept s t) {i : CtleIn} : GoesKept s (execCtleSample n i t) := .happen h.ctleSample

theorem execLate (h : Kept s t) : GoesKept s (execLate n t) :=
  .happen (h.incSat.raise.modCtle.injStopCheck.injTick.thenIf (·.pwmOff.tripC))

theorem execStageFault (h : Kept s t) {asserted : Bool} : GoesKept s (execStageFault n asserted t) :=
  .happen (h.modCtle.putB.pageFault.thenIf (·.pwmOff.raise.branch (·.tripC) (·.logReg)))

theorem hold (h : Kept s t) {pos neg pre : Bool} : Kept s (t.hold n pos neg pre) := h.putB.putB.putB

theorem execPreDone (h : Kept s t) : GoesKept s (execPreDone n t) := .happen (ite h.putB.put.putB.modSafe h)

theorem execPloopFe (h : Kept s t) : GoesKept s (execPloopFe n t) := by
  unfold Machine.execPloopFe
  refine .happen ?_
  split
  · exact ite h.raise.pwmOff.tripC h
  · exact h

theorem execVlimModel (h : Kept s t) : GoesKept s (execVlimModel n t) := .happen (ite h.pwmOff.tripC h)

theorem doBankReq (h : Kept s t) {atEpoch : Bool} : Kept s (t.doBankReq n atEpoch).2 := by
  unfold State.doBankReq
  dsimp only
  refine iteSnd h ?_
  split
  · exact h.put.incSat.putB.raise
  · exact iteSnd h h.putB.modCtle

theorem doBankCancel (h : Kept s t) : Kept s (t.doBankCancel n).2 := iteSnd h h.putB.modCtle

theorem doBanksel (h : Kept s t) {v : Word} : Kept s (t.doBanksel n v).2 :=
  iteSnd h (iteSnd h.doBankReq (iteSnd h.doBankCancel h))

theorem execSwap (h : Kept s t) : GoesKept s (execSwap n t) := .happen (ite h.modCtle.put.putB.incSat.raise h)

theorem doCoef (h : Kept s t) {b : Nat} {v : Word} : Kept s (t.doCoef n b off v).2 := by
  unfold State.doCoef
  refine iteSnd h (iteSnd h ?_)
  split
  · exact h
  · exact iteSnd h (iteSnd h h.setReg)

theorem doGain (h : Kept s t) {ki : Bool} {v : Word} : Kept s (t.doGain n ki v).2 := h.doCoef

theorem doInjCtrl (h : Kept s t) {v : Word} : Kept s (t.doInjCtrl n v).2 :=
  iteSnd h (iteSnd h (h.put.put.put.thenIf (·.putB) |>.thenIf (·.modCtle) |>.thenIf (·.modCtle)))

theorem execInjBegin (h : Kept s t) : GoesKept s (execInjBegin n t) := by
  unfold Machine.execInjBegin
  dsimp only
  refine .happen ?_
  split
  · exact h
  · exact ite h (ite h.putB.injFinish h.modCtle.putB)

theorem execInjEnd (h : Kept s t) : GoesKept s (execInjEnd n t) := by
  unfold Machine.execInjEnd
  refine .happen ?_
  split
  · exact h
  · exact ite h.putB.injFinish (ite h.injFinish h)

theorem doCapCtrl (h : Kept s t) {v : Word} : Kept s (t.doCapCtrl n v).2 :=
  iteSnd h (iteSnd h.setReg.setReg.modCtle h.setReg)

theorem execCapDone (h : Kept s t) : GoesKept s (execCapDone n t) := .happen (ite h.putB.putB.raise h)

theorem readCapData (h : Kept s t) : Kept s (t.readCapData n).2.1 := iteSndFst h (iteSndFst h h.put)

/-! ## The tile ring -/

theorem queueFrame (h : Kept s t) {f : CmdFrame} : Kept s (t.queueFrame n f) := ite h.modRing h

theorem ringEnter (h : Kept s t) {st : Nat} : Kept s (t.ringEnter n st) := h.bootShow.put.modRing

theorem ringFaultShow (h : Kept s t) : Kept s (t.ringFaultShow n) := h.pageFault

theorem reloadEnd (h : Kept s t) : Kept s (t.reloadEnd n) := ite h.modSafe.putBit h

theorem ringStart (h : Kept s t) : Kept s (t.ringStart n) :=
  ite h h.reloadEnd.pourStop.modRing.setReg.ringEnter.putB.putB.setReg.setReg.setReg.setReg.setReg.setReg.setRegs.modRing.modPour.ringFaultShow.emit

theorem ringFail (h : Kept s t) {err : Nat} : Kept s (t.ringFail n err) :=
  h.ringEnter.put.modRing.thenIf (·.logReg) |>.raise.ringFaultShow

theorem pourStart (h : Kept s t) : Kept s (t.pourStart n) := ite h.modPour h

theorem execRingStart (h : Kept s t) : GoesKept s (execRingStart n t) := .happen h.ringStart

theorem doRingCtrl (h : Kept s t) {v : Word} : Kept s (t.doRingCtrl n v).2 :=
  iteSnd h (iteSnd h (ite h.setReg.ringStart h.setReg))

theorem execRestartRing (h : Kept s t) : GoesKept s (execRestartRing src n t) := .answer (h.gated (·.doRingCtrl))

theorem startSend (h : Kept s t) {f : Nat → List (List Byte)} : Kept s (t.startSend n f) := h.frame

theorem enumSend (h : Kept s t) : Kept s (t.enumSend n) := h.startSend

theorem probeSend (h : Kept s t) : Kept s (t.probeSend n) := h.startSend

theorem execRingWakeEnd (h : Kept s t) : GoesKept s (execRingWakeEnd n t) :=
  .happen (ite h.ringEnter.modRing.enumSend h)

theorem serialCheck (h : Kept s t) {addr : Nat} {serial : BitVec 64} : Kept s (t.serialCheck n addr serial) := by
  unfold State.serialCheck
  dsimp only
  split
  · exact ite h.modRing h.modRing.log.newCells
  · exact h.modRing

theorem mcSend (h : Kept s t) : Kept s (t.mcSend n) := h.startSend

theorem execEnum (h : Kept s t) {blocks : List EnumBlock} {farEnd : Bool} :
    GoesKept s (execEnum n blocks farEnd t) := by
  unfold Machine.execEnum
  dsimp only
  refine .happen (ite h
      (ite h.modRing.enumSend
      (ite h.modRing.ringFail (h.modRing.foldl (fun h => ?_) |>.modRing.put.put.ringEnter.mcSend))))
  split
  · exact h.serialCheck
  · exact h

theorem execMcloadDone (h : Kept s t) {crcs : List Word} : GoesKept s (execMcloadDone n crcs t) :=
  .happen (ite h (ite h.ringEnter.probeSend (ite h.ringFail h.modRing.mcSend)))

theorem setTables (h : Kept s t) {m : DelayMeas} : Kept s (t.setTables n m) := h.modRing.put.setRegs

theorem ringMsg (h : Kept s t) {what : Nat} {l : List Nat} : Kept s (t.ringMsg n what l) := h.twinSend

theorem tablesMirror (h : Kept s t) : Kept s (t.tablesMirror n) := ite h.ringMsg h

theorem holdSend (h : Kept s t) : Kept s (t.holdSend n) := h.startSend

theorem holdsConfirm (h : Kept s t) {ok : Nat → Bool} : Kept s (t.holdsConfirm n ok) := h.modRing

theorem ringUp (h : Kept s t) : Kept s (t.ringUp n) :=
  h.modRing.ringEnter.put.queueFrame.tablesMirror.elseIf (·.pourStart)

theorem execDelaySetDone (h : Kept s t) {e : DelayEnd} : GoesKept s (execDelaySetDone n e t) :=
  .happen (ite h (ite h.ringFail (h.put.setTables.holdSend.holdsConfirm.thenIf (·.ringUp))))

theorem execRingRetry (h : Kept s t) : GoesKept s (execRingRetry n t) := .happen (ite h.ringStart h)

theorem execBackgroundSetStart (h : Kept s t) : GoesKept s (execBackgroundSetStart n t) := .happen (ite h.modRing h)

theorem acceptSet (h : Kept s t) {m : DelayMeas} : Kept s (t.acceptSet n m) :=
  h.setTables.modRing.foldl (·.queueFrame) |>.tablesMirror

theorem unwrapQueue (h : Kept s t) : Kept s (t.unwrapQueue n) :=
  ite h.modRing.queueFrame h.modRing |>.thenIf (·.queueFrame)

theorem unwrapFail (h : Kept s t) : Kept s (t.unwrapFail n) := h.modRing

theorem execBackgroundSetDone (h : Kept s t) {times : List Nat × List Nat} {tiles : List TileMeas} :
    GoesKept s (execBackgroundSetDone n times tiles t) :=
  .happen (ite h (ite (ite h.acceptSet (h.modRing.raise.thenIf (·.putB.ringFaultShow)))
    (ite (ite h.acceptSet.unwrapQueue h.modRing.raise) h)))

theorem locate_ (h : Kept s t) {a b : Nat} : Kept s (t.locate_ n a b) :=
  h.incSat.raise.log.modRing.branch (·.put.put) (·.modRing)

theorem breakSeen (h : Kept s t) {a b : Nat} : Kept s (t.breakSeen n a b) := ite h h.locate_

theorem linkBreak (h : Kept s t) {a b : Nat} : Kept s (t.linkBreak n a b) := ite h.ringFail (ite h.breakSeen h)

theorem execPortLinkDown (h : Kept s t) : GoesKept s (execPortLinkDown n side t) := by
  unfold Machine.execPortLinkDown
  dsimp only
  refine .happen (ite h.modRing ?_)
  split
  · exact h.modRing.linkBreak
  · exact h.modRing.linkBreak

theorem execPortLinkUp (h : Kept s t) : GoesKept s (execPortLinkUp n side t) := .happen h.modRing

theorem execAlarm (h : Kept s t) {posA posB : Nat} : GoesKept s (execAlarm n posA posB t) := .happen h.linkBreak

theorem splitEnter (h : Kept s t) : Kept s (t.splitEnter n) := by
  unfold State.splitEnter
  dsimp only
  split
  · exact h
  · exact ite h h.put.putB.put.put.modRing

theorem execSplitEntry (h : Kept s t) : GoesKept s (execSplitEntry n t) := .happen h.splitEnter

theorem execRejoinSetStart (h : Kept s t) : GoesKept s (execRejoinSetStart n t) := .happen (ite h.modRing h)

theorem execRejoin (h : Kept s t) {confirmA confirmB : Bool} : GoesKept s (execRejoin n confirmA confirmB t) := by
  unfold Machine.execRejoin
  dsimp only
  refine .happen ?_
  split
  · exact h
  · exact ite h (ite h.unwrapFail h.put.putB.put.put.modRing.raise.logReg)

theorem mendCount (h : Kept s t) {blocks : List TileBlock} : Kept s (t.mendCount n blocks) := ite h h.modRing

theorem sendFrame (h : Kept s t) {p : Side × Nat} {op addr : Nat} {payload : List Byte} :
    Kept s (t.sendFrame n p op addr payload) :=
  h.emit

theorem execTrigSend (h : Kept s t) : GoesKept s (execTrigSend n t) := .happen (h.splitEnter.thenIf (·.foldl (·.emit)))

theorem execCollectSend (h : Kept s t) : GoesKept s (execCollectSend n t) := .happen (ite (h.foldl (·.sendFrame)) h)

theorem execReadSend (h : Kept s t) : GoesKept s (execReadSend n t) := by
  unfold Machine.execReadSend
  dsimp only
  refine .happen (ite h (ite (ite ?_ h.modRing) (ite h ?_)))
  · split
    · exact h.modRing.sendFrame.incSat
    · exact h.modRing
  · split
    · exact h
    · split
      · exact h
      · exact h.sendFrame.incSat.modRing

theorem execCommandFrameSend (h : Kept s t) : GoesKept s (execCommandFrameSend n t) := by
  unfold Machine.execCommandFrameSend
  dsimp only
  refine .happen (ite h ?_)
  split
  · exact h
  · split
    · exact h
    · exact ite h.modRing.modRing h.modRing |>.foldl (·.sendFrame)

theorem retryQueue (h : Kept s t) : Kept s (t.retryQueue n) := h.modRing.foldl (·.queueFrame)

theorem probeQueue (h : Kept s t) : Kept s (t.probeQueue n) :=
  ite h (h.queueFrame.modRing.thenIf (·.foldl (·.queueFrame)))

/-! ## Cell integrity and balancing -/

theorem owSet (h : Kept s t) {w : OwTest} : Kept s (t.owSet n w) := h.modCdiag.queueFrame

theorem owDrop (h : Kept s t) {w : OwTest} : Kept s (t.owDrop n w) := h.modCdiag.modRing

theorem slotSet (h : Kept s t) : Kept s (t.slotSet n e tile) := by
  unfold State.slotSet
  split
  · exact h.owSet
  · split
    · exact h.modCdiag.owSet
    · exact ite h.owSet h

theorem owSchedule (h : Kept s t) : Kept s (t.owSchedule n e) := ite h (h.modCdiag.foldl (fun h => ite h.slotSet h))

theorem owWait (h : Kept s t) {tap slots : Nat} : Kept s (t.owWait n tile tap slots) := ite h h.modCdiag

theorem owForce (h : Kept s t) {tap slots : Nat} : Kept s (t.owForce n tile tap slots) := by
  unfold State.owForce
  dsimp only
  split
  · exact h.owWait
  · split
    · exact h.owSet.owWait
    · exact ite h.owWait h.owDrop.owSet.owWait

theorem owRemode (h : Kept s t) : Kept s (t.owRemode n) :=
  h.foldl (·.owDrop) |>.modCdiag.foldl (·.owSchedule) |>.foldl (fun h => ite h h.queueFrame)

theorem owDue (h : Kept s t) {tap : Nat} : Kept s (t.owDue n tile tap) := ite h h.modCdiag

theorem suspShow (h : Kept s t) : Kept s (t.suspShow n) := h.put.setReg.setCause

theorem suspPositive (h : Kept s t) {tap : Nat} : Kept s (t.suspPositive n tile tap) :=
  h.incSat.raise.branch (·.modCdiag.suspShow) (·.modCdiag.suspShow.thenIf (·.tripC))

theorem suspNegative (h : Kept s t) {tap : Nat} : Kept s (t.suspNegative n tile tap) := by
  unfold State.suspNegative
  dsimp only
  split
  · exact h
  · exact ite h (ite h.modCdiag.incSat.raise.suspShow h.modCdiag)

theorem suspClear (h : Kept s t) : Kept s (t.suspClear n) := h.modCdiag.suspShow.foldl (·.owForce)

theorem doCdiagCmd (h : Kept s t) {v : Word} : Kept s (t.doCdiagCmd n v).2 :=
  iteSnd h (iteSnd (iteSnd h.suspClear h) (iteSnd (iteSnd h h.owForce) h))

theorem execCdiagClear (h : Kept s t) : GoesKept s (execCdiagClear src n t) := .answer (h.gated (·.doCdiagCmd))

theorem cdiagCmdGated (h : Kept s t) {w : Word} :
    Kept s (t.gated src (pgCDIAG n) 0x03C w (fun t => t.doCdiagCmd n w)).2 :=
  h.gated fun h => h.doCdiagCmd

theorem execCdiagForce (h : Kept s t) {tap : Nat} :
    GoesKept s (execCdiagForce src n tile tap t) := .answer h.cdiagCmdGated

theorem owEval (h : Kept s t) {blocks : List TileBlock} {prev : EpochBuf} {tap : Nat} :
    Kept s (t.owEval n blocks prev e tile tap) := by
  unfold State.owEval
  refine ite h ?_
  have hd : Kept s (match (t.owJudge n (blocks.find? (fun b => b.addr == tile)) prev e tile tap).2 with
      | some d => (d, t) | none => (t.draw.1.toNat % 4096, t.draw.2)).2 := by
    split
    · exact h
    · exact h.draw
  exact branch hd.setReg (fun h => h.suspPositive) fun h => ite h.suspNegative (elseIf h.incSat fun h => h.owDue)

theorem owEvalAll (h : Kept s t) {blocks : List TileBlock} {prev : EpochBuf} : Kept s (t.owEvalAll n blocks prev e) :=
  h.foldl (·.owEval) |>.modCdiag

theorem driftCheck (h : Kept s t) : Kept s (t.driftCheck n b) := by
  unfold State.driftCheck
  dsimp only
  refine ite h (modCdiag ?_)
  split
  · exact h
  · exact h.foldl (fun h => ite h.owDue h)

theorem endTap (h : Kept s t) {prev : EpochBuf} {k : TileBlock} : Kept s (t.endTap n prev k) :=
  ite h.putB.raise.log h |>.thenIf (·.putB.raise.log)

theorem cmpCheck (h : Kept s t) {blocks : List TileBlock} : Kept s (t.cmpCheck n b blocks) :=
  ite h (ite h.modCdiag.putB.raise.logReg h.modCdiag)

theorem cmpSend (h : Kept s t) : Kept s (t.cmpSend n) := ite h.queueFrame h

theorem balTile (h : Kept s t) : Kept s (t.balTile n b tile) :=
  ite h.raise h |>.putBit.setReg.modBal.thenIf (·.modBal.queueFrame)

theorem balClose (h : Kept s t) : Kept s (t.balClose n b) :=
  ite (h.modBal.foldl (·.balTile)) h.modBal.put |>.put.putI.put

theorem balMode (h : Kept s t) : Kept s (t.balMode n) := ite h (ite h.modBal.balZero h.modBal)

theorem balOutcome (h : Kept s t) {ws : List Word} {ok : Bool} : Kept s (t.balOutcome n tile ws ok) :=
  ite h.modBal.putBit (ite h.modBal h.modBal.modRing |>.thenIf (·.putBit.raise.logReg))

theorem execBalAutoRun (h : Kept s t) : GoesKept s (execBalAutoRun n t) := .happen (ite h.modBal h)

theorem doHcmd (h : Kept s t) {v : Word} : Kept s (t.doHcmd n v).2 := iteSnd h (iteSnd h h.modBal)

theorem execBalHcmd (h : Kept s t) {v : Word} : GoesKept s (execBalHcmd src n v t) := .answer (h.gated (·.doHcmd))

theorem execBalHcmdLapse (h : Kept s t) {cell : Nat} : GoesKept s (execBalHcmdLapse n tile cell t) := by
  unfold Machine.execBalHcmdLapse
  dsimp only
  refine .happen ?_
  split
  · exact ite h.modBal h
  · exact h

/-! ## The percolator -/

theorem percFeed (h : Kept s t) : Kept s (t.percFeed n b) := ite h.modPerc h.modPerc.raise

theorem execOutputImageSend (h : Kept s t) : GoesKept s (execOutputImageSend n t) :=
  .happen (ite h.modRing.queueFrame h)

theorem freeResult (h : Kept s t) {ok : Bool} : Kept s (t.freeResult n tile ok) := h.modPerc

theorem execFreeOutputWrite (h : Kept s t) {inst : Word} {out : Nat} {on : Bool} :
    GoesKept s (execFreeOutputWrite n inst tile out on t) := by
  unfold Machine.execFreeOutputWrite
  dsimp only
  refine .happen ?_
  split
  · exact h
  · exact ite h (ite h.modPerc.freeResult h.modPerc.modRing.queueFrame)

theorem percOutcome (h : Kept s t) {f : CmdFrame} {ok : Nat → Bool} : Kept s (t.percOutcome n f ok) :=
  ite (ite h.put h.put.raise) h.freeResult

theorem execSyncCycleStart (h : Kept s t) {task : Nat} : GoesKept s (execSyncCycleStart n task t) := by
  unfold Machine.execSyncCycleStart
  dsimp only
  refine .happen ?_
  split
  · exact h
  · exact ite h.modPerc h

theorem taskTime (h : Kept s t) {k : Nat} : Kept s (t.taskTime n k) := h.draw.put.put

theorem execSyncDeadline (h : Kept s t) {task : Nat} {finished : Bool} {outs : List (Nat × Nat × Bool)} :
    GoesKept s (execSyncDeadline n task finished outs t) :=
  .happen (ite h (ite h.modPerc.taskTime h.put.percStop))

theorem execFreeWdog (h : Kept s t) {task : Nat} : GoesKept s (execFreeWdog n task t) := .happen (ite h.put.percStop h)

theorem execFreeSwitch (h : Kept s t) : GoesKept s (execFreeSwitch n t) := by
  unfold Machine.execFreeSwitch
  dsimp only
  refine .happen (ite h ?_)
  split
  · exact h.modPerc.taskTime
  · exact h.modPerc.taskTime
  · exact h

theorem percRun (h : Kept s t) : Kept s (t.percRun n) := h.put.modPerc.setRegs

theorem doPercCtrl (h : Kept s t) {v : Word} : Kept s (t.doPercCtrl n v).2 := by
  unfold State.doPercCtrl
  dsimp only
  refine iteSnd h (iteSnd h.setReg ?_)
  split
  · exact h.setReg.percStop
  · exact iteSnd h.setReg.percRun h
  · exact iteSnd h.setReg.put.modPerc h

theorem percMode (h : Kept s t) {m : Nat} : Kept s (t.percMode src n m).2 := h.gated (·.doPercCtrl)

theorem execPercModeRun (h : Kept s t) : GoesKept s (execPercModeRun src n t) := .answer h.percMode

theorem execPercModeStop (h : Kept s t) : GoesKept s (execPercModeStop src n t) := .answer h.percMode

theorem execPercModeHold (h : Kept s t) : GoesKept s (execPercModeHold src n t) := .answer h.percMode

theorem doProgAddr (h : Kept s t) {v : Word} : Kept s (t.doProgAddr n v).2 := iteSnd h h.put

theorem progNext (h : Kept s t) : Kept s (t.progNext n) := h.put

theorem doProgData (h : Kept s t) {v : Word} : Kept s (t.doProgData n v).2 := h.modPerc.progNext

theorem readProgData (h : Kept s t) : Kept s (t.readProgData n).1 := h.progNext

theorem execProgDataAccess (h : Kept s t) {w : Option Word} : GoesKept s (execProgDataAccess src n w t) := by
  unfold Machine.execProgDataAccess
  dsimp only
  split
  · exact .answer (h.gated (·.doProgData))
  · split
    · exact .next h.readProgData.frame
    · exact .answer h

theorem doPercCmd (h : Kept s t) {v : Word} : Kept s (t.doPercCmd src n v).2 :=
  iteSnd h (iteSnd h (iteSnd (iteSnd h h.put.modPerc) (iteSnd (iteSnd h h.modPerc) h)))

theorem execLoad (h : Kept s t) : GoesKept s (execLoad src n t) := .answer (h.gated (·.doPercCmd))

theorem execExchange (h : Kept s t) : GoesKept s (execExchange src n t) := .answer (h.gated (·.doPercCmd))

theorem execRetInit (h : Kept s t) : GoesKept s (execRetInit src n t) := .answer (h.gated (·.doPercCmd))

theorem progRefuse (h : Kept s t) {code : Nat} : Kept s (t.progRefuse n code) := h.put.put.raise

theorem progShow (h : Kept s t) : Kept s (t.progShow n) := h.setRegs.setRegs.setReg.putB

theorem progInstall (h : Kept s t) {info : ProgInfo} {img : Mem} : Kept s (t.progInstall n info img) :=
  h.modPerc.progShow

theorem execProgCheckDone (h : Kept s t) {info : ProgInfo} : GoesKept s (execProgCheckDone n info t) :=
  .happen (ite h (ite h.progRefuse (ite h.progInstall.put h.put.modPerc)))

theorem execXdone (h : Kept s t) {x : ExchangePoint} : GoesKept s (execXdone n x t) := by
  unfold Machine.execXdone
  dsimp only
  refine .happen ?_
  split
  · exact h
  · exact ite h (ite h.progInstall.modPerc.put.incSat.raise.logReg (ite h.progRefuse.modPerc h))

theorem execProgFlashWrite (h : Kept s t) : GoesKept s (execProgFlashWrite n t) := .happen (ite h.modPerc h)

theorem retainSave (h : Kept s t) : Kept s (t.retainSave n) := h.modPerc

theorem execRetainCopy (h : Kept s t) : GoesKept s (execRetainCopy n t) := .happen (ite h.retainSave.modPerc h)

theorem percBoot (h : Kept s t) : Kept s (t.percBoot n) := by
  unfold State.percBoot
  dsimp only
  refine thenIf ?_ (·.putB)
  split
  · exact h.modPerc
  · exact h.modPerc.progShow

theorem percAuto (h : Kept s t) : Kept s (t.percAuto n) := ite h.percRun h

/-! ## Impedance -/

theorem impResched (h : Kept s t) : Kept s (t.impResched n) := ite h.modImp h

theorem impDue (h : Kept s t) : Kept s (t.impDue n) := h.modImp.modImp

theorem impPhase (h : Kept s t) {ph : Nat} {inj : Bool} : Kept s (t.impPhase n ph inj) := h.put.putB

theorem impPublish (h : Kept s t) {r : ImpRes} : Kept s (t.impPublish n r) := h.modImp.seqPage

theorem blockVoid (h : Kept s t) {cause : Nat} : Kept s (t.blockVoid n cause) := h.impPhase.impPublish.raise

theorem voidBy (h : Kept s t) {cause : Nat} : Kept s (t.voidBy n cause) := ite h.blockVoid h

theorem execBlockVoid (h : Kept s t) {cause : Nat} : GoesKept s (execBlockVoid n cause t) := .happen (ite h.voidBy h)

theorem impAbort (h : Kept s t) : Kept s (t.impAbort n) := by
  unfold State.impAbort
  dsimp only
  refine ite h.voidBy (ite h ?_)
  split
  · exact h
  · exact h.modImp.impPublish.raise.impResched

theorem execImpLeadinStart (h : Kept s t) : GoesKept s (execImpLeadinStart n t) := by
  unfold Machine.execImpLeadinStart
  dsimp only
  refine .happen ?_
  split
  · exact h
  · exact ite h (ite h h.setRaise |>.branch (·.modImp.modCtle.impPhase.impResched) (·.incSat.raise.modImp.impResched))

theorem execImpedanceAccumulation (h : Kept s t) : GoesKept s (execImpedanceAccumulation n t) :=
  .happen (ite h (ite h.put h |>.modImp))

theorem execImpBlockEnd (h : Kept s t) : GoesKept s (execImpBlockEnd n t) := .happen (ite h.impPhase h)

theorem observe (h : Kept s t) {re soc x imin imax : Rat} : Kept s (t.observe n i re soc x imin imax) :=
  ite h.incSat h.modEst

theorem blockDone (h : Kept s t) : Kept s (t.blockDone n) := by
  unfold State.blockDone
  dsimp only
  refine ite h (ite h.blockVoid (h.impPublish.impPhase.putB.incSat.raise.foldl (fun h => ?_)))
  split
  · exact h.observe
  · exact h

theorem execBlockDone (h : Kept s t) : GoesKept s (execBlockDone n t) := .happen h.blockDone

theorem doImpCtrl (h : Kept s t) {v : Word} : Kept s (t.doImpCtrl n v).2 :=
  iteSnd h (iteSnd h.setReg.voidBy.modImp (iteSnd h.setReg.impDue h.setReg))

theorem doImpCmd (h : Kept s t) {v : Word} : Kept s (t.doImpCmd n v).2 :=
  iteSnd h (iteSnd (iteSnd h h.modImp) (iteSnd h.impAbort h))

theorem execImpStart (h : Kept s t) : GoesKept s (execImpStart src n t) := .answer (h.gated (·.doImpCmd))

theorem execImpAbort (h : Kept s t) : GoesKept s (execImpAbort src n t) := .answer (h.gated (·.doImpCmd))

/-! ## Profiles and valve axes -/

theorem doCurTarget (h : Kept s t) {v : Word} : Kept s (t.doCurTarget src n v).2 :=
  iteSnd h (iteSnd h (iteSnd h h.modCtle.setReg))

theorem doLimit (h : Kept s t) {r : LimReg} {v : Word} : Kept s (t.doLimit n r v).2 := by
  unfold State.doLimit
  dsimp only
  refine iteSnd h ?_
  split
  · exact h.setReg.modProf
  · exact h.setReg.modCtle
  · exact h.setReg.modCtle

theorem setVlv (h : Kept s t) {pl : Plan} : Kept s (t.setVlv n pl) := ite h h.modProf.putB

theorem vlvResync (h : Kept s t) : Kept s (t.vlvResync n) := h.vlvHold.modVax

theorem coilsOn (h : Kept s t) : Kept s (t.coilsOn n) := ite h.putB.putB.vlvResync h

theorem faultCoils (h : Kept s t) {code : Nat} : Kept s (t.faultCoils n code) :=
  ite h h.putB |>.branch (·.coilsOff.modVax) (fun h => ite h.putB h)

theorem axisFault (h : Kept s t) {code : Nat} : Kept s (t.axisFault n code) :=
  ite h.faultCoils h.put.vlvHold.modVax.putB.putB.faultCoils.raise.pageFault

theorem doVlvTarget (h : Kept s t) {v : Word} : Kept s (t.doVlvTarget n v).2 :=
  iteSnd h (iteSnd h (iteSnd h h.modProf.setReg))

theorem doStop (h : Kept s t) {v : Word} : Kept s (t.doStop n v).2 := iteSnd h (iteSnd h h.modProf)

theorem vlvStop (h : Kept s t) {k : Kin} : Kept s (t.vlvStop n k) := h.setVlv.setReg

theorem vlvLimitWrite (h : Kept s t) {k : Kin} : Kept s (t.vlvLimitWrite n k) :=
  ite h.setVlv (ite h.setVlv.setRaise h.setRaise)

theorem vlvReplan (h : Kept s t) : Kept s (t.vlvReplan n) :=
  ite h.vlvStop (ite h.setVlv.putB (ite h.vlvLimitWrite h)) |>.modProf

theorem vlvDone (h : Kept s t) : Kept s (t.vlvDone n) := ite h.putB.putB.raise h

theorem homeRun (h : Kept s t) {fast : Bool} : Kept s (t.homeRun n fast) := h.setVlv

theorem homeStart (h : Kept s t) : Kept s (t.homeStart n) := by
  unfold State.homeStart
  dsimp only
  split
  · exact h.putB.putB.modVax.modVax
  · exact h.putB.putB.modVax.homeRun.modVax
  · exact h.putB.putB.modVax.homeRun.modVax

theorem homeMap (h : Kept s t) {p : Int} : Kept s (t.homeMap n p) := h.modVax.modProf

theorem homeRef (h : Kept s t) {p : Int} {stall : Bool} : Kept s (t.homeRef n p stall) :=
  ite h.homeMap.vlvResync h.homeMap |>.setVlv.modVax

theorem clrFault (h : Kept s t) : Kept s (t.clrFault n) :=
  ite h (h.put.pageFault.modVax.putB.putB.elseIf (·.modVax.coilsOn) |>.thenIf (·.vlvResync))

theorem doVaxCtrl (h : Kept s t) {v : Word} : Kept s (t.doVaxCtrl n v).2 :=
  iteSnd h (iteSnd h (iteSnd h (ite h.setReg.clrFault h.setReg |>.thenIf (·.homeStart))))

theorem devShow (h : Kept s t) : Kept s (t.devShow n) := h.put

theorem vlvStep (h : Kept s t) : Kept s (t.vlvStep n) := h.modVax.putB.thenIf (·.putB)

theorem vlvEval (h : Kept s t) {count : Int} : Kept s (t.vlvEval n count) :=
  ite h.modVax.modVax.putB.devShow
    (ite h.modVax.vlvReplan h.modVax
    |>.vlvStep.devShow.vlvDone.branch (fun h => ite (ite h.homeRef h) h.axisFault) (fun h => ite h.homeRun.modVax h))

theorem execVlvEval (h : Kept s t) {count : Int} : GoesKept s (execVlvEval n count t) := .happen h.vlvEval

theorem execFe (h : Kept s t) : GoesKept s (execFe n t) := by
  unfold Machine.execFe
  refine .happen ?_
  split
  · exact ite h.raise.axisFault h
  · exact h

theorem execEnc (h : Kept s t) : GoesKept s (execEnc n t) := .happen (ite h h.axisFault)

theorem execCoil (h : Kept s t) : GoesKept s (execCoil n t) := .happen (ite h.axisFault h)

theorem execMotorSupplyFault (h : Kept s t) {ov : Bool} : GoesKept s (execMotorSupplyFault ov t) :=
  .happen (h.eachCh (fun h => ite h.modVax.axisFault h.modVax))

theorem execMotorSupplyRecover (h : Kept s t) {mv : Nat} : GoesKept s (execMotorSupplyRecover mv t) := by
  unfold Machine.execMotorSupplyRecover
  refine .happen (h.eachCh (fun h => ?_))
  split
  · exact h
  · exact ite h.modVax h

theorem execIholdTimer (h : Kept s t) : GoesKept s (execIholdTimer n t) := .happen (ite h.putB h)

theorem setLim (h : Kept s t) {hi : Bool} {l : LimS} : Kept s (t.setLim n hi l) := h.modVax

theorem execLimitTransition (h : Kept s t) {hi level : Bool} : GoesKept s (execLimitTransition n hi level t) :=
  .happen (ite h.setLim.setLim.putB.axisFault h.setLim)

theorem limitEdge (h : Kept s t) {hi : Bool} : Kept s (t.limitEdge n hi) := by
  unfold State.limitEdge
  dsimp only
  refine ite (ite ?_ (ite h.axisFault (ite h.axisFault (ite h.axisFault h)))) (ite h.axisFault h)
  split
  · exact h.setVlv.modVax
  · exact h.homeRef
  · exact h

theorem execLimitQualified (h : Kept s t) {hi : Bool} : GoesKept s (execLimitQualified n hi t) :=
  .happen (ite (h.setLim.putB.thenIf (·.limitEdge)) h)

theorem execHomeComplete (h : Kept s t) : GoesKept s (execHomeComplete n t) :=
  .happen (ite (ite h.homeMap h |>.vlvResync.modVax.putB.putB.raise) h)

theorem execHomeTmo (h : Kept s t) : GoesKept s (execHomeTmo n t) := .happen (ite h.axisFault h)

theorem vaxSample (h : Kept s t) : Kept s (t.vaxSample n) := h.modVax

theorem vaxShow (h : Kept s t) {pos : Int} {epoch : Nat} {holdover : Bool} : Kept s (t.vaxShow n pos epoch holdover) :=
  h.setReg.seqPage

/-! ## The allocator -/

theorem restEnd (h : Kept s t) : Kept s t.restEnd := h.putB.frame.raise.logReg

theorem restOffer (h : Kept s t) : Kept s t.restOffer := by
  unfold State.restOffer
  dsimp only
  refine ite h ?_
  split
  · exact h
  · exact h.putB.put.frame.doCurTarget.raise

theorem execRestWindowEnd (h : Kept s t) : GoesKept s (execRestWindowEnd t) := .happen (ite h.restEnd h)

theorem allocLimits (h : Kept s t) : Kept s t.allocLimits := h.frame

theorem allocShow (h : Kept s t) {members : List Ch} {short : Rat} : Kept s (t.allocShow members short) :=
  ite h h.put.raise |>.putB.put.thenIf (·.raise)

theorem allocRun (h : Kept s t) : Kept s t.allocRun :=
  h.frame.allocLimits.thenIf (·.restEnd)
    |>.restOffer.branch (·.allocShow) (fun h => h.foldl (fun h => ite h h.doCurTarget) |>.allocShow.frame)

theorem execAllocRun (h : Kept s t) : GoesKept s (execAllocRun t) := .happen (ite h h.allocRun)

theorem doPcmd (h : Kept s t) {v : Word} : Kept s (t.doPcmd v).2 := iteSnd h h.setReg.frame

theorem execPcmdWrite (h : Kept s t) {v : Word} : GoesKept s (execPcmdWrite src v t) := .answer (h.gated (·.doPcmd))

theorem execPcmdTmo (h : Kept s t) : GoesKept s (execPcmdTmo t) := .happen (ite h.frame.putB.raise.logReg h)

theorem doAllocCtrl (h : Kept s t) {v : Word} : Kept s (t.doAllocCtrl v).2 := iteSnd h h.setReg

/-! ## Thermal management -/

theorem throttle (h : Kept s t) {on : Bool} : Kept s (t.throttle on) :=
  h.eachCh (fun h => ite h.putB.putB.voidBy h.putB.putB)

theorem dieSensor (h : Kept s t) {k : Nat} {o : Option Int} : Kept s (t.dieSensor k o) := by
  unfold State.dieSensor
  dsimp only
  refine ite h (elseIf ?_ (·.putBit.put.raise.logReg.limp))
  split
  · exact h.frame.put
  · exact h.frame

theorem shutdown (h : Kept s t) : Kept s t.shutdown := ite h (ite h.frame h.enterHalt)

theorem tmodShow (h : Kept s t) {x : Option (Int × Nat)} : Kept s (t.tmodShow x) := by
  unfold State.tmodShow
  split
  · exact h.put.put
  · exact h

theorem levelEvents (h : Kept s t) {old th : ThermS} : Kept s (t.levelEvents old th) :=
  h.foldl (fun h => ite h h.raise.logReg)

theorem levelChange (h : Kept s t) {old th : ThermS} : Kept s (t.levelChange old th) :=
  h.frame.put.levelEvents.elseIf (·.throttle) |>.thenIf (·.shutdown)

theorem dieSample (h : Kept s t) {l : List (Option Int)} : Kept s (t.dieSample l) :=
  (h.foldl fun h => h.dieSensor).tmodShow.levelChange

theorem execDieSample (h : Kept s t) {l : List (Option Int)} : GoesKept s (execDieSample l t) :=
  .happen (ite h.dieSample h)

theorem execCompensationStep (h : Kept s t) : GoesKept s (execCompensationStep t) := .happen (ite h.frame h)

theorem thermLimit (h : Kept s t) {axes : List Word} : Kept s (t.thermLimit axes n) :=
  ite h (h.put.put.frame.elseIf (·.putBit.raise))

theorem takeAxes (h : Kept s t) : Kept s t.takeAxes := ite h.frame (ite h h.setRaise)

theorem execThermLimitEval (h : Kept s t) : GoesKept s (execThermLimitEval t) :=
  .happen (ite h (h.takeAxes.eachCh (·.thermLimit)))

/-! ## Plant time -/

theorem modClock (h : Kept s t) {f : ClockS → ClockS} : Kept s (t.modClock f) := h.frame

theorem ptpLose (h : Kept s t) : Kept s t.ptpLose := ite h h.putB.putB.modClock.incSat.raise

theorem ptpLock (h : Kept s t) {portB : Bool} : Kept s (t.ptpLock portB) := ite h h.putB.putB.putB.putB.modClock.raise

theorem ptpAct (h : Kept s t) {o : Int} : Kept s (t.ptpAct o) :=
  ite h.modClock (ite h.modClock.modClock.putB h.modClock.modClock)

theorem ptpPair (h : Kept s t) {m : SyncMsg} : Kept s (t.ptpPair m) := by
  unfold State.ptpPair
  dsimp only
  refine ite h ?_
  split
  · exact ite h.modClock.ptpAct h.modClock
  · exact h.modClock

theorem ptpUse (h : Kept s t) {m : SyncMsg} : Kept s (t.ptpUse m) :=
  h.putI.put.modClock.ptpPair.branch (·.ptpLose) (·.ptpLock)

theorem execPtpSync (h : Kept s t) {m : SyncMsg} : GoesKept s (execPtpSync m t) :=
  .happen (ite h (ite (ite h h.put) h.ptpUse))

theorem execPtpSyncTimeout (h : Kept s t) : GoesKept s (execPtpSyncTimeout t) := .happen (ite h.ptpLose h)

theorem execSlewEnd (h : Kept s t) : GoesKept s (execSlewEnd t) := by
  unfold Machine.execSlewEnd
  dsimp only
  refine .happen ?_
  split
  · exact h
  · exact ite h h.modClock.putB.ptpLock

theorem epochJump (h : Kept s t) {before after : Nat} : Kept s (t.epochJump before after) := h.log

theorem execStep (h : Kept s t) : GoesKept s (execStep t) := by
  unfold Machine.execStep
  dsimp only
  refine .happen ?_
  split
  · exact h
  · exact ite h h.modClock.incSat.raise.epochJump

theorem execPtpPathDelay (h : Kept s t) {portB : Bool} {ns : Int} : GoesKept s (execPtpPathDelay portB ns t) :=
  .happen (ite h h.modClock.ptpLock)

theorem ptpDecide (h : Kept s t) : Kept s t.ptpDecide := h.put.put

theorem execPtpAnnounce (h : Kept s t) {m : AnnounceMsg} : GoesKept s (execPtpAnnounce m t) :=
  .happen (ite h h.modClock.ptpDecide)

theorem execPtpMasterSync (h : Kept s t) : GoesKept s (execPtpMasterSync t) :=
  .happen (ite h (h.ptpDecide.foldl (fun h => ite h.emit.emit h)))

theorem execPtpForward (h : Kept s t) {m : FwdMsg} : GoesKept s (execPtpForward m t) := .happen (ite h.emit h)

theorem ptpRestart (h : Kept s t) : Kept s t.ptpRestart := h.ptpLose.modClock.put.put

theorem doPtpCtrl (h : Kept s t) {v : Word} : Kept s (t.doPtpCtrl v).2 := iteSnd h h.setReg.ptpRestart

theorem execPtpCtrlWrite (h : Kept s t) {v : Word} : GoesKept s (execPtpCtrlWrite src v t) :=
  .answer (h.gated (·.doPtpCtrl))

/-! ## CAN -/

theorem modCan (h : Kept s t) {f : CanS → CanS} : Kept s (t.modCan f) := h.frame

theorem setTx (h : Kept s t) {k v : Nat} : Kept s (t.setTx k v) := ite h.setReg.raise h.setReg

theorem doTxb (h : Kept s t) {k w : Nat} {v : Word} : Kept s (t.doTxb k w v).2 := iteSnd h h.setReg

theorem doTxcmd (h : Kept s t) {v : Word} : Kept s (t.doTxcmd v).2 :=
  iteSnd h (iteSnd h (iteSnd h (h.foldl (fun h => ite h h.setTx) |>.foldl (fun h => ite h.setTx (ite h.putBit h)))))

theorem execCanTxReq (h : Kept s t) {mask : BitVec 3} : GoesKept s (execCanTxReq src mask t) :=
  .answer (h.gated (·.doTxcmd))

theorem execCanTxCancel (h : Kept s t) {mask : BitVec 3} : GoesKept s (execCanTxCancel src mask t) :=
  .answer (h.gated (·.doTxcmd))

theorem stamp (h : Kept s t) {k : Nat} : Kept s (t.stamp k) := h.setReg.setReg

theorem execCanTxArbitration (h : Kept s t) : GoesKept s (execCanTxArbitration t) := by
  unfold Machine.execCanTxArbitration
  refine .happen (ite h ?_)
  split
  · exact h
  · exact h.setTx.stamp.modCan

theorem errState (h : Kept s t) {v : Nat} : Kept s (t.errState v) := ite h h.put.raise

theorem errJudge (h : Kept s t) : Kept s t.errJudge := ite h h.errState

theorem statusQueue (h : Kept s t) : Kept s t.statusQueue := h.modCan.setReg.setReg.setReg.setReg.setTx

theorem execCanStatusFrame (h : Kept s t) : GoesKept s (execCanStatusFrame t) :=
  .happen (ite h (ite h (ite h.modCan h.statusQueue)))

theorem execCanTxComplete (h : Kept s t) : GoesKept s (execCanTxComplete t) := by
  unfold Machine.execCanTxComplete
  dsimp only
  refine .happen ?_
  split
  · exact h
  · exact h.emit.setTx.modCan.put.errJudge.thenIf (·.statusQueue)

theorem execCanTxError (h : Kept s t) {e : CanTxErr} : GoesKept s (execCanTxError e t) := by
  unfold Machine.execCanTxError
  dsimp only
  refine .happen ?_
  split
  · exact h
  · split
    · exact h.setTx.modCan
    · exact h.setTx.modCan.put.errJudge

theorem execCanBusOff (h : Kept s t) : GoesKept s (execCanBusOff t) := .happen (ite h h.errState)

theorem doCanCmd (h : Kept s t) {v : Word} : Kept s (t.doCanCmd v).2 := ite h.errState h

theorem execRecover (h : Kept s t) : GoesKept s (execRecover src t) := .answer (h.gated (·.doCanCmd))

theorem execCanRecoveryDone (h : Kept s t) : GoesKept s (execCanRecoveryDone t) := .happen (ite h.put.put.errState h)

theorem execCanBusJoin (h : Kept s t) : GoesKept s (execCanBusJoin t) := .happen (ite h.modCan h)

theorem canLeave (h : Kept s t) : Kept s t.canLeave := by
  unfold State.canLeave
  dsimp only
  refine modCan ?_
  split
  · exact h.setTx
  · exact h

theorem rxShow (h : Kept s t) : Kept s t.rxShow := ite h.put.putB.raise h.put.putB

theorem recDown (h : Kept s t) : Kept s t.recDown := ite h.put.errJudge h.draw.put.errJudge

theorem execCanRxFrame (h : Kept s t) {f : CanFrame} : GoesKept s (execCanRxFrame f t) :=
  .happen (ite h (ite h.recDown.incSat.modCan.raise h.recDown.modCan.rxShow))

theorem execCanRxError (h : Kept s t) : GoesKept s (execCanRxError t) := .happen (ite h.incSat.errJudge h)

theorem readRxWin (h : Kept s t) {w : Nat} : Kept s (t.readRxWin src w).2.1 := by
  unfold State.readRxWin
  split
  · exact h
  · split
    · exact iteSndFst h (iteSndFst h.modCan.rxShow h)
    · exact iteSndFst h.modCan.rxShow h

theorem rxRead (h : Kept s t) {k : Nat} : GoesKept s (t.rxRead src k) := by
  unfold State.rxRead
  split
  · exact .answerRead h.readRxWin
  · exact .answer h

theorem execCanRxLock (h : Kept s t) : GoesKept s (execCanRxLock src t) := h.rxRead

theorem execCanRxRelease (h : Kept s t) : GoesKept s (execCanRxRelease src t) := h.rxRead

theorem execLockTmo (h : Kept s t) : GoesKept s (execLockTmo t) := by
  unfold Machine.execLockTmo
  refine .happen ?_
  split
  · exact ite h.modCan.rxShow.putB h
  · exact h

theorem doCanCtrl (h : Kept s t) {v : Word} : Kept s (t.doCanCtrl v).2 := iteSnd h h.setReg

/-! ## Protection -/

theorem tripOnce (h : Kept s t) {cause path param : Nat} : Kept s (t.tripOnce n cause path param) :=
  ite h h.trip.modSafe

theorem decide_ (h : Kept s t) {l : List Demand} : Kept s (t.decide_ n l) := by
  unfold State.decide_
  dsimp only
  refine ite (h.foldl (·.trip)) ?_ |>.modSafe
  split
  · exact h.trip
  · exact h

theorem doConnect (h : Kept s t) : Kept s (t.doConnect n).2 :=
  iteSnd h h.enterState.put.putB.putB.modPour.modSafe.modCtle

theorem doDisconnect (h : Kept s t) : Kept s (t.doDisconnect n).2 := ite h.enterState h

theorem doContCmd (h : Kept s t) {v : Word} : Kept s (t.doContCmd n v).2 :=
  iteSnd h (iteSnd h.doConnect (iteSnd h.doDisconnect h))

theorem isolatedCheck (h : Kept s t) : Kept s (t.isolatedCheck n) := ite h.enterState.modSafe.raise h

theorem holdsOff (h : Kept s t) : Kept s (t.holdsOff n) := h.hold.modSafe

theorem execCurrentZero (h : Kept s t) : GoesKept s (execCurrentZero n t) :=
  .happen (ite h.holdsOff.modSafe.isolatedCheck h)

theorem execStopTmo (h : Kept s t) : GoesKept s (execStopTmo n t) := by
  unfold Machine.execStopTmo
  refine .happen ?_
  split
  · exact ite h.tripC h
  · exact h

theorem preStep (h : Kept s t) : Kept s (t.preStep n) := by
  unfold State.preStep
  dsimp only
  refine ite h ?_
  split
  · exact ite h.put.modSafe h
  · exact ite h.putB.put.modSafe h
  · exact ite h.putB.modSafe.put.modSafe h
  · exact ite h.modSafe.put.modSafe h
  · exact h

theorem execFbChange (h : Kept s t) {pos neg pre : Bool} : GoesKept s (execFbChange n pos neg pre t) :=
  .happen (h.putB.putB.putB.preStep.isolatedCheck.thenIf (·.modSafe))

theorem execFbClose (h : Kept s t) : GoesKept s (execFbClose n t) := .happen (ite h.tripC h)

theorem execPreTmo (h : Kept s t) : GoesKept s (execPreTmo n t) := .happen (ite h.tripC h)

theorem execWeld (h : Kept s t) : GoesKept s (execWeld n t) := .happen (ite (ite h.tripC.modSafe h.isolatedCheck) h)

theorem execTripOpen (h : Kept s t) : GoesKept s (execTripOpen n t) := by
  unfold Machine.execTripOpen
  refine .happen ?_
  split
  · exact ite h.holdsOff.putB.modSafe h
  · exact h

theorem execOvercurrentDetect (h : Kept s t) {aux : Bool} {mA : Int} : GoesKept s (execOvercurrentDetect n aux mA t) :=
  .happen (ite h.putB.pwmOff.modSafe h)

theorem execOvercurrent (h : Kept s t) : GoesKept s (execOvercurrent n t) := by
  unfold Machine.execOvercurrent
  refine .happen ?_
  split
  · exact ite h.trip.modSafe h
  · exact h

theorem siShow (h : Kept s t) {x : Nat} : Kept s (t.siShow n x) := h.putBit

theorem siLineShow (h : Kept s t) : Kept s (t.siLineShow n) := h.setCause

theorem siFollow (h : Kept s t) : Kept s (t.siFollow n) := h.foldl (·.siShow) |>.siLineShow

theorem execSiDemand (h : Kept s t) {input : Fin 4} {lineB : Bool} : GoesKept s (execSiDemand n input lineB t) :=
  .happen (ite h.modSafe.putBit.siShow.trip h)

theorem execTestPulseStart (h : Kept s t) {lineB : Bool} : GoesKept s (execTestPulseStart n lineB t) :=
  .happen (ite h h.modSafe)

theorem lineCheck (h : Kept s t) {lineB : Bool} {high cross level : BitVec 4} {x : Fin 4} :
    Kept s (t.lineCheck n lineB high cross level x) :=
  ite h (ite h.modSafe.putBit h
    |>.siShow.elseIf (fun h => ite (h.modSafe.putBit.raise.setCause.thenIf (·.trip)) h.modSafe))

theorem execTestPulse (h : Kept s t) {lineB : Bool} {high cross level : BitVec 4} :
    GoesKept s (execTestPulse n lineB high cross level t) :=
  .happen (ite h (h.modSafe.foldl (·.lineCheck)))

theorem execSiLineRestore (h : Kept s t) {input : Fin 4} {lineB : Bool} :
    GoesKept s (execSiLineRestore n input lineB t) :=
  .happen (ite h.putBit.logReg.siLineShow h)

theorem doReset (h : Kept s t) : Kept s (t.doReset src n).2 :=
  iteSnd h (iteSnd h (iteSnd h h.putB.putB.modSafe.enterState))

theorem doDegAck (h : Kept s t) : Kept s (t.doDegAck src n).2 := iteSnd h h.putB

theorem doSafeCmd (h : Kept s t) {v : Word} : Kept s (t.doSafeCmd src n v).2 :=
  iteSnd h (iteSnd h.doReset (iteSnd h.doDegAck h))

theorem execDegradeTmax (h : Kept s t) : GoesKept s (execDegradeTmax n t) :=
  .happen (ite h.putB.raise.logReg.enterState h)

theorem condUpdate (h : Kept s t) : Kept s t.condUpdate := ite (ite h h.put) (ite h h.put |>.raise)

theorem finding (h : Kept s t) {f : Option RF} {chans : List Ch} : Kept s (t.finding f chans) := by
  have hmask : Kept s (chans.foldl (fun t n => t.putBit F.HLTH_STAT_CHMASK n.val true) t) := h.foldl fun h => h.putBit
  cases f with
  | none => exact hmask.logReg
  | some f => exact hmask.setRaise.logReg

theorem limpChans (h : Kept s t) {l : List Ch} : Kept s (t.limpChans l) := h.foldl (·.setCause)

theorem timebaseFail (h : Kept s t) : Kept s t.timebaseFail :=
  ite (h.eachCh (fun h => ite h.modTwin.putBit.putB h)) h |>.enterHalt

theorem eccFound (h : Kept s t) {x : Nat × BitVec 39} : Kept s (t.eccFound n x) :=
  ite h.incSat.modFifo h.incSat.raise.logReg

theorem fifoScrub (h : Kept s t) : Kept s (t.fifoScrub n) := h.foldl (·.eccFound)

theorem execCremaCheck (h : Kept s t) {r : CremaResult} : GoesKept s (execCremaCheck r t) := by
  unfold Machine.execCremaCheck
  dsimp only
  refine .happen (ite h ?_)
  split
  · exact h.eachCh (·.fifoScrub) |>.elseIf (·.finding) |>.thenIf (·.finding.foldl (·.tripC) |>.limp)
  · exact ite (h.finding.foldl (·.tripC) |>.limp) h
  · exact ite h.finding.limp.limpChans h
  · exact ite h.finding.limp.limpChans h
  · exact ite h.finding h
  · exact ite h.finding.timebaseFail h
  · exact ite h.finding.putB.limp h

theorem execTripTest (h : Kept s t) {opened : Bool} : GoesKept s (execTripTest n opened t) :=
  .happen (ite h (ite h.finding.limp h.finding.tripC.limp))

theorem doHlthCtrl (h : Kept s t) {v : Word} : Kept s (t.doHlthCtrl src v).2 :=
  iteSnd h (h.putB.condUpdate.thenIf (·.logReg))

theorem execConnect (h : Kept s t) : GoesKept s (execConnect src n t) := .answer (h.gated (·.doConnect))

theorem execDisconnect (h : Kept s t) : GoesKept s (execDisconnect src n t) := .answer (h.gated (·.doDisconnect))

theorem execReset (h : Kept s t) : GoesKept s (execReset src n t) := .answer (h.gated (·.doReset))

theorem execDegAck (h : Kept s t) : GoesKept s (execDegAck src n t) := .answer (h.gated (·.doDegAck))

theorem execHlthDisable (h : Kept s t) : GoesKept s (execHlthDisable src t) := .answer (h.gated (·.doHlthCtrl))

/-! ## The sweep -/

theorem learnPop (h : Kept s t) {b : TileBlock} : Kept s (t.learnPop n b) := ite h h.modRing.put

theorem acceptBlock (h : Kept s t) {b : TileBlock} : Kept s (t.acceptBlock n b) :=
  ite (h.learnPop.modRing.elseIf (·.modPour)) h

theorem dataBlock (h : Kept s t) {l : List Byte} : Kept s (t.dataBlock n l) := by
  unfold State.dataBlock
  dsimp only
  split
  · exact ite h.ringMsg h |>.acceptBlock
  · exact h.incSat

theorem frameJudge (h : Kept s t) {x : SentFrame} : Kept s (t.frameJudge n x) := by
  unfold State.frameJudge
  dsimp only
  split
  · exact ite h.modRing h.modRing
  · exact h.foldl (·.balOutcome)
  · exact h.percOutcome
  · exact ite h.modRing h.unwrapFail
  · exact h

theorem statusCrc (h : Kept s t) {r : RxFrame} : Kept s (t.statusCrc n r) := h.foldl (·.incSat)

theorem writeReturn (h : Kept s t) {r : RxFrame} : Kept s (t.writeReturn n r) := by
  unfold State.writeReturn
  dsimp only
  split
  · exact h.statusCrc
  · exact ite h.statusCrc.modRing.frameJudge h.statusCrc.modRing

theorem wrapSeen (h : Kept s t) {w : Nat} : Kept s (t.wrapSeen n side w) := by
  unfold State.wrapSeen
  split
  · exact h.breakSeen
  · exact h.breakSeen

theorem collectSeen (h : Kept s t) : Kept s (t.collectSeen n) := h.modRing

theorem relay (h : Kept s t) {l : List Byte} : Kept s (t.relay n side l) :=
  ite h (ite (ite h (ite h.emit.ringMsg h.emit)) (ite h.emit h))

theorem startReturn (h : Kept s t) {l : List Byte} : Kept s (t.startReturn n l) := by
  unfold State.startReturn
  split
  · exact h.incSat
  · exact h.statusCrc

theorem frameReturn (h : Kept s t) {l : List Byte} : Kept s (t.frameReturn n side l) := by
  unfold State.frameReturn
  dsimp only
  refine ite h.startReturn (ite h (ite h ?_))
  split
  · exact h.incSat.collectSeen
  · split
    · exact ite h h.wrapSeen |>.foldl (·.dataBlock) |>.collectSeen
    · exact ite h h.wrapSeen |>.foldl (·.dataBlock)
    · exact ite h h.wrapSeen |>.writeReturn
    · exact ite h h.wrapSeen |>.statusCrc
    · exact ite h h.wrapSeen |>.statusCrc
    · exact ite h h.wrapSeen

theorem execFrameReturn (h : Kept s t) {bytes : List Byte} : GoesKept s (execFrameReturn n side bytes t) :=
  .happen h.relay.frameReturn

theorem pourStopAfter (h : Kept s t) : Kept s (t.pourStopAfter n) := ite h.modPour h.pourStop

theorem drivesOff (h : Kept s t) : Kept s (t.drivesOff n) := h.pwmOff.hold.coilsOff.put.modTwin.putBit.modSafe

theorem drivesOn (h : Kept s t) : Kept s (t.drivesOn n) := h.modSafe

theorem isolateGo (h : Kept s t) : Kept s (t.isolateGo n) :=
  ite h (ite h.pourStopAfter h.pourStop.drivesOff.modSafe.enterState.modSafe)

theorem pourShow (h : Kept s t) : Kept s (t.pourShow n b) := h.setReg

theorem pourSources (h : Kept s t) {old : EpochBuf} : Kept s (t.pourSources n old b) :=
  ite h.incSat h |>.thenIf (·.raise) |>.thenIf (·.raise.logReg)

theorem pourRuns (h : Kept s t) : Kept s (t.pourRuns n b) := h.modPour

theorem takeCount (h : Kept s t) : Kept s (t.takeCount n) := ite h (ite h.modTwin.tripC (ite h.modTwin h.modTwin))

theorem pourPublish (h : Kept s t) : Kept s (t.pourPublish n) :=
  ite h (h.modPour.balClose.vaxShow.pourShow.foldl (·.seqPage)
    |>.pourSources.pourRuns.estFeed.percFeed.modSafe.takeCount.thenIf (·.pourStop) |>.isolateGo)

theorem execPourPublish (h : Kept s t) : GoesKept s (execPourPublish n t) := .happen h.pourPublish

theorem pourCounts (h : Kept s t) : Kept s (t.pourCounts n b) := h.modPour

theorem lostBlocks (h : Kept s t) {got : Nat} : Kept s (t.lostBlocks n got) := ite h h.put.raise

theorem unreturned (h : Kept s t) : Kept s (t.unreturned n) := h.modRing.foldl (·.frameJudge)

theorem sweepClose (h : Kept s t) : Kept s (t.sweepClose n) :=
  ite h (h.pourPublish.owEvalAll.modPour.driftCheck.cmpCheck.foldl (·.endTap)
    |>.pourCounts.lostBlocks.decide_.unreturned.retryQueue.owSchedule.probeQueue.mendCount)

theorem execSweepClose (h : Kept s t) : GoesKept s (execSweepClose n t) := .happen h.sweepClose

theorem execStale (h : Kept s t) : GoesKept s (execStale n t) := by
  unfold Machine.execStale
  refine .happen ?_
  split
  · exact h.tripOnce
  · exact h

theorem execCellOt (h : Kept s t) : GoesKept s (execCellOt n t) := by
  unfold Machine.execCellOt
  refine .happen ?_
  split
  · exact h.tripOnce
  · exact h

theorem holdCheck (h : Kept s t) {i : SampleIn} : Kept s (t.holdCheck n i) := ite h.modPour.tripC h.modPour

theorem iPath (h : Kept s t) {i : SampleIn} : Kept s (t.iPath n i) := h.setCause

theorem sniffCheck (h : Kept s t) {ok : Bool} : Kept s (t.sniffCheck n ok) := ite h.modTwin.finding h.modTwin

theorem overrun (h : Kept s t) : Kept s (t.overrun n) := ite h.sweepClose.incSat.raise.logReg.tripC h

theorem sampleStart (h : Kept s t) {i : SampleIn} : Kept s (t.sampleStart n i) :=
  ite h.setReg h.setReg.raise |>.modPour.modRing.iPath.sniffCheck

theorem epochSample (h : Kept s t) {i : SampleIn} : Kept s (t.epochSample n i) :=
  h.overrun.holdCheck.vaxSample.balMode.branch (·.sampleStart) (·.modPour.modEst.vaxShow)

theorem execEpochSample (h : Kept s t) {i : SampleIn} : GoesKept s (execEpochSample n i t) := .happen h.epochSample

/-! ## The epoch FIFOs -/

theorem readAs (h : Kept s t) {src : Src} {pg : PageRef} {f : State → Status × State × Word}
    (hf : Kept s (f t).2.1) : GoesKept s (t.readAs src pg f) := by
  unfold State.readAs
  split
  · exact .answerRead hf
  · exact .answer h

theorem fifoShow (h : Kept s t) : Kept s (t.fifoShow n) := h.putB.put.put

theorem fifoDrop (h : Kept s t) : Kept s (t.fifoDrop n) := h.incSat.modFifo.raise

theorem fifoMake (h : Kept s t) {n : Ch} {len k : Nat} : Kept s (t.fifoMake n len k) := by
  induction k generalizing t with
  | zero => exact h
  | succ k ih => exact .ite h (ih h.put.fifoDrop)

theorem eccRead (h : Kept s t) {p : Nat} : Kept s (t.eccRead n p) := by
  unfold State.eccRead
  split
  · exact h.eccFound
  · exact h

theorem fifoCommit (h : Kept s t) : Kept s (t.fifoCommit n) :=
  ite h (ite h.modPour.fifoMake h.modPour
    |>.branch (·.fifoDrop.fifoShow) (·.modFifo.put.thenIf (·.putB.putB.raise) |>.fifoShow))

theorem fifoUpset (h : Kept s t) {x : Nat × BitVec 39} : Kept s (t.fifoUpset n x) := h.modFifo

theorem execFifoCommit (h : Kept s t) {c : FifoCommitIn} : GoesKept s (execFifoCommit c t) :=
  .happen (h.foldl (·.fifoUpset) |>.fifoCommit)

theorem fifoFlushed (h : Kept s t) : Kept s (t.fifoFlushed n) := h.put.putB.putB.modFifo.fifoShow

theorem readFifo (h : Kept s t) : Kept s (t.readFifo n).1 :=
  iteFst h.putB.raise (h.eccRead.put.modFifo.branch (·.fifoFlushed) (·.fifoShow))

theorem execFifoDataRead (h : Kept s t) : GoesKept s (execFifoDataRead src n t) := h.readAs h.readFifo

theorem doMark (h : Kept s t) : Kept s (t.doMark n).2 := iteSnd h h.put.putB.putB

theorem doRewind (h : Kept s t) : Kept s (t.doRewind n).2 := iteSnd h h.put.modFifo.fifoShow

theorem doFlush (h : Kept s t) : Kept s (t.doFlush n).2 := ite h.fifoFlushed h.putB

theorem doClrmark (h : Kept s t) : Kept s (t.doClrmark n).2 := h.putB

theorem doFifoCmd (h : Kept s t) {v : Word} : Kept s (t.doFifoCmd n v).2 := by
  unfold State.doFifoCmd
  split
  · exact h
  · exact h.doMark
  · exact h.doRewind
  · exact h.doFlush
  · exact h.doClrmark
  · exact h

theorem execMark (h : Kept s t) : GoesKept s (execMark src n t) := .answer (h.gated (·.doFifoCmd))

theorem execRewind (h : Kept s t) : GoesKept s (execRewind src n t) := .answer (h.gated (·.doFifoCmd))

theorem execFlush (h : Kept s t) : GoesKept s (execFlush src n t) := .answer (h.gated (·.doFifoCmd))

theorem execClrmark (h : Kept s t) : GoesKept s (execClrmark src n t) := .answer (h.gated (·.doFifoCmd))

theorem fifoReset (h : Kept s t) : Kept s (t.fifoReset n) := h.modFifo.foldl (·.setReg)

/-! ## Snapshots -/

theorem freezeCh (h : Kept s t) {data : Bool} : Kept s (t.freezeCh n e data) := h.modPour.modEst.modImp

theorem snapShow (h : Kept s t) {sel data : List Ch} : Kept s (t.snapShow sel data e) := h.setReg.setReg.setReg.setReg

theorem snapFreeze (h : Kept s t) {sel : List Ch} : Kept s (t.snapFreeze sid sel) :=
  ite h.frame.setReg.setReg.setReg.setReg (h.foldl (·.freezeCh) |>.snapShow.frame)

theorem snapRelease (h : Kept s t) {expired : Bool} : Kept s (t.snapRelease expired) :=
  ite h (h.putB.frame.thenIf (·.setRaise))

theorem doSnapReq (h : Kept s t) {v : Word} : Kept s (t.doSnapReq src v join).2 := by
  unfold State.doSnapReq
  dsimp only
  split
  · exact iteSnd (ite h.collide h) h.snapFreeze
  · exact h

theorem execSnapReq (h : Kept s t) {v : Word} : GoesKept s (execSnapReq src v join t) := .answer (h.gated (·.doSnapReq))

theorem doSnapEnd (h : Kept s t) : Kept s (t.doSnapEnd src).2 := iteSnd h (iteSnd h.snapRelease h)

theorem execSnapEnd (h : Kept s t) {v : Word} : GoesKept s (execSnapEnd src v t) := .answer (h.gated (·.doSnapEnd))

theorem execSnapTimeout (h : Kept s t) : GoesKept s (execSnapTimeout t) := by
  unfold Machine.execSnapTimeout
  refine .happen ?_
  split
  · exact ite h.snapRelease h
  · exact h

theorem readWin (h : Kept s t) : Kept s (t.readWin src n off).1 := iteFst h.snapRelease h

theorem execSnapLastRead (h : Kept s t) : GoesKept s (execSnapLastRead src t) := by
  unfold Machine.execSnapLastRead
  dsimp only
  split
  · exact h.readAs h.readWin
  · exact .answer h

/-! ## The event recorder -/

theorem modEvt (h : Kept s t) {f : EvtS → EvtS} : Kept s (t.modEvt f) := h.frame

theorem setCursor (h : Kept s t) {q : Word} : Kept s (t.setCursor src q) := by
  unfold State.setCursor
  split
  · split
    · exact h.frame
    · exact h
  · exact h.modPerc
  · exact h

theorem readEvtWin (h : Kept s t) {k : Nat} : Kept s (t.readEvtWin src k).1 := by
  unfold State.readEvtWin
  split
  · exact ite h.setCursor h
  · exact h

theorem execEvtWin7Read (h : Kept s t) : GoesKept s (execEvtWin7Read src t) := h.readAs h.readEvtWin

theorem evtFlush (h : Kept s t) : Kept s t.evtFlush := ite h.modEvt h

theorem execEventFlush (h : Kept s t) : GoesKept s (execEventFlush t) := .happen h.evtFlush

theorem evtClear (h : Kept s t) : Kept s t.evtClear := h.modEvt.log

theorem doEvtCmd (h : Kept s t) {v : Word} : Kept s (t.doEvtCmd src v).2 :=
  iteSnd h (iteSnd (iteSnd h (iteSnd h h.evtClear)) (iteSnd h.evtFlush h))

theorem execEvtFlush (h : Kept s t) : GoesKept s (execEvtFlush src t) := .answer (h.gated (·.doEvtCmd))

theorem execClear (h : Kept s t) : GoesKept s (execClear src t) := .answer (h.gated (·.doEvtCmd))

theorem optimeSave (h : Kept s t) : Kept s t.optimeSave := h.modEvt

theorem execOptimePersist (h : Kept s t) : GoesKept s (execOptimePersist t) := .happen (ite h.optimeSave h)

theorem evtRunEnd (h : Kept s t) : Kept s t.evtRunEnd := ite h.evtFlush.modEvt h.evtFlush

theorem evtBoot (h : Kept s t) : Kept s t.evtBoot.1 := h.modEvt.eachCh (·.modPerc)

/-! ## Performance counters -/

theorem modPmc (h : Kept s t) {f : PmcS → PmcS} : Kept s (t.modPmc pg f) := ite h.frame h.modCh

theorem modCtr (h : Kept s t) {c k : Nat} {f : Pmc → Pmc} : Kept s (t.modCtr pg c k f) := h.modPmc

theorem ctrAdd (h : Kept s t) {c k events : Nat} : Kept s (t.ctrAdd pg c k events) :=
  ite h (ite h.modCtr h.modCtr.putB.raise)

theorem execOvf (h : Kept s t) {c : Fin 2} {slots : IssueSlots} {others : List (Nat × Nat)} :
    GoesKept s (execOvf pg c slots others t) :=
  .happen (ite h (h.foldl (·.ctrAdd)))

theorem readCntl (h : Kept s t) {c k : Nat} : Kept s (t.readCntl pg c k).1 := h.modCtr

theorem doCnth (h : Kept s t) {c k : Nat} {v : Word} : Kept s (t.doCnth pg c k v).2 := h.modCtr

theorem doCntl (h : Kept s t) {c k : Nat} {v : Word} : Kept s (t.doCntl pg c k v).2 := h.modCtr

theorem pmcReadAs (h : Kept s t) {src : Src} {pg : PageRef} {f : State → State × Word} (hf : Kept s (f t).1) :
    GoesKept s (t.pmcReadAs src pg f) := by
  unfold State.pmcReadAs
  split
  · exact .answer h
  · split
    · exact h.readAs hf
    · exact .answer h

theorem execPmcCntlRead (h : Kept s t) {c : Fin 2} {k : Fin 6} : GoesKept s (execPmcCntlRead src pg c k t) :=
  h.pmcReadAs h.readCntl

theorem execPmcCntlWrite (h : Kept s t) {c : Fin 2} {k : Fin 6} {v : Word} :
    GoesKept s (execPmcCntlWrite src pg c k v t) :=
  .answer (iteSnd h (h.gated (·.doCntl)))

theorem psShow (h : Kept s t) : Kept s (t.psShow pg) := h.setReg

theorem execPsSample (h : Kept s t) {e : PsEntry} : GoesKept s (execPsSample pg e t) :=
  .happen (ite h (h.modPmc.psShow.thenIf (·.raise)))

theorem readPs (h : Kept s t) : Kept s (t.readPs pg).1 := by
  unfold State.readPs
  dsimp only
  split
  · exact h
  · exact iteFst h.modPmc.psShow h.modPmc

theorem execPsDataRead (h : Kept s t) : GoesKept s (execPsDataRead src pg t) := h.pmcReadAs h.readPs

theorem doPsCtrl (h : Kept s t) {v : Word} : Kept s (t.doPsCtrl pg v).2 :=
  iteSnd h (iteSnd h (ite h.setReg.modPmc.psShow h.setReg))

theorem execPsClear (h : Kept s t) {v : Word} : GoesKept s (execPsClear src pg v t) :=
  .answer (iteSnd h (h.gated (·.doPsCtrl)))

theorem pmcReset (h : Kept s t) : Kept s (t.pmcReset pg) := h.modPmc.psShow

/-! ## Connectors, panel, sessions -/

theorem modSup (h : Kept s t) {f : SupS → SupS} : Kept s (t.modSup f) := h.frame

theorem modUpd (h : Kept s t) {f : UpdS → UpdS} : Kept s (t.modUpd f) := h.frame

theorem modPanel (h : Kept s t) {f : PanelS → PanelS} : Kept s (t.modPanel f) := h.frame

theorem endSession (h : Kept s t) : Kept s (t.endSession sid) := ite h.snapRelease h |>.frame

theorem endPort (h : Kept s t) {p : Port} : Kept s (t.endPort p) := h.foldl (·.endSession)

theorem lockUndo (h : Kept s t) : Kept s (t.lockUndo n) := ite h.put.putBit.modSafe h

theorem connSet (h : Kept s t) {present : Bool} : Kept s (t.connSet n i present) :=
  ite h.bootShow.modCh.putB (ite h (ite h.putB h.putB.lockUndo |>.branch (·.tripC.setRaise.raise.log) (·.raise.log)))

theorem execDetectLoopQualified (h : Kept s t) {c : Conn} {present : Bool} :
    GoesKept s (execDetectLoopQualified n c present t) :=
  .happen (ite h (ite h.ringMsg h |>.connSet))

theorem isolateStart (h : Kept s t) : Kept s (t.isolateStart n) := ite h (ite h.modSafe.enterState h.modSafe)

theorem keys (h : Kept s t) {ack iso : Bool} : Kept s (t.keys ack iso) := h.putB.putB

theorem execIsolate (h : Kept s t) : GoesKept s (execIsolate t) := by
  unfold Machine.execIsolate
  dsimp only
  refine .happen ?_
  split
  · exact h.keys.raise.isolateStart
  · exact h.keys

theorem execIsolateAbandon (h : Kept s t) : GoesKept s (execIsolateAbandon t) := .happen h.keys

theorem execIsolateFeedbackOpen (h : Kept s t) : GoesKept s (execIsolateFeedbackOpen n t) := .happen h.isolateGo

theorem execIsolateFail (h : Kept s t) : GoesKept s (execIsolateFail n t) := .happen (ite h.tripC h)

theorem execPadTouch (h : Kept s t) {pads : BitVec 8} : GoesKept s (execPadTouch pads t) := by
  unfold Machine.execPadTouch
  dsimp only
  split
  · exact .happen h.keys.put
  · exact .happen h.keys.put.put.modPanel
  · exact .happen h.keys.put.modPanel

theorem execSelectionLapse (h : Kept s t) : GoesKept s (execSelectionLapse t) := .happen (ite h.put.modPanel h)

theorem execAck (h : Kept s t) : GoesKept s (execAck t) := .happen (h.keys.eachCh (·.modSafe) |>.raise)

theorem lockoutEnd (h : Kept s t) : Kept s (t.lockoutEnd n) :=
  ite h (ite h.enterState h.drivesOn.putB.putB.enterState.ringStart.coilsOn)

theorem execLockoutRelease (h : Kept s t) : GoesKept s (execLockoutRelease t) := by
  unfold Machine.execLockoutRelease
  dsimp only
  refine .happen ?_
  split
  · exact h.keys
  · exact ite h.keys (ite h.keys.modPanel h.keys.lockoutEnd)

theorem setInactive (h : Kept s t) {x : Slot} : Kept s (t.setInactive x) := h.modUpd

theorem verShow (h : Kept s t) : Kept s t.verShow := h.put.put

theorem execKeysw (h : Kept s t) {service : Bool} : GoesKept s (execKeysw service t) :=
  .happen (ite h (h.putB.raise.elseIf (fun h => ite h.endPort.setInactive.put.verShow h.endPort)))

/-! ## The twin -/

theorem modPair (h : Kept s t) {f : TwinS → TwinS} : Kept s (t.modPair f) := h.frame

theorem twinBad (h : Kept s t) : Kept s t.twinBad := h.incSat

theorem dropClaim (h : Kept s t) : Kept s (t.dropClaim n) := h.modTwin.putBit.putB.putB.pwmOff

theorem execOwnerInChange (h : Kept s t) {claimed : Bool} : GoesKept s (execOwnerInChange n claimed t) :=
  .happen (ite h (ite h.modTwin (ite h.modTwin.dropClaim h.modTwin |>.elseIf (·.modTwin))))

theorem percTake (h : Kept s t) : Kept s (t.percTake n) :=
  ite h.modPerc h.modPerc.logReg |>.thenIf (fun h => ite h.percRun (ite h.put h))

theorem execClaimStart (h : Kept s t) : GoesKept s (execClaimStart n t) :=
  .happen (ite h (h.modTwin.putBit.putB.putB.thenIf (·.putB)
    |>.branch (fun h => ite (ite h.linkBreak h.linkBreak |>.percTake) h) (·.ringStart.percTake)))

theorem execClaimWatchEnd (h : Kept s t) : GoesKept s (execClaimWatchEnd n t) := .happen (ite h.modTwin h)

theorem bootClaim (h : Kept s t) : Kept s (t.bootClaim n) := ite h (ite h.modTwin h.modTwin)

theorem setLink (h : Kept s t) {on : Bool} : Kept s (t.setLink on) := ite h h.putB.raise

theorem alignShow (h : Kept s t) : Kept s t.alignShow := ite h h.putB.raise

theorem execHeartbeatSend (h : Kept s t) : GoesKept s (execHeartbeatSend t) := .happen (ite h h.twinSend)

theorem hbApply (h : Kept s t) {x : HbChan} {iso : Bool} : Kept s (t.hbApply n x iso) :=
  ite h (branch (thenIf h.modTwin fun h => h.hold) (fun h => h.isolateStart) fun h =>
    ite h.isolateStart (ite h.lockoutEnd h))

theorem bridgeDown (h : Kept s t) : Kept s (t.bridgeDown n) := ite h.setBridge h

theorem heartbeat (h : Kept s t) {m : HbMsg} : Kept s (t.heartbeat m) :=
  ite h.twinBad (h.modPair.setLink.thenIf (·.twinSend)
    |>.put.putB.setReg.alignShow.thenIf (fun h => h.raise.eachCh (fun h => ite h.setBridge h))
    |>.putB.foldl (·.hbApply) |>.eachCh (·.bridgeDown))

theorem execHeartbeat (h : Kept s t) {m : HbMsg} : GoesKept s (execHeartbeat m t) := .happen h.heartbeat

theorem execHeartbeatMissed (h : Kept s t) : GoesKept s (execHeartbeatMissed t) := .happen (ite h.modPair.incSat h)

theorem linkDown (h : Kept s t) : Kept s t.linkDown :=
  h.modPair.setLink.thenIf (·.frame) |>.putB.alignShow.eachCh (fun h => ite h.modTwin.setBridge h.modTwin)

theorem execLink (h : Kept s t) : GoesKept s (execLink t) := .happen (ite h.linkDown.logReg h)

theorem execNoticeTrip (h : Kept s t) {ch cause path : Nat} : GoesKept s (execNoticeTrip ch cause path t) :=
  .happen (ite h.twinBad (ite h (ite h.modTwin.trip h.modTwin)))

theorem execNoticeRelease (h : Kept s t) {ch : Nat} : GoesKept s (execNoticeRelease ch t) :=
  .happen (ite h.twinBad (ite h h.modTwin))

theorem execNoticeRestart (h : Kept s t) {ch : Nat} : GoesKept s (execNoticeRestart ch t) :=
  .happen (ite h.twinBad h.modPair)

theorem execMirrorSend (h : Kept s t) : GoesKept s (execMirrorSend n t) := .happen (ite h.twinSend h)

theorem execResync (h : Kept s t) : GoesKept s (execResync t) := .happen (h.eachCh (fun h => ite h.twinSend h))

theorem mirrorStore (h : Kept s t) {l : List MirrorSeg} : Kept s (t.mirrorStore n l) :=
  h.modTwin.modEst.foldl (·.setReg) |>.siFollow.condUpdate

theorem execMirror (h : Kept s t) {m : MirrorSeg} : GoesKept s (execMirror m t) :=
  .happen (ite h.twinBad (ite h (ite h.mirrorStore h.modTwin)))

theorem execMirrorFail (h : Kept s t) : GoesKept s (execMirrorFail n t) := .happen (ite h.modTwin.incSat h)

theorem execRingMsg (h : Kept s t) {m : RingMsg} : GoesKept s (execRingMsg m t) := by
  unfold Machine.execRingMsg
  dsimp only
  refine .happen ?_
  split
  · exact h.twinBad
  · exact h
  · exact ite h (h.modRing.put.put.setRegs.elseIf (·.put.putB.pourStart))
  · exact ite h.dataBlock h
  · exact ite h (ite h h.putB |>.connSet)

theorem mirrorLoad (h : Kept s t) : Kept s (t.mirrorLoad n) := ite h h.modEst.modEst.openShow.put

theorem takeover (h : Kept s t) : Kept s (t.takeover n) :=
  h.modTwin.mirrorLoad.elseIf (·.enterState) |>.setReg.disqualify.voidBy.incSat.raise.log

theorem valveLost (h : Kept s t) : Kept s (t.valveLost n) := ite h h.logReg

theorem execLost (h : Kept s t) : GoesKept s (execLost n t) :=
  .happen (ite h (ite h h.putBit.raise.valveLost |>.thenIf (·.linkDown)
    |>.branch (fun h => ite (ite h.breakSeen h.breakSeen) h) (fun h => ite h (ite h.takeover h.modTwin))))

theorem execTakeoverEnable (h : Kept s t) : GoesKept s (execTakeoverEnable n t) := .happen (ite h.modTwin.modProf h)

theorem execBridgeClose (h : Kept s t) : GoesKept s (execBridgeClose n t) := .happen (ite h.setBridge h)

theorem execReady (h : Kept s t) : GoesKept s (execReady t) := .happen (ite (h.modPair.foldl (·.putB)) h)

theorem doHandover (h : Kept s t) {v : Word} : Kept s (t.doHandover v).2 :=
  iteSnd (h.foldl (·.twinSend.dropClaim.modTwin)) h

theorem execHandover (h : Kept s t) {v : Word} : GoesKept s (execHandover src v t) := .answer (h.gated (·.doHandover))

/-! ## Updates and secrets -/

theorem doStageOff (h : Kept s t) {v : Word} : Kept s (t.doStageOff v).2 := iteSnd h h.setReg

theorem doStageWin (h : Kept s t) {k : Nat} {v : Word} : Kept s (t.doStageWin src k v).2 :=
  iteSnd h (iteSnd h h.setInactive.put.verShow)

theorem execStageWrite (h : Kept s t) {k : Fin 128} {v : Word} : GoesKept s (execStageWrite src k v t) :=
  .answer (h.gated (·.doStageWin))

theorem doVerify (h : Kept s t) : Kept s (t.doVerify src).2 := iteSnd h (iteSnd h.put h)

theorem doArm (h : Kept s t) : Kept s (t.doArm src).2 := iteSnd h (iteSnd h (iteSnd h h.put.modUpd))

theorem doCancel (h : Kept s t) : Kept s t.doCancel.2 := iteSnd h h.put.modUpd

theorem doAccept (h : Kept s t) : Kept s t.doAccept.2 := iteSnd h h.modUpd

theorem doConfirm (h : Kept s t) : Kept s t.doConfirm.2 := iteSnd h (iteSnd h h.putB.put.put.put.raise)

theorem doUpdCmd (h : Kept s t) {v : Word} : Kept s (t.doUpdCmd src v).2 :=
  iteSnd h (iteSnd h.doVerify (iteSnd h.doArm
    (iteSnd h.doCancel (iteSnd h.doAccept (iteSnd h.doConfirm (iteSnd h h))))))

theorem updCmd (h : Kept s t) {v : Word} : GoesKept s (t.updCmd src v) := .answer (h.gated (·.doUpdCmd))

theorem execVerify (h : Kept s t) : GoesKept s (execVerify src t) := h.updCmd

theorem execUpdArm (h : Kept s t) : GoesKept s (execUpdArm src t) := h.updCmd

theorem execCancel (h : Kept s t) : GoesKept s (execCancel src t) := h.updCmd

theorem execAccept (h : Kept s t) : GoesKept s (execAccept src t) := h.updCmd

theorem execConfirm (h : Kept s t) : GoesKept s (execConfirm t) := h.updCmd

theorem execVerifyDone (h : Kept s t) : GoesKept s (execVerifyDone t) :=
  .happen (ite h (ite h.put.setInactive.put.verShow.raise h.put.setInactive.put.verShow.raise))

theorem doUpdCtrl (h : Kept s t) {v : Word} : Kept s (t.doUpdCtrl v).2 := iteSnd h h.setReg

theorem doActTime (h : Kept s t) {hi : Bool} {v : Word} : Kept s (t.doActTime hi v).2 := iteSnd h (ite h.put h.setReg)

theorem reloadNow (h : Kept s t) : Kept s (t.reloadNow n) := h.modSafe.put.pourStop

theorem hitless (h : Kept s t) : Kept s t.hitless := ite h.twinSend h |>.snapRelease.modSup

theorem imageSwitch (h : Kept s t) : Kept s t.imageSwitch := h.eachCh (fun h => ite h.putBit.reloadNow h.putBit)

theorem activate (h : Kept s t) : Kept s t.activate := h.modUpd.putB.put.putB.raise.hitless.imageSwitch

theorem execActivated (h : Kept s t) : GoesKept s (execActivated t) :=
  .happen (ite h (ite h.activate h.put.modUpd.logReg))

theorem fallBack (h : Kept s t) : Kept s t.fallBack := h.putB.put.putB.putB.raise.logReg

theorem execFallback (h : Kept s t) : GoesKept s (execFallback t) := .happen (ite h.fallBack.hitless.imageSwitch h)

theorem execSupervisorRestartDone (h : Kept s t) : GoesKept s (execSupervisorRestartDone t) :=
  .happen (ite h (h.modSup.modEvt.foldl (·.stage) |>.pmcReset.frame))

theorem doObjCtrl (h : Kept s t) {v : Word} : Kept s (t.doObjCtrl v).2 := iteSnd h (iteSnd h (ite h h.modUpd |>.setReg))

theorem doObjWin (h : Kept s t) {k : Nat} {v : Word} : Kept s (t.doObjWin k v).2 := iteSnd h h.modUpd

theorem doCommit (h : Kept s t) : Kept s t.doCommit.2 := iteSnd h (h.modUpd.put.put.thenIf (·.raise))

theorem zeroise (h : Kept s t) {tap : Bool} : Kept s (t.zeroise tap) :=
  h.foldl (·.endSession) |>.modUpd.put.modPanel.elseIf (·.raise.log) |>.thenIf (·.putB)

theorem doSecCmd (h : Kept s t) {v : Word} : Kept s (t.doSecCmd v).2 :=
  iteSnd h (iteSnd h.doCommit (iteSnd h.zeroise h))

theorem execCommit (h : Kept s t) : GoesKept s (execCommit src t) := .answer (h.gated (·.doSecCmd))

theorem execDeprovision (h : Kept s t) : GoesKept s (execDeprovision src t) := .answer (h.gated (·.doSecCmd))

theorem doTestUnlock (h : Kept s t) {v : Word} : Kept s (t.doTestUnlock v).2 := iteSnd h (ite h.zeroise h)

theorem execUnlock (h : Kept s t) {v : Word} : GoesKept s (execUnlock src v t) := .answer (h.gated (·.doTestUnlock))

theorem execCoverOpen (h : Kept s t) : GoesKept s (execCoverOpen t) := .happen h.putB.zeroise

theorem execIdentityKeygen (h : Kept s t) {coverClosed : Bool} : GoesKept s (execIdentityKeygen coverClosed t) :=
  .happen (ite h.putB h |>.thenIf (·.modUpd.put))

theorem execTapInstruction (h : Kept s t) {dev : Fin 3} {op : Byte} : GoesKept s (execTapInstruction dev op t) :=
  .happen (ite h (ite (ite h.modUpd h.modUpd.putB) (ite h.modUpd h.modUpd)))

/-! ## Modes, power, start -/

theorem mramSave (h : Kept s t) : Kept s t.mramSave := h.frame

theorem nvStore (h : Kept s t) : Kept s t.nvStore := ite (h.mramSave.eachCh (·.chemStore) |>.frame.putB) h

/-- A memory built from nothing by writes alone is canonical. -/
theorem wf_foldl_sset {l : List (Nat × Word)} {f : Mem → Nat × Word → Word} {m : Mem} (hm : Mem.wf resetWord m = true) :
    Mem.wf resetWord (l.foldl (fun m x => sset resetWord m x.1 (f m x)) m) = true := by
  induction l generalizing m with
  | nil => exact hm
  | cons x l ih => exact ih (Mem.wf_sset resetWord m x.1 _ hm)

theorem coldReset_canonical : t.coldReset.regsCanonical := by
  have hnil : Mem.wf resetWord [] = true := rfl
  unfold State.regsCanonical State.coldReset
  generalize keptRegs = l
  exact wf_foldl_sset (wf_foldl_sset hnil)

theorem coldReset_pending : t.coldReset.pending = t.pending := by
  unfold State.coldReset
  generalize keptRegs = l
  rfl

theorem coldReset (h : Kept s t) : Kept s t.coldReset := ⟨coldReset_pending.trans h.1, fun _ => coldReset_canonical⟩

theorem levelsShow (h : Kept s t) : Kept s (t.levelsShow n) := ite h.putB.pageFault h |>.putB.putB.foldl (·.siShow)

theorem bootBegin (h : Kept s t) {cause : Nat} : Kept s (t.bootBegin cause) :=
  ite h.frame.put (ite h.frame.put (ite h.frame.fallBack h.frame))
    |>.evtBoot.modSup.putB.put.putB.putB.elseIf (·.raise.log) |>.thenIf (·.logReg) |>.eachCh (fun h => ite h.logReg h)
    |>.thenIf (·.logReg) |>.eachCh (·.estBoot.percBoot.suspShow.levelsShow) |>.ptpRestart.verShow

theorem rebootFrom (h : Kept s t) {cause : Nat} : Kept s (t.rebootFrom cause) :=
  h.coldReset.setReg.foldl (·.put.putBit) |>.bootBegin.put

theorem execPowerOn (h : Kept s t) {absentMs : Nat} : GoesKept s (execPowerOn absentMs t) :=
  .happen (ite h (h.coldReset.modSup.modEvt.branch (·.evtBoot.verShow.enterHalt.condUpdate)
    (fun h => ite h.evtBoot.verShow.modPanel.putB.setMode.condUpdate h.bootBegin)))

theorem paramDefaults (h : Kept s t) : Kept s t.paramDefaults := by
  have hregs : Kept s { t with regs := t.regs.foldl (fun (m : Mem) (x : Nat × Word) =>
      sset resetWord m x.1 ((x.2 &&& ~~~nvMask x.1) ||| (resetWord x.1 &&& nvMask x.1))) [] } :=
    ⟨h.1, fun _ => wf_foldl_sset rfl⟩
  exact hregs.modSup.logReg

theorem bootChannel (h : Kept s t) {r : BootResult} : Kept s (t.bootChannel r n) :=
  ite h h.modSup.tripC |>.elseIf (·.drivesOff.enterState)

theorem bootReady (h : Kept s t) : Kept s (t.bootReady n) :=
  ite h.bootClaim h.bootClaim.drivesOn |>.elseIf (·.putB.putB) |>.thenIf (·.ringStart)
    |>.pourStart.coilsOn.percAuto.impDue.thenIf (·.homeStart)

theorem bootMode (h : Kept s t) : Kept s t.bootMode := ite h.put.put.modSup.setRaise.setMode h.put.put.setMode

theorem bootRest (h : Kept s t) {r : BootResult} : Kept s (t.bootRest r) :=
  ite h.log h.log.paramDefaults |>.eachCh (·.bootChannel) |>.thenIf (·.logReg) |>.bootShow.eachCh (·.bootReady)
    |>.thenIf (·.twinSend) |>.bootMode.condUpdate

theorem execBootEnd (h : Kept s t) {r : BootResult} : GoesKept s (execBootEnd r t) :=
  .happen (ite h (ite h.enterHalt.condUpdate
    (ite h.enterHalt.condUpdate (ite h.bootRest (ite h.putB.modSup.logReg.bootRest h.enterHalt.condUpdate)))))

theorem doStandby (h : Kept s t) : Kept s t.doStandby.2 :=
  iteSnd h (h.setOplvl.eachCh (fun h => ite h.enterState h) |>.standbyCheck)

theorem doRun (h : Kept s t) : Kept s t.doRun.2 := iteSnd h (ite h.setOplvl.setMode h.setOplvl)

theorem ringSleep (h : Kept s t) : Kept s (t.ringSleep n) := ite (h.foldl (·.sendFrame.sendFrame)) h |>.put

theorem doDecaf (h : Kept s t) : Kept s t.doDecaf.2 :=
  iteSnd h (h.modPanel.eachCh (·.ringSleep.balZero.pourStop.percStop.coilsOff.modSafe)
    |>.modSup.setMode.evtRunEnd.nvStore)

theorem wakeTry (h : Kept s t) {ok : Bool} : Kept s (t.wakeTry ok).2 := iteSnd h.rebootFrom h.logReg

theorem doWake (h : Kept s t) : Kept s t.doWake.2 := iteSnd h h.wakeTry

theorem doRestart (h : Kept s t) : Kept s (t.doRestart src).2 :=
  iteSnd h (iteSnd h (iteSnd h h.evtRunEnd.nvStore.modSup.rebootFrom))

theorem doHalt (h : Kept s t) : Kept s t.doHalt.2 := iteSnd h h.enterHalt

theorem sysCmdOf (h : Kept s t) {v : Word} : Kept s (t.sysCmdOf src v).2 := by
  unfold State.sysCmdOf
  split
  · exact h.doStandby
  · exact h.doRun
  · exact h.doDecaf
  · exact h.doWake
  · exact h.doRestart
  · exact h.doHalt
  · exact h

theorem doSysCmd (h : Kept s t) {v : Word} : Kept s (t.doSysCmd src v).2 := iteSnd h.sysCmdOf.logReg h.sysCmdOf

theorem sysCmd (h : Kept s t) {v : Word} : GoesKept s (t.sysCmd src v) := .answer (h.gated (·.doSysCmd))

theorem execStandby (h : Kept s t) : GoesKept s (execStandby src t) := h.sysCmd

theorem execRun (h : Kept s t) : GoesKept s (execRun src t) := h.sysCmd

theorem execDecaf (h : Kept s t) : GoesKept s (execDecaf src t) := h.sysCmd

theorem execWake (h : Kept s t) : GoesKept s (execWake src t) := h.sysCmd

theorem execRestart (h : Kept s t) : GoesKept s (execRestart src t) := h.sysCmd

theorem execHalt (h : Kept s t) : GoesKept s (execHalt src t) := h.sysCmd

theorem doBootCfg (h : Kept s t) {v : Word} : Kept s (t.doBootCfg v).2 := iteSnd h h.setReg

theorem execWakeVoltageCheck (h : Kept s t) {mv : List Nat} : GoesKept s (execWakeVoltageCheck mv t) :=
  .happen (ite h.modSup h)

theorem execPanelWakeConfirm (h : Kept s t) : GoesKept s (execPanelWakeConfirm t) := .happen (ite h h.wakeTry)

theorem execLogic24Low (h : Kept s t) {mv : Nat} : GoesKept s (execLogic24Low mv t) := .happen (ite h.raise.logNone h)

theorem execLogic24High (h : Kept s t) : GoesKept s (execLogic24High t) := .happen h.logNone

theorem execAux24Low (h : Kept s t) : GoesKept s (execAux24Low t) := .happen h.modSup.raise.logNone

theorem execAux24Restored (h : Kept s t) : GoesKept s (execAux24Restored t) := .happen h.modSup

theorem execAuxFuseOpen (h : Kept s t) : GoesKept s (execAuxFuseOpen t) :=
  .happen (ite h (h.modSup.eachCh (·.modSafe) |>.logNone))

theorem execAuxFuseReclose (h : Kept s t) : GoesKept s (execAuxFuseReclose t) := by
  unfold Machine.execAuxFuseReclose
  refine .happen ?_
  split
  · exact ite h.modSup h
  · exact h

theorem execVholdCharged (h : Kept s t) : GoesKept s (execVholdCharged t) := .happen h.modSup.putB.nvStore

theorem holdupStore (h : Kept s t) {o : HoldupOutcome} : Kept s (t.holdupStore o) :=
  ite h.modSup.evtRunEnd h.modSup |>.eachCh (fun h => ite h.estWrite h)
    |>.thenIf (·.mramSave.eachCh (·.chemStore.retainSave) |>.optimeSave.frame) |>.modSup

theorem execHoldupStart (h : Kept s t) {o : HoldupOutcome} : GoesKept s (execHoldupStart o t) :=
  .happen (ite h (h.modSup.modPanel.raise.log.eachCh (·.putB.pwmOff.coilsOff.balZero.modSafe) |>.holdupStore))

theorem execHoldupReset (h : Kept s t) : GoesKept s (execHoldupReset t) := by
  unfold Machine.execHoldupReset
  refine .happen ?_
  split
  · exact ite h.coldReset h
  · exact h

/-! ## Register access -/

theorem readBlock (h : Kept s t) {k : Nat} {w : Word} : Kept s (t.readBlock src pg off k w).2.1 := by
  unfold State.readBlock
  dsimp only
  split
  · exact h
  · split
    · exact h
    · exact h
    · exact h
    · exact h
    · exact h
  · split
    · exact h.readRxWin
    · exact h
    · exact h
    · exact h
    · exact h
  · exact iteSndFst h.readEvtWin h
  · split
    · exact h
    · exact h
    · exact h
  · exact iteSndFst h h
  · exact iteSndFst h h
  · split
    · exact h
    · exact h
    · exact h.readCapData
    · exact h
  · exact iteSndFst h h
  · exact iteSndFst h.readChemData h
  · exact iteSndFst h h
  · exact iteSndFst h.readProgData h
  · exact iteSndFst h.readFifo h
  · split
    · exact h.readPs
    · exact h.readCntl
    · exact h.readCntl
    · exact h
    · exact h
    · exact h
  · split
    · exact h.readPs
    · exact h.readCntl
    · exact h.readCntl
    · exact h
    · exact h
    · exact h
  · exact h
  · exact h
  · exact h
  · exact h
  · exact h
  · exact h
  · exact h
  · exact h
  · exact h
  · exact h
  · exact h
  · exact h
  · exact h
  · exact h
  · exact h
  · exact h
  · exact h

theorem readReg (h : Kept s t) : Kept s (t.readReg src pg off).2.1 := by
  unfold State.readReg
  dsimp only
  split
  · split
    · split
      · exact h
      · exact iteSndFst h h.readBlock
    · exact h
  · exact h

theorem readAddr (h : Kept s t) {a : Nat} : Kept s (t.readAddr src a).2.1 := by
  unfold State.readAddr
  dsimp only
  split
  · split
    · exact h.readReg
    · refine iteSndFst h ?_
      split
      · exact h.readWin
      · exact h
    · exact h
  · exact h

theorem readWords (h : Kept s t) {src : Src} {l : List Nat} {acc : List Word} : Kept s (t.readWords src l acc).2.1 := by
  induction l generalizing t acc with
  | nil => exact h
  | cons a l ih =>
    have hr := h.readAddr (src := src) (a := a)
    unfold State.readWords
    split <;> rename_i heq <;> rw [heq] at hr
    · exact ih hr
    · exact hr

theorem readOp (h : Kept s t) {addrs : List Nat} : Kept s (t.readOp src addrs).2 := by
  unfold State.readOp
  dsimp only
  split
  · exact h
  · exact h.readWords

theorem softRegs (h : Kept s t) : Kept s (t.softRegs pg) := h.foldl (fun h => ite h (h.foldl (·.setReg)))

theorem softBlock (h : Kept s t) : Kept s (t.softBlock src pg) := by
  unfold State.softBlock
  dsimp only
  split
  · exact h.suspClear.setReg.condUpdate
  · exact ite h.putB.putB.injFinish h.putB.putB
  · exact h.fifoReset
  · exact ite h.ringStart h
  · exact h.balZero
  · exact h.modProf.vlvResync
  · exact h.chemSync
  · exact h.percStop
  · exact h.setCursor
  · exact h.frame
  · exact h.pmcReset
  · exact h.pmcReset
  · exact h
  · exact h
  · exact h
  · exact h
  · exact h
  · exact h
  · exact h
  · exact h
  · exact h
  · exact h
  · exact h
  · exact h
  · exact h
  · exact h
  · exact h
  · exact h
  · exact h
  · exact h
  · exact h
  · exact h

theorem owModed (h : Kept s t) {old : Nat} : Kept s (t.owModed n old) := ite h h.owRemode

theorem softReset (h : Kept s t) : Kept s (t.softReset src pg) := h.softRegs.softBlock.thenIf (·.owModed)

theorem pageOff (h : Kept s t) : Kept s (t.pageOff pg) := by
  unfold State.pageOff
  dsimp only
  split
  · exact h.pourStopAfter
  · exact h.pourStopAfter
  · exact h.condUpdate
  · exact h.balZero
  · exact h.pwmOff
  · exact h.modProf.setReg.vlvHold
  · exact h.coilsOff
  · exact h.voidBy.modImp
  · exact h.modEst
  · exact h.percStop
  · exact h.canLeave
  · exact h
  · exact h
  · exact h
  · exact h
  · exact h
  · exact h
  · exact h
  · exact h
  · exact h
  · exact h
  · exact h
  · exact h
  · exact h
  · exact h
  · exact h
  · exact h
  · exact h
  · exact h
  · exact h
  · exact h
  · exact h

theorem pageOn (h : Kept s t) : Kept s (t.pageOn pg) := by
  unfold State.pageOn
  dsimp only
  split
  · exact h.ringStart
  · exact h.pourStart
  · exact h.condUpdate.foldl (·.owDue)
  · exact h.modProf.vlvResync
  · exact h.coilsOn
  · exact h.impDue
  · exact h.modBal
  · exact h
  · exact h
  · exact h
  · exact h
  · exact h
  · exact h
  · exact h
  · exact h
  · exact h
  · exact h
  · exact h
  · exact h
  · exact h
  · exact h
  · exact h
  · exact h
  · exact h
  · exact h
  · exact h
  · exact h
  · exact h
  · exact h
  · exact h
  · exact h
  · exact h

theorem doPageCtrl (h : Kept s t) {v : Word} : Kept s (t.doPageCtrl src pg v).2 := by
  unfold State.doPageCtrl
  dsimp only
  split
  · exact ite h.putB.pageOff (ite h.putB.pageOn h.putB) |>.thenIf (·.softReset)
  · exact h

theorem modSession (h : Kept s t) {f : Session → Session} : Kept s (t.modSession sid f) := h.frame

theorem modIdent (h : Kept s t) {i : Ident} {f : IdState → IdState} : Kept s (t.modIdent i f) := h.frame

theorem unlockFail (h : Kept s t) {i : Ident} : Kept s (t.unlockFail i pg) := by
  unfold State.unlockFail
  dsimp only
  split
  · exact ite h.modIdent.modIdent.log h.modIdent
  · exact h.modIdent

theorem doUnlock (h : Kept s t) {v : Word} : Kept s (t.doUnlock src pg v).2 := by
  unfold State.doUnlock
  dsimp only
  split
  · split
    · exact h
    · exact iteSnd h (h.modSession.thenIf (·.unlockFail))
  · exact h

theorem afterWrite (h : Kept s t) : Kept s (t.afterWrite pg off) := by
  unfold State.afterWrite
  split
  · exact h.cmpSend.condUpdate
  · exact h.condUpdate
  · exact h.condUpdate
  · exact h.siFollow.condUpdate
  · exact h.impResched
  · exact h.eachCh (fun h => ite h.coilsOff h)
  · exact h

theorem plainWrite (h : Kept s t) {d : RegD} {k : Nat} {v : Word} : Kept s (t.plainWrite pg d k v).2 :=
  iteSnd h h.setReg.afterWrite

theorem writeBlock (h : Kept s t) {d : RegD} {k : Nat} {v : Word} : Kept s (t.writeBlock src pg d k v join).2 := by
  unfold State.writeBlock
  dsimp only
  split
  · split
    · exact h.doSysCmd
    · exact h.doBootCfg
    · exact h.plainWrite
  · split
    · exact h.doSnapReq
    · exact h.doSnapEnd
    · exact h.plainWrite
  · exact iteSnd h.doPtpCtrl h.plainWrite
  · split
    · exact h.doCanCtrl
    · exact h.doCanCmd
    · exact h.doTxcmd
    · exact h.doTxb
    · exact h.doTxb
    · exact h.doTxb
    · exact h.plainWrite
  · split
    · exact h.doAllocCtrl
    · exact h.doPcmd
    · exact h.plainWrite
  · split
    · exact h.setCursor
    · exact h.doEvtCmd
    · exact h.plainWrite
  · split
    · exact h.doUpdCtrl
    · exact h.doUpdCmd
    · exact h.doActTime
    · exact h.doActTime
    · exact h.doStageOff
    · exact h.doStageWin
    · exact h.plainWrite
  · split
    · exact h.doSecCmd
    · exact h.doObjCtrl
    · exact h.doObjWin
    · exact h.plainWrite
  · exact iteSnd h.doHandover h.plainWrite
  · exact iteSnd h.doHlthCtrl h.plainWrite
  · exact iteSnd h.doTestUnlock h.plainWrite
  · exact iteSnd h.doRingCtrl h.plainWrite
  · split
    · exact h.plainWrite.thenIf (·.owModed)
    · exact h.doCdiagCmd
    · exact h.plainWrite
  · exact iteSnd h.doHcmd h.plainWrite
  · split
    · exact h.doBanksel
    · exact h.doGain
    · exact h.doGain
    · exact h.doInjCtrl
    · exact h.doCapCtrl
    · exact h.plainWrite
  · exact h.doCoef
  · exact h.doCoef
  · split
    · exact h.doCurTarget
    · exact h.doLimit
    · exact h.doLimit
    · exact h.doVlvTarget
    · exact h.doLimit
    · exact h.doStop
    · exact h.plainWrite
  · exact iteSnd h.doVaxCtrl h.plainWrite
  · split
    · exact h.doImpCtrl
    · exact h.doImpCmd
    · exact h.plainWrite
  · split
    · exact h.doEstCtrl
    · exact h.doChemAddr
    · exact h.doChemData
    · exact h.doChemCmd
    · exact h.doIcal
    · exact h.plainWrite
  · exact iteSnd h.doSafeCmd h.plainWrite
  · exact iteSnd h.doContCmd h.plainWrite
  · split
    · exact h.doPercCtrl
    · exact h.doProgAddr
    · exact h.doProgData
    · exact h.doPercCmd
    · exact h.plainWrite
  · exact iteSnd h.doFifoCmd h.plainWrite
  · split
    · exact h.doPsCtrl
    · exact h.doCntl
    · exact h.doCntl
    · exact h.doCnth
    · exact h.doCnth
    · exact h.plainWrite
  · split
    · exact h.doPsCtrl
    · exact h.doCntl
    · exact h.doCntl
    · exact h.doCnth
    · exact h.doCnth
    · exact h.plainWrite
  · exact h.plainWrite
  · exact h.plainWrite
  · exact h.plainWrite
  · exact h.plainWrite
  · exact h.plainWrite

theorem writeHeader (h : Kept s t) {v : Word} : Kept s (t.writeHeader src pg off v).2 := by
  unfold State.writeHeader
  split
  · exact h.doPageCtrl
  · exact h.setReg
  · exact h.pendClear
  · exact h.doUnlock
  · exact h

theorem writeReg (h : Kept s t) {v : Word} : Kept s (t.writeReg src pg off v join).2 := by
  unfold State.writeReg
  refine h.gated (fun h => ?_)
  split
  · exact h
  · exact iteSnd h.writeHeader h.writeBlock

theorem writeAddr (h : Kept s t) {a : Nat} {v : Word} : Kept s (t.writeAddr src a v join).2 := by
  unfold State.writeAddr
  refine iteSnd h ?_
  split
  · exact h.writeReg
  · split
    · exact h
    · exact h
  · exact h
  · exact h

theorem enter (h : Kept s t) : Kept s (t.enter src join) := ite h h.frame

theorem roundWrite (h : Kept s t) {prev : List (Nat × Nat)} {a : Nat} {v : Word} :
    Kept s (t.roundWrite src prev a v).1.2 := by
  unfold State.roundWrite
  dsimp only
  split
  · exact iteFstSnd h.collide h.writeAddr.collide.frame
  · exact h.writeAddr.frame
  · exact h.writeAddr

theorem writeWords (h : Kept s t) {src : Src} {prev : List (Nat × Nat)} {a : Nat} {ps : List (Word × Word)} :
    Kept s (t.writeWords src prev a ps).2 :=
  foldlOn (p := fun x : Nat × OpResult × State => x.2.2) h fun h => h.roundWrite

theorem broadcast (h : Kept s t) {prev : List (Nat × Nat)} {ps : List (Word × Word)} :
    Kept s (t.broadcast src prev off ps).2 := by
  unfold State.broadcast
  refine iteSnd h (iteSnd h ?_)
  have hrun := foldlOn (p := fun x : List (Ch × OpResult) × State => x.2) (b := ([], t))
    (l := allCh.filter (fun n => t.getBit F.HOST_BCAST_EN_EN n.val))
    (f := fun x n =>
      let r := if off + 4 * ps.length ≤ 0x4400 then x.2.writeWords src prev (chBase n + off) ps
        else (⟨.noaddr, 0, false, 0, []⟩, x.2)
      (x.1 ++ [(n, r.1)], r.2)) h fun h => iteSnd h.writeWords h
  dsimp only at hrun ⊢
  split
  · exact hrun.modIdent
  · exact hrun

theorem writeOp (h : Kept s t) {a : Nat} {ps : List (Word × Word)} : Kept s (t.writeOp src a ps join).2 := by
  unfold State.writeOp
  dsimp only
  split
  · exact h.enter.broadcast
  · exact h.enter.writeWords

theorem shadowPass (h : Kept s t) {src : Src} {prev : List (Nat × Nat)} {sel : AtomicOp → Bool}
    {ops : List (AtomicOp × OpResult)} : Kept s (t.shadowPass src prev sel ops).2 := by
  refine foldlOn (p := fun x : List (AtomicOp × OpResult) × State => x.2) h fun h => ?_
  dsimp only
  split
  · exact h.writeWords
  · exact h

theorem shadowRun (h : Kept s t) {ops : List AtomicOp} : Kept s (t.shadowRun src ops).2 := h.shadowPass.shadowPass

theorem atomic (h : Kept s t) {ops : List AtomicOp} : Kept s (t.atomic src ops join).2 :=
  iteSnd h (iteSnd h (iteSnd h.enter.shadowRun h))

theorem execRead (h : Kept s t) {addr n : Nat} : GoesKept s (execRead src addr n t) := .answerOp h.readOp

theorem execReadRepeat (h : Kept s t) {addr n : Nat} : GoesKept s (execReadRepeat src addr n t) := .answerOp h.readOp

theorem execWrite (h : Kept s t) {addr : Nat} {ws : List Word} : GoesKept s (execWrite src addr ws join t) :=
  .answerOp h.writeOp

theorem execWriteMask (h : Kept s t) {addr : Nat} {ps : List (Word × Word)} :
    GoesKept s (execWriteMask src addr ps join t) :=
  .answerOp h.writeOp

theorem execRegisterWrite (h : Kept s t) {addr : Nat} {v : Word} : GoesKept s (execRegisterWrite src addr v join t) :=
  .answerOp h.writeOp

theorem execBroadcastWrite (h : Kept s t) {ws : Joined (List Word)} : GoesKept s (execBroadcastWrite src off ws t) :=
  .answerOp h.enter.broadcast

theorem execAtomicRequest (h : Kept s t) {ops : Joined (List AtomicOp)} : GoesKept s (execAtomicRequest src ops t) :=
  .answerOp h.atomic

theorem execIrqPendClear (h : Kept s t) {v : Word} : GoesKept s (execIrqPendClear src pg v t) :=
  .answer (h.gated (·.pendClear))

theorem execPageUnlock (h : Kept s t) {key : Word} : GoesKept s (execPageUnlock src pg key t) :=
  .answer (h.gated (·.doUnlock))

theorem execUnlockExpiry (h : Kept s t) : GoesKept s (execUnlockExpiry sid pg t) := .happen h.modSession

theorem execUnlockLockoutEnd (h : Kept s t) {ident : Ident} : GoesKept s (execUnlockLockoutEnd ident pg t) :=
  .happen h.modIdent

theorem execSoftReset (h : Kept s t) : GoesKept s (execSoftReset src pg t) := .answer (h.gated (·.doPageCtrl))

theorem execPageDisable (h : Kept s t) : GoesKept s (execPageDisable src pg t) := .answer (h.gated (·.doPageCtrl))

theorem execPageEnable (h : Kept s t) : GoesKept s (execPageEnable src pg t) := .answer (h.gated (·.doPageCtrl))

theorem execWscRead (h : Kept s t) {sync : Bool} {addr : Nat} : GoesKept s (execWscRead n sync addr t) :=
  .happen h.readAddr.modPerc

theorem execWscWrite (h : Kept s t) {sync : Bool} {addr : Nat} {v : Word} : GoesKept s (execWscWrite n sync addr v t) :=
  .happen h.enter.writeWords.modPerc

theorem execBankSwapReq (h : Kept s t) {atEpoch : Bool} : GoesKept s (execBankSwapReq src n atEpoch t) :=
  .answer (h.gated (·.doBankReq))

theorem execBankSwapCancel (h : Kept s t) : GoesKept s (execBankSwapCancel src n t) :=
  .answer (h.gated (·.doBankCancel))

theorem execIloopGainWrite (h : Kept s t) {ki : Bool} {v : Word} : GoesKept s (execIloopGainWrite src n ki v t) :=
  .answer (h.gated (·.doGain))

theorem execInjStart (h : Kept s t) {v : Word} : GoesKept s (execInjStart src n v t) := .answer (h.gated (·.doInjCtrl))

theorem execInjStop (h : Kept s t) : GoesKept s (execInjStop src n t) := .answer (h.gated (·.doInjCtrl))

theorem execArm (h : Kept s t) {v : Word} : GoesKept s (execArm src n v t) := .answer (h.gated (·.doCapCtrl))

theorem execCapDataRead (h : Kept s t) : GoesKept s (execCapDataRead src n t) := h.readAs h.readCapData

theorem execCurTargetWrite (h : Kept s t) {v : Word} : GoesKept s (execCurTargetWrite src n v t) :=
  .answer (h.gated (·.doCurTarget))

theorem execLimitWrite (h : Kept s t) {r : LimReg} {v : Word} : GoesKept s (execLimitWrite src n r v t) :=
  .answer (h.gated (·.doLimit))

theorem execVlvTargetWrite (h : Kept s t) {v : Word} : GoesKept s (execVlvTargetWrite src n v t) :=
  .answer (h.gated (·.doVlvTarget))

theorem execStop (h : Kept s t) : GoesKept s (execStop src n t) := .answer (h.gated (·.doStop))

theorem execClrfault (h : Kept s t) : GoesKept s (execClrfault src n t) := .answer (h.gated (·.doVaxCtrl))

theorem execHome (h : Kept s t) {v : Word} : GoesKept s (execHome src n v t) := .answer (h.gated (·.doVaxCtrl))

/-! ## WRAP -/

theorem useIdent (h : Kept s t) {i : Ident} : Kept s (t.useIdent i) := by
  unfold State.useIdent
  dsimp only
  refine ite h.modIdent (ite h.frame ?_)
  split
  · exact h.frame.log
  · exact h

theorem execDtlsHandshake (h : Kept s t) {port : Port} {ident : Ident} {offer : Offer} :
    GoesKept s (execDtlsHandshake port ident offer t) :=
  .happen (ite h (h.foldl (·.endSession) |>.useIdent.frame))

theorem execSessionTimeout (h : Kept s t) : GoesKept s (execSessionTimeout sid t) := by
  unfold Machine.execSessionTimeout
  refine .happen ?_
  split
  · exact ite h.endSession h
  · exact h

theorem wrapOp (h : Kept s t) {o : WrapOp} : Kept s (t.wrapOp src join o).2 := by
  cases o with
  | read | repeated => exact h.readOp
  | write | mask => exact h.writeOp

theorem wrapOps (h : Kept s t) {l : List WrapOp} : Kept s (t.wrapOps src join l).2 := by
  induction l generalizing t join with
  | nil => exact h
  | cons o l ih => exact ih h.wrapOp

theorem runRequest (h : Kept s t) {isAtomic : Bool} {l : List WrapOp} : Kept s (t.runRequest src isAtomic join l).2 :=
  iteSnd h (iteSnd h.atomic h.wrapOps)

theorem respond (h : Kept s t) {x : Ident} {w : Word} {l : List OpResult} {executed : Bool} :
    Kept s (t.respond sid x w l executed) := by
  unfold State.respond
  split
  · exact h
  · exact h.modIdent.emit

theorem request_ (h : Kept s t) {x : Session} {b : List Byte} : Kept s (t.request_ x b join) := by
  unfold State.request_
  dsimp only
  split
  · exact h.useIdent.modSession
  · split
    · exact h.useIdent.modSession.emit
    · refine ite h.useIdent.modSession.respond ?_
      split
      · exact h.useIdent.modSession.respond
      · exact h.useIdent.modSession.runRequest.respond

theorem execWrapRequest (h : Kept s t) {bytes : Joined (List Byte)} : GoesKept s (execWrapRequest sid bytes t) := by
  unfold Machine.execWrapRequest
  dsimp only
  refine .happen ?_
  split
  · exact h
  · exact ite h (ite h.log h.request_)

theorem notifyTo (h : Kept s t) {x : Session} {l : List NotifyRec} : Kept s (t.notifyTo x l) := by
  unfold State.notifyTo
  dsimp only
  split
  · exact ite h h.useIdent
  · exact ite h h.useIdent |>.modIdent.emit

theorem execNotifySend (h : Kept s t) : GoesKept s (execNotifySend t) :=
  .happen (ite h (h.frame.foldl (·.foldl (·.notifyTo))))

/-! ## Every command -/

/-- Every command goes on and keeps both: the arm of each command by the lemma of its meaning. -/
theorem exec (h : Kept s t) (c : Instr) : GoesKept s (exec c t) :=
  match c with
  | .wrapRequest .. => h.execWrapRequest
  | .read .. => h.execRead
  | .write .. => h.execWrite
  | .readRepeat .. => h.execReadRepeat
  | .writeMask .. => h.execWriteMask
  | .atomicRequest .. => h.execAtomicRequest
  | .broadcastWrite .. => h.execBroadcastWrite
  | .registerWrite .. => h.execRegisterWrite
  | .irqPendClear .. => h.execIrqPendClear
  | .notifySend => h.execNotifySend
  | .pageUnlock .. => h.execPageUnlock
  | .unlockExpiry .. => h.execUnlockExpiry
  | .unlockLockoutEnd .. => h.execUnlockLockoutEnd
  | .softReset .. => h.execSoftReset
  | .pageDisable .. => h.execPageDisable
  | .pageEnable .. => h.execPageEnable
  | .dtlsHandshake .. => h.execDtlsHandshake
  | .sessionTimeout .. => h.execSessionTimeout
  | .snapReq .. => h.execSnapReq
  | .snapEnd .. => h.execSnapEnd
  | .snapLastRead .. => h.execSnapLastRead
  | .snapTimeout => h.execSnapTimeout
  | .powerOn .. => h.execPowerOn
  | .bootEnd .. => h.execBootEnd
  | .standby .. => h.execStandby
  | .run .. => h.execRun
  | .decaf .. => h.execDecaf
  | .wake .. => h.execWake
  | .restart .. => h.execRestart
  | .halt .. => h.execHalt
  | .wakeVoltageCheck .. => h.execWakeVoltageCheck
  | .logic24Low .. => h.execLogic24Low
  | .logic24High => h.execLogic24High
  | .holdupStart .. => h.execHoldupStart
  | .holdupReset => h.execHoldupReset
  | .detectLoopQualified .. => h.execDetectLoopQualified
  | .padTouch .. => h.execPadTouch
  | .selectionLapse => h.execSelectionLapse
  | .ack => h.execAck
  | .lockoutRelease => h.execLockoutRelease
  | .panelWakeConfirm => h.execPanelWakeConfirm
  | .keysw .. => h.execKeysw
  | .isolate => h.execIsolate
  | .isolateAbandon => h.execIsolateAbandon
  | .isolateFeedbackOpen .. => h.execIsolateFeedbackOpen
  | .isolateFail .. => h.execIsolateFail
  | .epochSample .. => h.execEpochSample
  | .trigSend .. => h.execTrigSend
  | .collectSend .. => h.execCollectSend
  | .frameReturn .. => h.execFrameReturn
  | .readSend .. => h.execReadSend
  | .sweepClose .. => h.execSweepClose
  | .stale .. => h.execStale
  | .cellOt .. => h.execCellOt
  | .pourPublish .. => h.execPourPublish
  | .vlimModel .. => h.execVlimModel
  | .fifoCommit .. => h.execFifoCommit
  | .fifoDataRead .. => h.execFifoDataRead
  | .mark .. => h.execMark
  | .rewind .. => h.execRewind
  | .flush .. => h.execFlush
  | .clrmark .. => h.execClrmark
  | .ringStart .. => h.execRingStart
  | .restartRing .. => h.execRestartRing
  | .ringWakeEnd .. => h.execRingWakeEnd
  | .enum .. => h.execEnum
  | .mcloadDone .. => h.execMcloadDone
  | .delaySetDone .. => h.execDelaySetDone
  | .ringRetry .. => h.execRingRetry
  | .commandFrameSend .. => h.execCommandFrameSend
  | .backgroundSetStart .. => h.execBackgroundSetStart
  | .backgroundSetDone .. => h.execBackgroundSetDone
  | .portLinkDown .. => h.execPortLinkDown
  | .portLinkUp .. => h.execPortLinkUp
  | .alarm .. => h.execAlarm
  | .splitEntry .. => h.execSplitEntry
  | .rejoinSetStart .. => h.execRejoinSetStart
  | .rejoin .. => h.execRejoin
  | .cdiagClear .. => h.execCdiagClear
  | .cdiagForce .. => h.execCdiagForce
  | .balAutoRun .. => h.execBalAutoRun
  | .balHcmd .. => h.execBalHcmd
  | .balHcmdLapse .. => h.execBalHcmdLapse
  | .ctleSample .. => h.execCtleSample
  | .late .. => h.execLate
  | .stageFault .. => h.execStageFault
  | .preDone .. => h.execPreDone
  | .ploopFe .. => h.execPloopFe
  | .fe .. => h.execFe
  | .bankSwapReq .. => h.execBankSwapReq
  | .bankSwapCancel .. => h.execBankSwapCancel
  | .swap .. => h.execSwap
  | .iloopGainWrite .. => h.execIloopGainWrite
  | .injStart .. => h.execInjStart
  | .injBegin .. => h.execInjBegin
  | .injStop .. => h.execInjStop
  | .injEnd .. => h.execInjEnd
  | .arm .. => h.execArm
  | .capDone .. => h.execCapDone
  | .capDataRead .. => h.execCapDataRead
  | .curTargetWrite .. => h.execCurTargetWrite
  | .limitWrite .. => h.execLimitWrite
  | .vlvTargetWrite .. => h.execVlvTargetWrite
  | .stop .. => h.execStop
  | .currentZero .. => h.execCurrentZero
  | .stopTmo .. => h.execStopTmo
  | .vlvEval .. => h.execVlvEval
  | .enc .. => h.execEnc
  | .coil .. => h.execCoil
  | .motorSupplyFault .. => h.execMotorSupplyFault
  | .motorSupplyRecover .. => h.execMotorSupplyRecover
  | .iholdTimer .. => h.execIholdTimer
  | .clrfault .. => h.execClrfault
  | .home .. => h.execHome
  | .limitTransition .. => h.execLimitTransition
  | .limitQualified .. => h.execLimitQualified
  | .homeComplete .. => h.execHomeComplete
  | .homeTmo .. => h.execHomeTmo
  | .impLeadinStart .. => h.execImpLeadinStart
  | .impBlockEnd .. => h.execImpBlockEnd
  | .blockDone .. => h.execBlockDone
  | .blockVoid .. => h.execBlockVoid
  | .impStart .. => h.execImpStart
  | .impAbort .. => h.execImpAbort
  | .aggregateTask .. => h.execAggregateTask
  | .kfUpdate .. => h.execKfUpdate
  | .sopUpdate .. => h.execSopUpdate
  | .taskLate _ k => h.execTaskLate (task := k)
  | .restPoint .. => h.execRestPoint
  | .restAgeTick .. => h.execRestAgeTick
  | .chemDataAccess .. => h.execChemDataAccess
  | .commitChem .. => h.execCommitChem
  | .reinit .. => h.execReinit
  | .learnClear .. => h.execLearnClear
  | .icalOffset .. => h.execIcalOffset
  | .icalGain .. => h.execIcalGain
  | .icalDone .. => h.execIcalDone
  | .estRecordWrite .. => h.execEstRecordWrite
  | .allocRun => h.execAllocRun
  | .pcmdWrite .. => h.execPcmdWrite
  | .pcmdTmo => h.execPcmdTmo
  | .restWindowEnd => h.execRestWindowEnd
  | .tripOpen .. => h.execTripOpen
  | .overcurrentDetect .. => h.execOvercurrentDetect
  | .overcurrent .. => h.execOvercurrent
  | .siDemand .. => h.execSiDemand
  | .testPulse .. => h.execTestPulse
  | .siLineRestore .. => h.execSiLineRestore
  | .connect .. => h.execConnect
  | .disconnect .. => h.execDisconnect
  | .fbChange .. => h.execFbChange
  | .fbClose .. => h.execFbClose
  | .preTmo .. => h.execPreTmo
  | .weld .. => h.execWeld
  | .degradeTmax .. => h.execDegradeTmax
  | .reset .. => h.execReset
  | .degAck .. => h.execDegAck
  | .cremaCheck .. => h.execCremaCheck
  | .tripTest .. => h.execTripTest
  | .hlthDisable .. => h.execHlthDisable
  | .dieSample .. => h.execDieSample
  | .compensationStep => h.execCompensationStep
  | .thermLimitEval => h.execThermLimitEval
  | .syncCycleStart .. => h.execSyncCycleStart
  | .syncDeadline .. => h.execSyncDeadline
  | .freeWdog .. => h.execFreeWdog
  | .freeSwitch .. => h.execFreeSwitch
  | .outputImageSend .. => h.execOutputImageSend
  | .freeOutputWrite .. => h.execFreeOutputWrite
  | .percModeRun .. => h.execPercModeRun
  | .percModeStop .. => h.execPercModeStop
  | .percModeHold .. => h.execPercModeHold
  | .wscRead .. => h.execWscRead
  | .wscWrite .. => h.execWscWrite
  | .progDataAccess .. => h.execProgDataAccess
  | .load .. => h.execLoad
  | .exchange .. => h.execExchange
  | .retInit .. => h.execRetInit
  | .progCheckDone .. => h.execProgCheckDone
  | .xdone .. => h.execXdone
  | .progFlashWrite .. => h.execProgFlashWrite
  | .retainCopy .. => h.execRetainCopy
  | .ptpSync .. => h.execPtpSync
  | .ptpSyncTimeout => h.execPtpSyncTimeout
  | .step => h.execStep
  | .ptpForward .. => h.execPtpForward
  | .ptpCtrlWrite .. => h.execPtpCtrlWrite
  | .canRxFrame .. => h.execCanRxFrame
  | .canTxReq .. => h.execCanTxReq
  | .canTxCancel .. => h.execCanTxCancel
  | .canTxArbitration => h.execCanTxArbitration
  | .canTxComplete => h.execCanTxComplete
  | .canTxError .. => h.execCanTxError
  | .canBusOff => h.execCanBusOff
  | .recover .. => h.execRecover
  | .canRecoveryDone => h.execCanRecoveryDone
  | .canRxLock .. => h.execCanRxLock
  | .canRxRelease .. => h.execCanRxRelease
  | .lockTmo => h.execLockTmo
  | .canStatusFrame => h.execCanStatusFrame
  | .heartbeatSend => h.execHeartbeatSend
  | .heartbeat .. => h.execHeartbeat
  | .heartbeatMissed => h.execHeartbeatMissed
  | .noticeTrip .. => h.execNoticeTrip
  | .noticeRelease .. => h.execNoticeRelease
  | .noticeRestart .. => h.execNoticeRestart
  | .mirrorSend .. => h.execMirrorSend
  | .mirror .. => h.execMirror
  | .mirrorFail .. => h.execMirrorFail
  | .ringMsg .. => h.execRingMsg
  | .resync => h.execResync
  | .ownerInChange .. => h.execOwnerInChange
  | .claimWatchEnd .. => h.execClaimWatchEnd
  | .lost .. => h.execLost
  | .takeoverEnable .. => h.execTakeoverEnable
  | .bridgeClose .. => h.execBridgeClose
  | .link => h.execLink
  | .ready => h.execReady
  | .handover .. => h.execHandover
  | .eventFlush => h.execEventFlush
  | .evtFlush .. => h.execEvtFlush
  | .clear .. => h.execClear
  | .evtWin7Read .. => h.execEvtWin7Read
  | .optimePersist => h.execOptimePersist
  | .ovf .. => h.execOvf
  | .pmcCntlRead .. => h.execPmcCntlRead
  | .pmcCntlWrite .. => h.execPmcCntlWrite
  | .psSample .. => h.execPsSample
  | .psDataRead .. => h.execPsDataRead
  | .psClear .. => h.execPsClear
  | .stageWrite .. => h.execStageWrite
  | .verify .. => h.execVerify
  | .verifyDone => h.execVerifyDone
  | .updArm .. => h.execUpdArm
  | .cancel .. => h.execCancel
  | .activated => h.execActivated
  | .confirm => h.execConfirm
  | .accept .. => h.execAccept
  | .fallback => h.execFallback
  | .commit .. => h.execCommit
  | .deprovision .. => h.execDeprovision
  | .unlock .. => h.execUnlock
  | .coverOpen => h.execCoverOpen
  | .identityKeygen .. => h.execIdentityKeygen
  | .tapInstruction .. => h.execTapInstruction
  | .aux24Low => h.execAux24Low
  | .auxFuseOpen => h.execAuxFuseOpen
  | .auxFuseReclose => h.execAuxFuseReclose
  | .aux24Restored => h.execAux24Restored
  | .vholdCharged => h.execVholdCharged
  | .slewEnd => h.execSlewEnd
  | .claimStart .. => h.execClaimStart
  | .supervisorRestartDone => h.execSupervisorRestartDone
  | .testPulseStart .. => h.execTestPulseStart
  | .canRxError => h.execCanRxError
  | .canBusJoin => h.execCanBusJoin
  | .impedanceAccumulation .. => h.execImpedanceAccumulation
  | .ptpAnnounce .. => h.execPtpAnnounce
  | .ptpPathDelay .. => h.execPtpPathDelay
  | .ptpMasterSync => h.execPtpMasterSync

end Kept

/-- Settles O3: a command that keeps the queue and the registers' form goes on. -/
theorem everyCommandGoesOn : Obligations.EveryCommandGoesOn := by
  unfold Obligations.EveryCommandGoesOn
  intro c s
  obtain ⟨t, ht, _⟩ := (Kept.refl s).exec c
  exact ⟨t, ht⟩

/-- What a command answers keeps both. -/
theorem Kept.of_exec {c : Instr} {s t : State} (h : Machine.exec c s = .next t) : Kept s t := by
  obtain ⟨u, hu, hkept⟩ := (Kept.refl s).exec c
  cases hu.symm.trans h
  exact hkept

/-- Settles O7: the queue is the one part of the state that no command's meaning names. -/
theorem queueUntouched : Obligations.QueueUntouched := by
  unfold Obligations.QueueUntouched
  intro c s t h
  exact (Kept.of_exec h).1

/-- Settles O6: an idle step changes no register, and the front command keeps the form. -/
theorem registersCanonicalKept : Obligations.RegistersCanonicalKept := by
  unfold Obligations.RegistersCanonicalKept
  intro s t hs h
  unfold step at h
  split at h
  · cases h
    exact (Kept.refl s).tick.2 hs
  · exact (Kept.of_exec h).2 hs

end Sys2Proof.Machine
end
section
/-! PROOFS. The step and the queue, and the reset state (log entries 1, 3, 8). -/

namespace Sys2Proof.Machine
open Sys2Proof

/-- Settles O1: the step takes the front of the queue. -/
theorem stepRunsFront : Obligations.StepRunsFront := by
  unfold Obligations.StepRunsFront
  intro c r s
  simp only [step]

/-- Settles O2: with nothing waiting, the step is the tick. -/
theorem idleTick : Obligations.IdleTick := by
  unfold Obligations.IdleTick
  intro s hempty
  simp only [step, hempty, State.tick]

/-- A register of a channel lies on the page of its offset (Table 4.4). -/
theorem locate_chanPage (n : Ch) {k : Nat} (hk : k < 0x4400) :
    locate (chBase n + k) = .page ⟨chanPages.getD (k / 0x400) .ch, n⟩ (k % 0x400) := by
  have hn := n.isLt
  have hoff : (chBase n + k - 0x100000) % 0x20000 = k := by unfold chBase; omega
  have hch : chOf (chBase n + k) = n := by
    apply Fin.ext
    simp only [chOf, Fin.val_ofNat, chBase]
    omega
  have hshared : ¬ chBase n + k < 0x3C00 := by unfold chBase; omega
  have hgap : ¬ chBase n + k < 0x100000 := by unfold chBase; omega
  have hchan : chBase n + k < 0x200000 := by unfold chBase; omega
  simp only [locate, hshared, hgap, hchan, hoff, hk, hch, if_true, if_false]

/-- But for PAGE_ID, a channel's registers have the reset words of channel 0's. -/
theorem get_reset_chan (n : Ch) {k : Nat} (hk : k < 0x4400) (hid : k % 0x400 ≠ 0) (hi lo : Nat) :
    State.reset.get ⟨chBase n + k, hi, lo⟩ = State.reset.get ⟨chBase 0 + k, hi, lo⟩ := by
  have hword : ∀ m : Ch, State.reset.reg (chBase m + k) = resetWord (chBase m + k) := fun _ => rfl
  simp only [State.get, hword, resetWord, locate_chanPage _ hk, pageReset, hid, if_false]

theorem chState_reset (n : Ch) : State.reset.chState n = stISOLATED :=
  (get_reset_chan n (k := 0x20) (by decide) (by decide) 3 0).trans (by decide +kernel)

theorem ring_enabled_reset (n : Ch) : State.reset.enabled (pgRING n) = true :=
  beq_iff_eq.mpr ((get_reset_chan n (k := 0x404) (by decide) (by decide) 0 0).trans (by decide +kernel))

theorem pwm_inhibited_reset (n : Ch) : State.reset.flag (F.CTLE_STAT_INHIBIT n) = true :=
  beq_iff_eq.mpr ((get_reset_chan n (k := 0x1430) (by decide) (by decide) 29 29).trans (by decide +kernel))

/-- Settles O4: the reset words of the registers, and the empty parts of the reset state. -/
theorem resetState : Obligations.ResetState := by
  unfold Obligations.ResetState
  have hmode : State.reset.mode = mBOOT := rfl
  exact ⟨fun _ => rfl, rfl, rfl, rfl, rfl, rfl, rfl, hmode, chState_reset,
    fun n => ⟨ring_enabled_reset n, pwm_inhibited_reset n⟩⟩

/-- Settles O5: the register memory of reset lists nothing. -/
theorem registersCanonicalAtReset : Obligations.RegistersCanonicalAtReset := by
  unfold Obligations.RegistersCanonicalAtReset State.regsCanonical
  exact (rfl : Mem.wf resetWord [] = true)

end Sys2Proof.Machine
end
section
/-! PROOFS. The commands on shared pages that leave every channel as it was (R24, R319, R365 to R367, R374 to R377). -/

namespace Sys2Proof.Machine
open Sys2Proof

namespace sharedOnly

variable {s t u : State} {b : Nat}

/-- A change of parts other than the channels and the registers. -/
theorem frame (h : sharedOnly s t) {pending : List Instr} {mram : Mem} {dirty : List Nat} {clock : ClockS} {sup : SupS}
    {snap : Option SnapS} {sessions : List Session} {idents : List IdState} {nextSid : Nat} {joined : List (Nat × Nat)}
    {last : OpResult} {notifies : List NotifyRec} {outbox : List OutMsg} {panel : PanelS} {therm : ThermS} {alloc : AllocS}
    {can : CanS} {twin : TwinS} {evt : EvtS} {upd : UpdS} {pmcs : PmcS} {free : Nat} :
    sharedOnly s ⟨pending, t.regs, mram, dirty, t.chans, clock, sup, snap, sessions, idents, nextSid, joined, last,
      notifies, outbox, panel, therm, alloc, can, twin, evt, upd, pmcs, free⟩ :=
  h

theorem put (h : sharedOnly s t) {f : RF} {v : Nat} (hf : f.addr < 0x100000 := by decide) : sharedOnly s (t.put f v) :=
  h.trans (shared_put t v hf)

theorem putB (h : sharedOnly s t) {f : RF} {v : Bool} (hf : f.addr < 0x100000 := by decide) : sharedOnly s (t.putB f v) :=
  h.trans (shared_putB t v hf)

theorem incSat (h : sharedOnly s t) {f : RF} (hf : f.addr < 0x100000 := by decide) : sharedOnly s (t.incSat f) :=
  h.trans (shared_incSat t hf)

theorem raise (h : sharedOnly s t) {pg : PageRef} (hpg : R.IRQ_PEND pg < 0x100000 := by decide) :
    sharedOnly s (t.raise pg b) :=
  h.trans (shared_raise t b hpg)

theorem verShow (h : sharedOnly s t) : sharedOnly s t.verShow := h.trans (shared_verShow t)

theorem zeroise (h : sharedOnly s t) {tap : Bool} : sharedOnly s (t.zeroise tap) := h.trans (shared_zeroise t tap)

theorem setInactive (h : sharedOnly s t) {x : Slot} : sharedOnly s (t.setInactive x) := h.frame

theorem iteSnd {α : Type} {c : Prop} {_ : Decidable c} {a b : α × State} (h1 : sharedOnly s a.2) (h2 : sharedOnly s b.2) :
    sharedOnly s (if c then a else b).2 := by
  split <;> assumption

/-! ## Updates and secrets -/

theorem doStageWin (h : sharedOnly s t) {src : Src} {k : Nat} {v : Word} : sharedOnly s (t.doStageWin src k v).2 :=
  iteSnd h (iteSnd h h.setInactive.put.verShow)

theorem doVerify (h : sharedOnly s t) {src : Src} : sharedOnly s (t.doVerify src).2 := iteSnd h (iteSnd h.put h)

theorem doCancel (h : sharedOnly s t) : sharedOnly s t.doCancel.2 := iteSnd h h.put.frame

theorem doAccept (h : sharedOnly s t) : sharedOnly s t.doAccept.2 := iteSnd h h.frame

theorem doTestUnlock (h : sharedOnly s t) {v : Word} : sharedOnly s (t.doTestUnlock v).2 := iteSnd h (.ite h.zeroise h)

/-! ## CAN reception -/

theorem errJudge (h : sharedOnly s t) : sharedOnly s t.errJudge := .ite h (.ite h h.put.raise)

theorem recDown (h : sharedOnly s t) : sharedOnly s t.recDown :=
  .ite h.put.errJudge (put (t := t.draw.2) h.frame).errJudge

theorem rxShow (h : sharedOnly s t) : sharedOnly s t.rxShow := .ite h.put.putB.raise h.put.putB

end sharedOnly

/-! ## The commands -/

/-- A command goes on and leaves every channel as it was. -/
def GoesShared (s : State) (o : Host.Outcome State Fault Refusal) : Prop := ∃ t, o = .next t ∧ sharedOnly s t

theorem goesShared_happen {s t : State} (h : sharedOnly s t) : GoesShared s (happen t) := ⟨t, rfl, h⟩

theorem goesShared_gated (s : State) (src : Src) (pg : PageRef) (off : Nat) (v : Word) {f : State → Res}
    (h : ∀ t : State, sharedOnly t (f t).2) : GoesShared s (answer (s.gated src pg off v f)) :=
  ⟨_, rfl, (shared_gated s src pg off v f h).frame⟩

theorem goesShared_coverOpen (s : State) : GoesShared s (execCoverOpen s) :=
  goesShared_happen (sharedOnly.refl s).putB.zeroise

theorem goesShared_deprovision (s : State) (src : Src) : GoesShared s (execDeprovision src s) :=
  goesShared_gated s src _ _ _ fun t => (sharedOnly.refl t).zeroise

theorem goesShared_unlock (s : State) (src : Src) (v : Word) : GoesShared s (execUnlock src v s) :=
  goesShared_gated s src _ _ _ fun t => (sharedOnly.refl t).doTestUnlock

theorem goesShared_stageWrite (s : State) (src : Src) (k : Fin 128) (v : Word) : GoesShared s (execStageWrite src k v s) :=
  goesShared_gated s src _ _ _ fun t => (sharedOnly.refl t).doStageWin

theorem goesShared_verify (s : State) (src : Src) : GoesShared s (execVerify src s) :=
  goesShared_gated s src _ _ _ fun t => (sharedOnly.refl t).doVerify

theorem goesShared_verifyDone (s : State) : GoesShared s (execVerifyDone s) :=
  goesShared_happen (.ite (.refl s) (.ite (sharedOnly.refl s).put.setInactive.put.verShow.raise
    (sharedOnly.refl s).put.setInactive.put.verShow.raise))

theorem goesShared_cancel (s : State) (src : Src) : GoesShared s (execCancel src s) :=
  goesShared_gated s src _ _ _ fun t => (sharedOnly.refl t).doCancel

theorem goesShared_accept (s : State) (src : Src) : GoesShared s (execAccept src s) :=
  goesShared_gated s src _ _ _ fun t => (sharedOnly.refl t).doAccept

theorem goesShared_identityKeygen (s : State) (closed : Bool) : GoesShared s (execIdentityKeygen closed s) := by
  have hcover : sharedOnly s (if closed = true then s.putB F.TEST_STAT_COVER_OPEN false else s) :=
    .ite (sharedOnly.refl s).putB (.refl s)
  exact goesShared_happen (.ite hcover.frame.put hcover)

theorem goesShared_tapInstruction (s : State) (dev : Fin 3) (op : Byte) : GoesShared s (execTapInstruction dev op s) := by
  have h := sharedOnly.refl s
  exact goesShared_happen (.ite h (.ite (.ite h.frame h.frame.putB) (.ite h.frame h.frame)))

theorem goesShared_canRxFrame (s : State) (f : CanFrame) : GoesShared s (execCanRxFrame f s) :=
  have h := (sharedOnly.refl s).recDown
  goesShared_happen (.ite (.refl s) (.ite h.incSat.frame.raise h.frame.rxShow))

theorem goesShared_canRxError (s : State) : GoesShared s (execCanRxError s) :=
  goesShared_happen (.ite (sharedOnly.refl s).incSat.errJudge (.refl s))

theorem goesShared_lockTmo (s : State) : GoesShared s (execLockTmo s) := by
  refine goesShared_happen ?_
  split
  · exact .ite (sharedOnly.refl s).frame.rxShow.putB (.refl s)
  · exact .refl s

theorem goesShared_snapTimeout (s : State) : GoesShared s (execSnapTimeout s) := by
  refine goesShared_happen ?_
  split
  · exact .ite (shared_snapRelease s true) (.refl s)
  · exact .refl s

/-! ## Zeroisation leaves parameters and identities -/

/-- The parameter MRAM and the identities of two states are the same. -/
def sameMramIdents (s t : State) : Prop := t.mram = s.mram ∧ t.idents = s.idents

theorem sameMramIdents_snapRelease (s : State) (e : Bool) : sameMramIdents s (s.snapRelease e) := by
  unfold State.snapRelease
  dsimp only
  split
  · exact ⟨rfl, rfl⟩
  · split
    · exact ⟨mram_setRaise _ _ _ _, idents_setRaise _ _ _ _⟩
    · exact ⟨rfl, rfl⟩

theorem sameMramIdents_endSession (s : State) (i : Nat) : sameMramIdents s (s.endSession i) := by
  unfold State.endSession
  dsimp only
  split
  · exact sameMramIdents_snapRelease s true
  · exact ⟨rfl, rfl⟩

theorem sameMramIdents_endSessions (l : List Nat) (s : State) :
    sameMramIdents s (l.foldl (fun t i => t.endSession i) s) := by
  induction l generalizing s with
  | nil => exact ⟨rfl, rfl⟩
  | cons i l ih =>
    obtain ⟨hmram, hidents⟩ := sameMramIdents_endSession s i
    obtain ⟨hmram', hidents'⟩ := ih (s.endSession i)
    exact ⟨hmram'.trans hmram, hidents'.trans hidents⟩

theorem sameMramIdents_zeroise (s : State) (tap : Bool) : sameMramIdents s (s.zeroise tap) := by
  obtain ⟨hmram, hidents⟩ := sameMramIdents_endSessions (s.sessions.map (·.sid)) s
  unfold State.zeroise sameMramIdents
  dsimp only
  split <;> split <;> simp [State.modUpd, State.modPanel, hmram, hidents]

/-- Settles O60: every command by its own frame. -/
theorem sharedCommandsLeaveChannels : Obligations.SharedCommandsLeaveChannels := by
  unfold Obligations.SharedCommandsLeaveChannels
  intro s only
  refine ⟨goesShared_coverOpen s, goesShared_deprovision s, goesShared_unlock s, goesShared_stageWrite s,
    goesShared_verify s, goesShared_verifyDone s, goesShared_cancel s, goesShared_accept s, goesShared_identityKeygen s,
    goesShared_tapInstruction s, goesShared_canRxFrame s, goesShared_canRxError s, goesShared_lockTmo s,
    goesShared_snapTimeout s, fun tap => ?_⟩
  exact sameMramIdents_zeroise s tap

end Sys2Proof.Machine
end
section
/-! PROOFS. A trip (R251, R258, R269): what it shows, and that nothing it does afterwards takes it back. -/

namespace Sys2Proof.Machine
open Sys2Proof

/-- The fields in which a trip shows itself, but for those of the control engine. -/
def tripFields (n : Ch) : List RF :=
  [F.CH_STATE_STATE n, F.CH_STATE_PREV n, F.CONT_STAT_INHIBIT n, ⟨R.SAFE_TRIPREC n, 31, 0⟩, ⟨R.SAFE_TRIPEPOCH n, 31, 0⟩]

/-- The fields in which an inhibited control engine shows itself. -/
def inhibitFields (n : Ch) : List RF := [F.CTLE_STAT_INHIBIT n, F.CTLE_STAT_LAW n]

/-- From t to u the trip's fields and the time of its decision stay, and a control engine that is inhibited stays so. -/
structure TripStays (n : Ch) (t u : State) : Prop where
  fields : ∀ g ∈ tripFields n, u.get g = t.get g
  tripAt : (u.ch n).safe.tripAt = (t.ch n).safe.tripAt
  inhibited : t.pwmInhibited n → u.pwmInhibited n

namespace TripStays

variable {n : Ch} {s t u : State}

theorem refl (s : State) : TripStays n s s := ⟨fun _ _ => rfl, rfl, id⟩

theorem trans (h1 : TripStays n s t) (h2 : TripStays n t u) : TripStays n s u :=
  ⟨fun g hg => (h2.fields g hg).trans (h1.fields g hg), h2.tripAt.trans h1.tripAt, fun h => h2.inhibited (h1.inhibited h)⟩

/-- An inhibited control engine stays so when its fields and its switch do. -/
theorem inhibited_of {t u : State} (hfields : ∀ g ∈ inhibitFields n, u.get g = t.get g)
    (henabled : (u.ch n).ctle.enabled = (t.ch n).ctle.enabled) (h : t.pwmInhibited n) : u.pwmInhibited n := by
  obtain ⟨hoff, hinhibit, hlaw⟩ := h
  have hflag : u.flag (F.CTLE_STAT_INHIBIT n) = t.flag (F.CTLE_STAT_INHIBIT n) := by
    rw [State.flag, State.flag, hfields _ (by simp [inhibitFields])]
  exact ⟨henabled.trans hoff, hflag.trans hinhibit, (hfields _ (by simp [inhibitFields])).trans hlaw⟩

/-- A change of registers that keeps every field of the trip and of the inhibit. -/
theorem of_fields (h : TripStays n s t) (hget : ∀ g ∈ tripFields n ++ inhibitFields n, u.get g = t.get g)
    (hch : u.ch n = t.ch n) : TripStays n s u :=
  h.trans ⟨fun g hg => hget g (List.mem_append_left _ hg), by rw [hch],
    inhibited_of (fun g hg => hget g (List.mem_append_right _ hg)) (by rw [hch])⟩

theorem put (h : TripStays n s t) {f : RF} {v : Nat} (hok : f.ok)
    (hapart : ∀ g ∈ tripFields n ++ inhibitFields n, f.apart g) : TripStays n s (t.put f v) :=
  h.of_fields (fun g hg => get_put_ne t f g v hok (hapart g hg)) rfl

/-- The addresses of the trip's registers. -/
def addrs (n : Ch) : List Nat := (tripFields n ++ inhibitFields n).map (·.addr)

theorem of_regs (h : TripStays n s t) (hreg : ∀ a ∈ addrs n, u.reg a = t.reg a) (hch : u.ch n = t.ch n) :
    TripStays n s u :=
  h.of_fields (fun g hg => get_congr t u g (hreg _ (List.mem_map_of_mem hg))) hch

theorem setReg (h : TripStays n s t) {a : Nat} {v : Word} (ha : a ∉ addrs n) : TripStays n s (t.setReg a v) :=
  h.of_regs (fun b hb => reg_setReg_ne t a b v (fun e => ha (e ▸ hb))) rfl

theorem raise (h : TripStays n s t) {pg : PageRef} {b : Nat} (hpg : ∀ a ∈ addrs n, a ∉ irqRegs pg) :
    TripStays n s (t.raise pg b) :=
  h.of_regs (fun a ha => reg_raise_ne t pg b a (hpg a ha)) (ch_raise t pg b n)

/-- The trip's registers are no interrupt registers. -/
theorem not_irq (n : Ch) : ∀ pg ∈ [pgCH n, pgSAFE n, pgPERC n, pgSYS, pgEVT], ∀ a ∈ addrs n, a ∉ irqRegs pg := by
  revert n; decide

theorem raiseOn (h : TripStays n s t) {pg : PageRef} {b : Nat}
    (hpg : pg ∈ [pgCH n, pgSAFE n, pgPERC n, pgSYS, pgEVT] := by simp) : TripStays n s (t.raise pg b) :=
  h.raise (not_irq n pg hpg)

theorem log (h : TripStays n s t) {c m v : Nat} {p q r : Word} : TripStays n s (t.log c m v p q r) := by
  refine h.of_regs (fun a ha => ?_) (by simp [State.ch])
  have hirq := not_irq n pgEVT (by simp) a ha
  simp only [irqRegs, List.mem_cons, not_or] at hirq
  obtain ⟨hraw, hpend, -⟩ := hirq
  exact reg_log_ne t c m v p q r a hraw hpend

theorem logReg (h : TripStays n s t) {pg : PageRef} {o : Nat} : TripStays n s (t.logReg pg o) := h.log

/-- What a demand and an entry into TRIPPED write beside the trip's registers. -/
def writes (n : Ch) : List Nat :=
  [R.PERC_STAT n, (F.PERC_CNT_OVERRUNS n).addr, R.SYS_STAT, R.PANEL_STAT, R.PROF_CUR_TARGET n, R.PROF_CUR_OUT n,
    (F.PROF_STAT_CUR_SRC n).addr, R.SAFE_SISTAT n]

theorem write (h : TripStays n s t) (i : Nat) {a : Nat} {v : Word} (ha : (writes n)[i]? = some a := by rfl) :
    TripStays n s (t.setReg a v) := by
  have hnot : ∀ a ∈ writes n, a ∉ addrs n := by clear h ha; revert n; decide
  exact h.setReg (hnot a (List.mem_of_getElem? ha))

theorem ite {c : Prop} {_ : Decidable c} (h1 : TripStays n s t) (h2 : TripStays n s u) :
    TripStays n s (if c then t else u) := by split <;> assumption

/-- A change of the channel's part that keeps the decision's time and the control engine's switch. -/
theorem modCh (h : TripStays n s t) {f : Chan → Chan}
    (hf : ∀ c, (f c).safe.tripAt = c.safe.tripAt ∧ (f c).ctle.enabled = c.ctle.enabled := by exact fun _ => ⟨rfl, rfl⟩) :
    TripStays n s (t.modCh n f) := by
  obtain ⟨htrip, hctle⟩ := hf (t.ch n)
  exact h.trans ⟨fun _ _ => rfl, by simp [htrip], inhibited_of (fun _ _ => rfl) (by simp [hctle])⟩

/-! ## The parts of an entry into TRIPPED -/

theorem balZero (h : TripStays n s t) : TripStays n s (t.balZero n) := by
  unfold State.balZero
  exact h.modCh.modCh

theorem percStop (h : TripStays n s t) {cause : Nat} : TripStays n s (t.percStop n cause) := by
  have hstop : TripStays n s (((t.put (F.PERC_STAT_MODE n) 0).put (F.PERC_STAT_CAUSE n) cause).modPerc n (fun p =>
      { p with latched := [], running := [], freeOut := [] })) := ((h.write 0).write 0).modCh
  exact ite h (ite (hstop.modCh.write 1).logReg.raiseOn (ite hstop.modCh.logReg.raiseOn hstop.modCh))

theorem standbyCheck (h : TripStays n s t) : TripStays n s t.standbyCheck := ite (ite h (h.write 2).raiseOn.log) h

end TripStays

/-- Switching the PWM off writes these registers only. -/
theorem reg_pwmOff_ne (s : State) (n : Ch) {a : Nat} (ha : a ∉ [R.CTLE_STAT n, R.PROF_STAT n, R.PROF_CUR_OUT n]) :
    (s.pwmOff n).reg a = s.reg a := by
  simp only [List.mem_cons, List.not_mem_nil, or_false, not_or] at ha
  obtain ⟨hctle, hprof, hout⟩ := ha
  unfold State.pwmOff
  dsimp only
  rw [reg_setReg_ne _ _ _ _ hout, reg_put_ne _ _ _ _ hprof, reg_putB_ne _ _ _ _ hctle, reg_put_ne _ _ _ _ hctle,
    reg_putB_ne _ _ _ _ hctle]
  rfl

theorem pwmOff_inhibited (s : State) (n : Ch) : (s.pwmOff n).pwmInhibited n := by
  have hout : (F.CTLE_STAT_LAW n).addr ≠ R.PROF_CUR_OUT n ∧ (F.CTLE_STAT_LAW n).addr ≠ (F.PROF_STAT_CUR_SRC n).addr := by
    revert n; decide
  obtain ⟨hout, hsrc⟩ := hout
  have hok : (F.CTLE_STAT_FE_PRE n).ok ∧ (F.PROF_STAT_CUR_SRC n).ok ∧ (F.CTLE_STAT_LAW n).ok
      ∧ (F.CTLE_STAT_INHIBIT n).ok := by
    simp [RF.ok, F.CTLE_STAT_FE_PRE, F.PROF_STAT_CUR_SRC, F.CTLE_STAT_LAW, F.CTLE_STAT_INHIBIT]
  obtain ⟨hfe, hcur, hlaw, hinh⟩ := hok
  unfold State.pwmOff
  dsimp only
  refine ⟨by simp, ?_, ?_⟩
  · have hout' : (F.CTLE_STAT_INHIBIT n).addr ≠ R.PROF_CUR_OUT n := hout
    have hsrc' : (F.PROF_STAT_CUR_SRC n).apart (F.CTLE_STAT_INHIBIT n) := .inl hsrc
    have hfe' : (F.CTLE_STAT_FE_PRE n).apart (F.CTLE_STAT_INHIBIT n) :=
      .inr (by simp [F.CTLE_STAT_FE_PRE, F.CTLE_STAT_INHIBIT])
    have hlaw' : (F.CTLE_STAT_LAW n).apart (F.CTLE_STAT_INHIBIT n) :=
      .inr (by simp [F.CTLE_STAT_LAW, F.CTLE_STAT_INHIBIT])
    rw [State.flag, get_setReg_ne _ _ _ _ hout', get_put_ne _ _ _ _ hcur hsrc', get_putB_ne _ _ _ _ hfe hfe',
      get_put_ne _ _ _ _ hlaw hlaw']
    exact flag_putB_same _ _ true hinh
  · have hsrc' : (F.PROF_STAT_CUR_SRC n).apart (F.CTLE_STAT_LAW n) := .inl hsrc
    have hfe' : (F.CTLE_STAT_FE_PRE n).apart (F.CTLE_STAT_LAW n) := .inr (by simp [F.CTLE_STAT_FE_PRE, F.CTLE_STAT_LAW])
    rw [get_setReg_ne _ _ _ _ hout, get_put_ne _ _ _ _ hcur hsrc', get_putB_ne _ _ _ _ hfe hfe']
    exact get_put_same _ _ 0 hlaw

namespace TripStays

variable {n : Ch} {s t u : State}

theorem pwmOff (h : TripStays n s t) : TripStays n s (t.pwmOff n) := by
  have hnot : ∀ g ∈ tripFields n, g.addr ∉ [R.CTLE_STAT n, R.PROF_STAT n, R.PROF_CUR_OUT n] := by
    clear h; revert n; decide
  refine h.trans ⟨fun g hg => get_congr _ _ g (reg_pwmOff_ne t n (hnot g hg)), ?_, fun _ => pwmOff_inhibited t n⟩
  simp [State.pwmOff]

theorem thenIf {c : Prop} {_ : Decidable c} (h : TripStays n s t) (hu : TripStays n s t → TripStays n s u) :
    TripStays n s (if c then u else t) := ite (hu h) h

theorem elseIf {c : Prop} {_ : Decidable c} (h : TripStays n s t) (hu : TripStays n s t → TripStays n s u) :
    TripStays n s (if c then t else u) := ite h (hu h)

/-- CH.STATE.CAUSE and CONT.STAT.STEP lie beside the trip's fields in their words. -/
theorem beside (n : Ch) : ∀ f ∈ [F.CH_STATE_CAUSE n, F.CONT_STAT_STEP n],
    f.ok ∧ ∀ g ∈ tripFields n ++ inhibitFields n, f.apart g := by
  unfold RF.ok RF.apart
  revert n; decide

theorem put_beside (h : TripStays n s t) {f : RF} {v : Nat} (hf : f ∈ [F.CH_STATE_CAUSE n, F.CONT_STAT_STEP n] := by simp) :
    TripStays n s (t.put f v) :=
  h.put (beside n f hf).1 (beside n f hf).2

/-- The entry into TRIPPED, once CH.STATE shows it and the state before. -/
theorem enterTripped (h : s.chState n ≠ stTRIPPED) (cause : Nat) :
    TripStays n ((s.put (F.CH_STATE_PREV n) (s.chState n)).put (F.CH_STATE_STATE n) stTRIPPED)
      (s.enterState n stTRIPPED cause) := by
  have hiso : ¬ stTRIPPED = stISOLATED := by decide
  unfold State.enterState
  dsimp only
  simp only [h, hiso, or_false, false_and, if_false]
  refine standbyCheck ?_
  refine thenIf ?_ (·.percStop)
  refine thenIf ?_ (·.modCh)
  refine modCh ?_
  refine thenIf ?_ (·.pwmOff)
  refine thenIf ?_ (·.balZero)
  refine thenIf ?_ (·.write 4 |>.modCh)
  refine elseIf ?_ (·.put_beside)
  refine write ?_ 3
  refine log ?_
  refine thenIf ?_ (·.raiseOn)
  refine raiseOn ?_
  exact (refl _).thenIf (·.put_beside)

theorem isolateAtTrip (h : TripStays n s t) {cause : Nat} : TripStays n s (t.isolateAtTrip n cause) := by
  unfold State.isolateAtTrip State.modSafe
  refine h.modCh (fun c => ⟨?_, rfl⟩)
  dsimp only
  split
  · split
    · rfl
    · split <;> rfl
  · rfl

/-- The twin is told, in the trip's last step. -/
theorem twinSend (h : TripStays n s t) {k : Nat} {p : List Nat} : TripStays n s (t.twinSend k p) :=
  h.of_regs (fun _ _ => rfl) rfl

/-- What an input's demand shows in the channel's SISTAT. -/
theorem siShow (h : TripStays n s t) {x : Nat} : TripStays n s (t.siShow n x) := h.write 7

/-- A register of the trip keeps its word. -/
theorem reg_eq (h : TripStays n s t) {a : Nat} (ha : ⟨a, 31, 0⟩ ∈ tripFields n) : t.reg a = s.reg a := by
  have hget := h.fields _ ha
  simp only [State.get, bitsOf] at hget
  exact BitVec.eq_of_toNat_eq (by omega)

end TripStays

/-! ## The trip itself -/

/-- In TRIPPED a trip records the event and starts an isolation. -/
theorem TripStays.trip_again {s : State} {n : Ch} (h : s.chState n = stTRIPPED) (cause path param : Nat) :
    TripStays n s (s.trip n cause path param) := by
  have hlock : s.chState n ≠ stLOCKOUT := by rw [h]; decide
  unfold State.trip
  rw [if_neg hlock, if_pos h]
  exact (TripStays.refl s).log.isolateAtTrip

/-- What a trip of a channel in none of TRIPPED and LOCKOUT shows beside its state: no law runs and the gate is
inhibited, the trip record w is that of this epoch, and TRIP is due from now. -/
structure TripShown (s u : State) (n : Ch) (w : Word) : Prop where
  inhibited : u.pwmInhibited n
  inhibit : u.get (F.CONT_STAT_INHIBIT n) = 1
  record : u.reg (R.SAFE_TRIPREC n) = w
  epoch : u.reg (R.SAFE_TRIPEPOCH n) = s.ep32
  tripAt : (u.ch n).safe.tripAt = some s.tb

theorem TripShown.stays {s t u : State} {n : Ch} {w : Word} (h : TripShown s t n w) (hu : TripStays n t u) :
    TripShown s u n w where
  inhibited := hu.inhibited h.inhibited
  inhibit := (hu.fields _ (by simp [tripFields])).trans h.inhibit
  record := (hu.reg_eq (by simp [tripFields])).trans h.record
  epoch := (hu.reg_eq (by simp [tripFields])).trans h.epoch
  tripAt := hu.tripAt.trans h.tripAt

/-- The fields of CH.STATE lie apart from each other and from every other field of the trip. -/
theorem chState_apart (n : Ch) :
    (F.CH_STATE_PREV n).apart (F.CH_STATE_STATE n) ∧ (F.CH_STATE_STATE n).apart (F.CH_STATE_PREV n)
    ∧ ∀ a ∈ [R.CTLE_STAT n, (F.CONT_STAT_INHIBIT n).addr, R.SAFE_TRIPREC n, R.SAFE_TRIPEPOCH n],
      a ≠ (F.CH_STATE_STATE n).addr := by
  refine ⟨by simp [RF.apart, F.CH_STATE_PREV, F.CH_STATE_STATE], by simp [RF.apart, F.CH_STATE_PREV, F.CH_STATE_STATE], ?_⟩
  revert n; decide

/-- Writing CH.STATE keeps what a trip shows beside the state. -/
theorem TripShown.put_state {s t : State} {n : Ch} {w : Word} (h : TripShown s t n w) {f : RF} {v : Nat}
    (hf : f.addr = (F.CH_STATE_STATE n).addr) : TripShown s (t.put f v) n w := by
  have hreg : ∀ a ∈ [R.CTLE_STAT n, (F.CONT_STAT_INHIBIT n).addr, R.SAFE_TRIPREC n, R.SAFE_TRIPEPOCH n],
      (t.put f v).reg a = t.reg a :=
    fun a ha => reg_put_ne t f v a (hf ▸ (chState_apart n).2.2 a ha)
  have hctle : ∀ g ∈ inhibitFields n, (t.put f v).get g = t.get g := by
    intro g hg
    simp only [inhibitFields, List.mem_cons, List.not_mem_nil, or_false] at hg
    obtain rfl | rfl := hg <;> exact get_congr _ _ _ (hreg (R.CTLE_STAT n) (by simp))
  exact {
    inhibited := TripStays.inhibited_of hctle rfl h.inhibited
    inhibit := (get_congr _ _ _ (hreg _ (by simp))).trans h.inhibit
    record := (hreg _ (by simp)).trans h.record
    epoch := (hreg _ (by simp)).trans h.epoch
    tripAt := h.tripAt }

/-- The protection's part of a channel that trips in state s: TRIP is due from now (R258). -/
def tripDecided (s : State) (f : SafeS) : SafeS :=
  { f with tripAt := some s.tb, tripTb := s.tb, tripEpoch := s.ep, acked := false, delivs := 0 }

/-- A trip with record w, before CH.STATE changes. -/
def recordTrip (t : State) (n : Ch) (w : Word) : State :=
  let u := (t.setReg (R.SAFE_TRIPREC n) w).setReg (R.SAFE_TRIPEPOCH n) t.ep32
  u.modSafe n (tripDecided u)

/-- A trip before CH.STATE changes: the channel is inhibited and the record is written. -/
def tripRecorded (s : State) (n : Ch) (w : Word) : State :=
  recordTrip ((s.putB (F.CONT_STAT_INHIBIT n) true).pwmOff n) n w

theorem reg_recordTrip_ne (t : State) (n : Ch) (w : Word) {a : Nat} (hrec : a ≠ R.SAFE_TRIPREC n)
    (hepoch : a ≠ R.SAFE_TRIPEPOCH n) : (recordTrip t n w).reg a = t.reg a := by
  unfold recordTrip
  rw [reg_modSafe, reg_setReg_ne _ _ _ _ hepoch, reg_setReg_ne _ _ _ _ hrec]

theorem trip_eq {s : State} {n : Ch} (hlock : s.chState n ≠ stLOCKOUT) (htrip : s.chState n ≠ stTRIPPED)
    (cause path param : Nat) :
    let t := (tripRecorded s n (tripWord cause path param)).raise (pgSAFE n) 2
    let u := ((t.log 0x8D40 n.val 3 (tripWord cause path param) t.ep32 0).enterState n stTRIPPED cause).isolateAtTrip n cause
    s.trip n cause path param = if u.twinCh n then u.twinSend 2 [1, n.val, cause, path] else u :=
  (if_neg hlock).trans (if_neg htrip)

theorem clock_pwmOff (s : State) (n : Ch) : (s.pwmOff n).clock = s.clock := by
  obtain ⟨-, hclock, -⟩ := only_pwmOff s n
  exact hclock

/-- States with one clock are in one epoch. -/
theorem ep32_of_clock {s t : State} (h : t.clock = s.clock) : t.ep32 = s.ep32 := by
  simp only [State.ep32, State.ep, h]

/-- The record of the trip of a channel that is inhibited. -/
theorem recordTrip_shown {s t : State} {n : Ch} (hoff : t.pwmInhibited n) (hinhibit : t.get (F.CONT_STAT_INHIBIT n) = 1)
    (hclock : t.clock = s.clock) (w : Word) : TripShown s (recordTrip t n w) n w := by
  have haddr : R.CTLE_STAT n ∉ [R.SAFE_TRIPREC n, R.SAFE_TRIPEPOCH n]
      ∧ (F.CONT_STAT_INHIBIT n).addr ∉ [R.SAFE_TRIPREC n, R.SAFE_TRIPEPOCH n] ∧ R.SAFE_TRIPREC n ≠ R.SAFE_TRIPEPOCH n := by
    clear hoff hinhibit
    revert n; decide
  obtain ⟨hctle, hcont, hrec⟩ := haddr
  simp only [List.mem_cons, List.not_mem_nil, or_false, not_or] at hctle hcont
  obtain ⟨hctleRec, hctleEpoch⟩ := hctle
  obtain ⟨hcontRec, hcontEpoch⟩ := hcont
  have hctle : (recordTrip t n w).reg (R.CTLE_STAT n) = t.reg (R.CTLE_STAT n) := reg_recordTrip_ne t n w hctleRec hctleEpoch
  have hfields : ∀ g ∈ inhibitFields n, (recordTrip t n w).get g = t.get g := by
    intro g hg
    simp only [inhibitFields, List.mem_cons, List.not_mem_nil, or_false] at hg
    obtain rfl | rfl := hg <;> exact get_congr _ _ _ hctle
  exact {
    inhibited := TripStays.inhibited_of hfields (by simp [recordTrip]) hoff
    inhibit := (get_congr _ _ _ (reg_recordTrip_ne t n w hcontRec hcontEpoch)).trans hinhibit
    record := by rw [recordTrip, reg_modSafe, reg_setReg_ne _ _ _ _ hrec, reg_setReg_same]
    epoch := by rw [recordTrip, reg_modSafe, reg_setReg_same, ep32_of_clock hclock]
    tripAt := by simp [recordTrip, tripDecided, State.tb, hclock] }

theorem tripRecorded_shown (s : State) (n : Ch) (w : Word) : TripShown s (tripRecorded s n w) n w := by
  have hcont : (F.CONT_STAT_INHIBIT n).addr ∉ [R.CTLE_STAT n, R.PROF_STAT n, R.PROF_CUR_OUT n] := by revert n; decide
  refine recordTrip_shown (pwmOff_inhibited _ n) ?_ (by rw [clock_pwmOff, clock_putB]) w
  rw [get_congr _ _ _ (reg_pwmOff_ne _ n hcont), get_putB_same _ _ _ (by simp [RF.ok, F.CONT_STAT_INHIBIT])]
  rfl

theorem tripRecorded_chState (s : State) (n : Ch) (w : Word) : (tripRecorded s n w).chState n = s.chState n := by
  have hne : (F.CH_STATE_STATE n).addr ∉ [R.CTLE_STAT n, R.PROF_STAT n, R.PROF_CUR_OUT n]
      ∧ (F.CH_STATE_STATE n).addr ∉ [(F.CONT_STAT_INHIBIT n).addr, R.SAFE_TRIPREC n, R.SAFE_TRIPEPOCH n] := by
    revert n; decide
  obtain ⟨hoff, hrec⟩ := hne
  simp only [List.mem_cons, List.not_mem_nil, or_false, not_or] at hrec
  obtain ⟨hinh, hprec, hpep⟩ := hrec
  refine get_congr _ _ _ ?_
  rw [tripRecorded, reg_recordTrip_ne _ _ _ hprec hpep, reg_pwmOff_ne _ _ hoff,
    reg_putB_ne _ _ _ _ hinh]

/-- A trip of a channel in none of TRIPPED and LOCKOUT. -/
theorem trip_shown {s : State} {n : Ch} (hlock : s.chState n ≠ stLOCKOUT) (htrip : s.chState n ≠ stTRIPPED)
    (cause path param : Nat) :
    let u := s.trip n cause path param
    u.chState n = stTRIPPED ∧ u.get (F.CH_STATE_PREV n) = s.chState n ∧ TripShown s u n (tripWord cause path param) := by
  intro u
  generalize hw : tripWord cause path param = w at *
  generalize ht : ((tripRecorded s n w).raise (pgSAFE n) 2).log 0x8D40 n.val 3 w
    ((tripRecorded s n w).raise (pgSAFE n) 2).ep32 0 = t
  have hts : TripStays n (tripRecorded s n w) t := ht ▸ (TripStays.refl _).raiseOn.log
  have hstate : t.chState n = s.chState n := by
    have hirq := hts.fields (F.CH_STATE_STATE n) (by simp [tripFields])
    exact hirq.trans (tripRecorded_chState s n w)
  have hvu : TripStays n ((t.put (F.CH_STATE_PREV n) (t.chState n)).put (F.CH_STATE_STATE n) stTRIPPED) u := by
    have hu := trip_eq hlock htrip cause path param
    simp only [hw, ht] at hu
    rw [show u = _ from hu]
    exact .thenIf (TripStays.enterTripped (hstate ▸ htrip) cause).isolateAtTrip (·.twinSend)
  have hok : (F.CH_STATE_PREV n).ok ∧ (F.CH_STATE_STATE n).ok := by simp [RF.ok, F.CH_STATE_PREV, F.CH_STATE_STATE]
  obtain ⟨happart, -, -⟩ := chState_apart n
  have hbound : s.chState n < 16 := Nat.mod_lt _ (Nat.two_pow_pos 4)
  refine ⟨?_, ?_, ?_⟩
  · exact (hvu.fields _ (by simp [tripFields])).trans (get_put_same _ _ _ hok.2)
  · rw [hvu.fields _ (by simp [tripFields]), get_put_ne _ _ _ _ hok.2 (chState_apart n).2.1, get_put_same _ _ _ hok.1, hstate]
    exact Nat.mod_eq_of_lt hbound
  · exact (((tripRecorded_shown s n w).stays hts).put_state (f := F.CH_STATE_PREV n) rfl
      |>.put_state (f := F.CH_STATE_STATE n) rfl).stays hvu

/-! ## The demand of a safety input line (R269) -/

/-- A demand first notes the input in the channel's own part and in SISTAT. -/
def siNoted (s : State) (n : Ch) (k : Fin 4) (b : Bool) : State :=
  ((s.modSafe n (fun f => { f with low := f.low ||| BitVec.ofNat 8 (2 ^ lineIx k b) })).putBit
    (if b then F.SAFE_SISTAT_B n else F.SAFE_SISTAT_A n) k.val false).siShow n k.val

theorem siNoted_stays (s : State) (n : Ch) (k : Fin 4) (b : Bool) : TripStays n s (siNoted s n k b) := by
  unfold siNoted
  refine TripStays.siShow ?_
  cases b <;> exact (TripStays.refl s).modCh.write 7

/-- Settles O57: a demand trips through `State.trip`, whose later steps keep what it showed first (`TripStays`). -/
theorem tripEffects : Obligations.TripEffects := by
  unfold Obligations.TripEffects
  intro s n k b hen
  have honly := goesOnChannel_siDemand s n k b
  refine ⟨fun hlock => ?_, fun htrip => ?_, fun hlock htrip => ?_⟩
  · exact congrArg _ (if_neg fun h => h.1 hlock)
  · have hlock : s.chState n ≠ stLOCKOUT := by rw [htrip]; decide
    obtain ⟨t, ht, hchan⟩ := honly
    have hexec := ht.symm.trans (execSiDemand_enabled b hlock hen)
    injection hexec with hexec
    have hnoted := siNoted_stays s n k b
    have hstate : (siNoted s n k b).chState n = s.chState n := hnoted.fields _ (by simp [tripFields])
    have hstays := hnoted.trans (TripStays.trip_again (hstate.trans htrip) 0x06 (if b then 2 else 1) k.val)
    rw [show (siNoted s n k b).trip n _ _ _ = t from hexec.symm] at hstays
    exact ⟨t, ht, (hstays.fields _ (by simp [tripFields])).trans htrip, hstays.reg_eq (by simp [tripFields]),
      hstays.reg_eq (by simp [tripFields]), hchan⟩
  · obtain ⟨t, ht, hchan⟩ := honly
    have hexec := ht.symm.trans (execSiDemand_enabled b hlock hen)
    injection hexec with hexec
    have hnoted := siNoted_stays s n k b
    have hstate : (siNoted s n k b).chState n = s.chState n := hnoted.fields _ (by simp [tripFields])
    obtain ⟨htripped, hprev, hshown⟩ := trip_shown (s := siNoted s n k b) (by rwa [hstate]) (by rwa [hstate])
      0x06 (if b then 2 else 1) k.val
    rw [show (siNoted s n k b).trip n _ _ _ = t from hexec.symm] at htripped hprev hshown
    have hclock : (siNoted s n k b).clock = s.clock := by
      rw [siNoted, State.siShow, clock_putBit, clock_putBit, clock_modSafe]
    refine ⟨t, ht, ⟨htripped, hshown.inhibited⟩, ?_, hprev.trans hstate, hshown.record,
      hshown.epoch.trans (ep32_of_clock hclock), hshown.tripAt.trans (by rw [State.tb, State.tb, hclock]), hchan⟩
    rw [State.flag, hshown.inhibit]
    rfl

end Sys2Proof.Machine
end
section
/-! PROOFS. The event recorder: its numbers (R345, R349, R350) and its commands (R346, R349, R351, R353). -/

namespace Sys2Proof.Machine
open Sys2Proof

/-! ## What recording leaves and adds -/

@[simp] theorem evt_irqEdge (s : State) (pg : PageRef) (b : Nat) : (s.irqEdge pg b).1.evt = s.evt := by
  unfold State.irqEdge
  dsimp only
  split <;> rfl

@[simp] theorem evt_raiseEvt (s : State) (b : Nat) : (s.raiseEvt b).evt = s.evt := by
  unfold State.raiseEvt
  dsimp only
  split <;> exact evt_irqEdge s _ b

theorem nextSeqOf_eq (q : Word) : nextSeqOf q = if q = 0xFFFFFFFF then 1 else q + 1 := by
  have h : q + 1 = 0 ↔ q = 0xFFFFFFFF := by constructor <;> intro h <;> bv_omega
  simp only [nextSeqOf, h]

theorem records_flush (e : EvtS) : e.flush.stored ++ e.flush.staged = e.stored ++ e.staged := by simp [EvtS.flush]

/-- However the staging buffer is flushed, a record goes after every record held. -/
theorem records_push (e : EvtS) (vhold : Bool) (r : EventRec) :
    (e.push vhold r).stored ++ (e.push vhold r).staged = e.stored ++ e.staged ++ [{ r with seq := e.nextSeq }] := by
  have hbase : ∀ b, (if evtStageCap ≤ e.staged.length then e.flush else e) = b →
      b.stored ++ b.staged = e.stored ++ e.staged := by
    rintro b rfl
    split
    · exact records_flush e
    · rfl
  unfold EvtS.push
  generalize (if evtStageCap ≤ e.staged.length then e.flush else e) = b at *
  dsimp only
  split
  · rw [records_flush, ← List.append_assoc, hbase b rfl]
  · rw [← List.append_assoc, hbase b rfl]

theorem nextSeq_push (e : EvtS) (vhold : Bool) (r : EventRec) : (e.push vhold r).nextSeq = nextSeqOf e.nextSeq := by
  unfold EvtS.push
  dsimp only
  split <;> rfl

theorem dropped_push (e : EvtS) (vhold : Bool) (r : EventRec) : (e.push vhold r).dropped = e.dropped := by
  unfold EvtS.push
  dsimp only
  split <;> split <;> rfl

theorem log_eq_stage {s : State} (h : s.sup.restarting = false) (code chan sev : Nat) (p q r : Word) :
    s.log code chan sev p q r = (s.stage ⟨0, code, chan, sev, s.evt.opNow s.tb, s.evt.pcc, p, q, r, s.ep32⟩).1 := by
  simp [State.log, State.record, h]

theorem evt_stage_room {s : State} (h : s.evtFull = false) (r : EventRec) :
    (s.stage r).1.evt = s.evt.push s.sup.vholdOk r := by
  simp only [State.stage, h, Bool.false_eq_true, if_false]
  split <;> split <;> simp only [evt_raiseEvt]

theorem evt_stage_full {s : State} (h : s.evtFull = true) (r : EventRec) :
    (s.stage r).1.evt = { s.evt with dropped := satInc (2 ^ 32 - 1) s.evt.dropped } := by
  simp only [State.stage, h, if_true]
  split <;> simp only [evt_raiseEvt]

/-- Settles O23: with room the recorder is `EvtS.push`ed, without it only DROPPED moves. -/
theorem eventNumbering : Obligations.EventNumbering := by
  unfold Obligations.EventNumbering
  intro s code chan sev p q r hrun t
  have ht : t = _ := log_eq_stage hrun code chan sev p q r
  refine ⟨fun hroom => ?_, fun hfull => ?_⟩
  · rw [ht, evt_stage_room hroom, records_push, nextSeq_push, dropped_push, nextSeqOf_eq]
    exact ⟨rfl, rfl, rfl⟩
  · rw [ht, evt_stage_full hfull]
    refine ⟨rfl, rfl, rfl, ?_⟩
    simp only [satInc]
    split <;> omega

/-! ## The recorder's commands -/

/-- A read of a reader that reaches the page, by a function that returns the word w and leaves t. -/
theorem answer_read_ok {s t : State} {src : Src} {pg : PageRef} {w : Word} {f : State → State × Word}
    (hreach : s.reachable src pg = .ok) (hread : f s = (t, w)) : s.readAs src pg (fun u => (.ok, f u)) = .next (t.doneRead w) := by
  rw [readAs_ok hreach, hread, answerRead_ok]

theorem doEvtCmd_flush {u : State} (hhold : u.sup.vholdOk = true) (src : Src) :
    u.doEvtCmd src 2 = (.ok, u.modEvt EvtS.flush) :=
  congrArg (Prod.mk _) (if_pos hhold)

theorem doEvtCmd_clear {u : State} {src : Src} (hserv : u.service src = true) (hsup : u.sup.holdupAt = none) :
    u.doEvtCmd src 1 = (.ok, u.evtClear) := by
  unfold State.doEvtCmd
  rw [hserv, hsup]
  rfl

theorem readEvtWin_last {s : State} {src : Src} {r : EventRec} (hcur : s.atCursor src = some r) :
    s.readEvtWin src 7 = (s.setCursor src (nextSeqOf r.seq), r.word 7) := by
  simp only [State.readEvtWin, hcur, if_true]

/-- Settles O22: the commands' conditions, each met. -/
theorem eventCommands : Obligations.EventCommands := by
  unfold Obligations.EventCommands
  refine ⟨fun s hhold => ?_, fun s src => ⟨fun hgate hhold => ?_, fun hgate hserv hsup => ?_⟩, fun s src r hreach hcur => ?_,
    fun s hhold hdue => ?_⟩
  · exact congrArg _ (if_pos hhold)
  · exact answer_gated_ok hgate (doEvtCmd_flush hhold src)
  · exact answer_gated_ok hgate (doEvtCmd_clear hserv hsup)
  · exact answer_read_ok (f := fun u => u.readEvtWin src 7) hreach (readEvtWin_last hcur)
  · exact congrArg _ (if_pos ⟨hhold, hdue⟩)

end Sys2Proof.Machine
end
section
/-! PROOFS. The performance counters: what a counter holds, its latched reads (R358) and the commands (R355 to R361). -/

namespace Sys2Proof.Machine
open Sys2Proof

/-! ## The counters of a page -/

theorem getD_setAt {α : Type} (d : α) (l : List α) (i j : Nat) (v : α) :
    (setAt d l i v).getD j d = if j = i then v else l.getD j d := by
  induction l, i, v using setAt.induct generalizing j with
  | case1 v => cases j <;> simp [setAt]
  | case2 i v ih =>
    cases j with
    | zero => simp [setAt]
    | succ j => simpa [setAt] using ih j
  | case3 h t v => cases j <;> simp [setAt]
  | case4 h t i v ih =>
    cases j with
    | zero => simp [setAt]
    | succ j => simpa [setAt] using ih j

/-- The pages that hold performance counters. -/
theorem isPmc_iff (pg : PageRef) : isPmc pg = true ↔ pg.page = .pmcs ∨ pg.page = .pmc := by simp [isPmc]

@[simp] theorem pmcOf_modPmc (s : State) (pg : PageRef) (f : PmcS → PmcS) : (s.modPmc pg f).pmcOf pg = f (s.pmcOf pg) := by
  unfold State.modPmc State.pmcOf
  split
  · rfl
  · rw [ch_modCh_same]

@[simp] theorem reg_modPmc (s : State) (pg : PageRef) (f : PmcS → PmcS) (a : Nat) : (s.modPmc pg f).reg a = s.reg a := by
  unfold State.modPmc
  split <;> rfl

@[simp] theorem flag_modPmc (s : State) (pg : PageRef) (f : PmcS → PmcS) (g : RF) : (s.modPmc pg f).flag g = s.flag g := by
  simp only [State.flag, State.get, reg_modPmc]

@[simp] theorem flag_modCtr (s : State) (pg : PageRef) (c k : Nat) (f : Pmc → Pmc) (g : RF) :
    (s.modCtr pg c k f).flag g = s.flag g := flag_modPmc s pg _ g

/-- The counter written, and the others of its page, by core and number (R355). -/
theorem get_modCtr (s : State) (pg : PageRef) (c : Nat) {j k : Nat} (f : Pmc → Pmc) :
    ((s.modCtr pg c k f).pmcOf pg).get c j = if j = k then f ((s.pmcOf pg).get c k) else (s.pmcOf pg).get c j := by
  have hix : 6 * c + j = 6 * c + k ↔ j = k := by omega
  simp only [State.modCtr, pmcOf_modPmc, PmcS.get, getD_setAt, hix]

/-- A source that may read a page may read it after a change of its counters. -/
theorem reachable_modPmc (s : State) (src : Src) (pg p : PageRef) (f : PmcS → PmcS) :
    (s.modPmc p f).reachable src pg = s.reachable src pg := by
  unfold State.modPmc
  split <;> rfl

theorem pmcReadable_modPmc (s : State) (src : Src) (pg p : PageRef) (f : PmcS → PmcS) :
    (s.modPmc p f).pmcReadable src pg = s.pmcReadable src pg := by
  cases src <;> simp only [State.pmcReadable, flag_modPmc]

/-! ## Latched reads (R358) -/

/-- CNTL and CNTH of a core by number (Tables 20.9, 20.10). -/
theorem findReg_cntl : ∀ p ∈ [Page.pmc, Page.pmcs], ∀ (c : Fin 2) (k : Fin 6),
    (findReg p (cntlOff c k)).map (fun x => (x.1.off, x.2)) = some (0x58 + 0x60 * c.val, k.val)
    ∧ (findReg p (cntlOff c k + 4)).map (fun x => (x.1.off, x.2)) = some (0x5C + 0x60 * c.val, k.val) := by
  decide +kernel

/-- A word above the header is read by its block. -/
theorem readReg_block {s : State} {src : Src} {pg : PageRef} {off o k : Nat} (hreach : s.reachable src pg = .ok)
    (hread : s.pmcReadable src pg = .ok) (hoff : 0x20 ≤ off)
    (hreg : (findReg pg.page off).map (fun x => (x.1.off, x.2)) = some (o, k)) :
    ∃ w, s.readReg src pg off = s.readBlock src pg o k w := by
  obtain ⟨⟨d, i⟩, hfind, heq⟩ := Option.map_eq_some_iff.mp hreg
  obtain ⟨rfl, rfl⟩ := Prod.mk.inj heq
  simp only [State.readReg, hreach, hread, hfind, if_neg (Nat.not_lt.mpr hoff)]
  exact ⟨_, rfl⟩

theorem readBlock_cntl {pg : PageRef} (hpg : isPmc pg = true) (s : State) (src : Src) (c : Fin 2) (k : Nat) (w : Word) :
    s.readBlock src pg (0x58 + 0x60 * c.val) k w = (.ok, (s.readCntl pg c k).1, (s.readCntl pg c k).2)
    ∧ s.readBlock src pg (0x5C + 0x60 * c.val) k w = (.ok, s, s.readCnth pg c k) := by
  obtain ⟨p, n⟩ := pg
  obtain rfl | rfl : p = .pmcs ∨ p = .pmc := (isPmc_iff _).mp hpg
  all_goals
    obtain rfl | rfl : c = 0 ∨ c = 1 := by omega
    all_goals exact ⟨rfl, rfl⟩

section
variable {s : State} {src : Src} {pg : PageRef} (hpg : isPmc pg = true) (hread : s.pmcReadable src pg = .ok)
  (hreach : s.reachable src pg = .ok) (c : Fin 2) (k : Fin 6)
include hpg hread hreach

theorem readReg_cntl : s.readReg src pg (cntlOff c k) = (.ok, (s.readCntl pg c k).1, (s.readCntl pg c k).2) := by
  have hpage : pg.page ∈ [Page.pmc, Page.pmcs] := by simpa [or_comm] using (isPmc_iff pg).mp hpg
  have hoff : 0x20 ≤ cntlOff c k := by unfold cntlOff; omega
  obtain ⟨w, hw⟩ := readReg_block hreach hread hoff (findReg_cntl _ hpage c k).1
  exact hw.trans (readBlock_cntl hpg s src c k w).1

theorem readReg_cnth : s.readReg src pg (cntlOff c k + 4) = (.ok, s, s.readCnth pg c k) := by
  have hpage : pg.page ∈ [Page.pmc, Page.pmcs] := by simpa [or_comm] using (isPmc_iff pg).mp hpg
  have hoff : 0x20 ≤ cntlOff c k + 4 := by unfold cntlOff; omega
  obtain ⟨w, hw⟩ := readReg_block hreach hread hoff (findReg_cntl _ hpage c k).2
  exact hw.trans (readBlock_cntl hpg s src c k w).2

theorem pmcReadAs_ok (f : State → State × Word) : s.pmcReadAs src pg f = .next ((f s).1.doneRead (f s).2) := by
  simp only [State.pmcReadAs, hpg, hread, Bool.not_true, Bool.false_eq_true, if_false]
  exact answer_read_ok (f := f) hreach rfl

end

/-- CNTL and CNTH of a counter are words of their page. -/
theorem locate_cntl {pg : PageRef} (hpg : pg = pgPMCS ∨ ∃ n : Ch, pg = pgPMC n) (c : Fin 2) (k : Fin 6) :
    (hdr pg (cntlOff c k) % 4 = 0 ∧ locate (hdr pg (cntlOff c k)) = .page pg (cntlOff c k))
    ∧ hdr pg (cntlOff c k) + 4 * 1 = hdr pg (cntlOff c k + 4) ∧ hdr pg (cntlOff c k + 4) % 4 = 0
      ∧ locate (hdr pg (cntlOff c k + 4)) = .page pg (cntlOff c k + 4) := by
  obtain rfl | ⟨n, rfl⟩ := hpg
  · revert c k
    decide +kernel
  · have hbound : cntlOff c k + 4 < 0x400 ∧ cntlOff c k % 4 = 0 := by unfold cntlOff; omega
    obtain ⟨hlt, hmod⟩ := hbound
    have haddr : ∀ off, hdr (pgPMC n) off = chBase n + (0x4000 + off) := fun off => Nat.add_assoc _ _ _
    have hpage : ∀ off, off < 0x400 → locate (chBase n + (0x4000 + off)) = .page (pgPMC n) off := by
      intro off hoff
      rw [locate_chanPage n (by omega), show (0x4000 + off) / 0x400 = 16 by omega, show (0x4000 + off) % 0x400 = off by omega]
      rfl
    have hbase : chBase n % 4 = 0 := by unfold chBase; omega
    rw [haddr, haddr]
    exact ⟨⟨by omega, hpage _ (by omega)⟩, by omega, by omega, hpage _ hlt⟩

/-- Settles O55: the latch is written by the read of CNTL alone, and CNTH shows it. -/
theorem latchedCounterReads : Obligations.LatchedCounterReads := by
  unfold Obligations.LatchedCounterReads
  intro s src pg c k hpg hread hreach v t
  have hpmc : isPmc pg = true := by obtain rfl | ⟨n, rfl⟩ := hpg <;> rfl
  have hlow : s.readReg src pg (cntlOff c k) = (.ok, t, BitVec.ofNat 32 v) := readReg_cntl hpmc hread hreach c k
  have hlatch : ((t.pmcOf pg).get c k).latch = v / 2 ^ 32 := by
    rw [show t = _ from rfl, get_modCtr, if_pos rfl]
  have hhigh : t.readReg src pg (cntlOff c k + 4) = (.ok, t, BitVec.ofNat 32 (v / 2 ^ 32)) := by
    rw [← hlatch]
    exact readReg_cnth hpmc ((pmcReadable_modPmc s src pg pg _).trans hread) ((reachable_modPmc s src pg pg _).trans hreach) c k
  refine ⟨hlow, readReg_cnth hpmc hread hreach c k, pmcReadAs_ok hpmc hread hreach _, hlatch, ?_⟩
  obtain ⟨⟨hmodL, hlocL⟩, hnext, hmodH, hlocH⟩ := locate_cntl hpg c k
  have hstL : addrStatus (hdr pg (cntlOff c k)) = .ok := by simp [addrStatus, hmodL, hlocL]
  have hstH : addrStatus (hdr pg (cntlOff c k + 4)) = .ok := by simp [addrStatus, hmodH, hlocH]
  have haddrs : (List.range 2).map (fun j => hdr pg (cntlOff c k) + 4 * j) = [hdr pg (cntlOff c k), hdr pg (cntlOff c k + 4)] := by
    simp only [List.range_succ, List.range_zero, List.nil_append, List.cons_append, List.map_cons, List.map_nil, hnext]
    rfl
  have hop : s.readOp src [hdr pg (cntlOff c k), hdr pg (cntlOff c k + 4)]
      = (⟨.ok, 2, false, 0, [BitVec.ofNat 32 v, BitVec.ofNat 32 (v / 2 ^ 32)]⟩, t) := by
    simp only [State.readOp, List.map_cons, List.map_nil, hstL, hstH, State.readWords, readAddr_page hmodL hlocL,
      readAddr_page hmodH hlocH, hlow, hhigh]
    rfl
  exact (congrArg (fun l => answerOp (s.readOp src l)) haddrs).trans (congrArg answerOp hop)

/-! ## Counting (R355, R357, R360) -/

@[simp] theorem pmcOf_raise (s : State) (pg p : PageRef) (b : Nat) : (s.raise p b).pmcOf pg = s.pmcOf pg := by
  simp [State.pmcOf]

@[simp] theorem pmcOf_putB (s : State) (pg : PageRef) (f : RF) (b : Bool) : (s.putB f b).pmcOf pg = s.pmcOf pg := rfl

/-- The overflow bit of counter k of core c. -/
abbrev ovfBit (pg : PageRef) (c k : Nat) : RF := pmcField pg 0x024 (8 * c + k) (8 * c + k)

/-- PMC.OVF is no interrupt register. -/
theorem ovfBit_not_irq {pg : PageRef} (hpg : isPmc pg = true) (c k : Nat) : (ovfBit pg c k).addr ∉ irqRegs pg := by
  have haddr : ∀ n : Ch, hdr ⟨.pmcs, n⟩ 0x024 ∉ irqRegs ⟨.pmcs, n⟩ ∧ hdr ⟨.pmc, n⟩ 0x024 ∉ irqRegs ⟨.pmc, n⟩ := by
    decide +kernel
  obtain ⟨p, n⟩ := pg
  obtain rfl | rfl : p = .pmcs ∨ p = .pmc := (isPmc_iff _).mp hpg
  · exact (haddr n).1
  · exact (haddr n).2

/-- What one counter's addition does to the counters of its core. -/
theorem get_ctrAdd (s : State) (pg : PageRef) (c k e j : Nat) :
    (((s.ctrAdd pg c k e).pmcOf pg).get c j).val
      = if j = k ∧ e ≠ 0 then (((s.pmcOf pg).get c k).val + e) % 2 ^ 48 else ((s.pmcOf pg).get c j).val := by
  by_cases he : e = 0
  · simp [State.ctrAdd, he]
  · have hctr : (((s.modCtr pg c k (fun x => { x with val := (((s.pmcOf pg).get c k).val + e) % 2 ^ 48 })).pmcOf pg).get c j).val
        = if j = k then (((s.pmcOf pg).get c k).val + e) % 2 ^ 48 else ((s.pmcOf pg).get c j).val := by
      rw [get_modCtr]
      split <;> rfl
    simp only [he, ne_eq, not_false_eq_true, and_true, State.ctrAdd, if_false]
    split
    · exact hctr
    · rw [pmcOf_raise, pmcOf_putB]
      exact hctr

theorem ovfBit_ok (pg : PageRef) {c k : Nat} (hbit : 8 * c + k < 32) : (ovfBit pg c k).ok := ⟨hbit, le_refl _⟩

section
variable {pg : PageRef} {c k : Nat} (hpg : isPmc pg = true) (hbit : 8 * c + k < 32)
include hpg hbit

/-- A wrap sets the counter's overflow bit. -/
theorem flag_ctrAdd_wrap (s : State) {e : Nat} (he : e ≠ 0) (hwrap : 2 ^ 48 ≤ ((s.pmcOf pg).get c k).val + e) :
    (s.ctrAdd pg c k e).flag (ovfBit pg c k) = true := by
  rw [State.ctrAdd, if_neg he]
  dsimp only
  rw [if_neg (Nat.not_lt.mpr hwrap), State.flag, get_raise_ne _ _ _ _ (ovfBit_not_irq hpg c k)]
  exact flag_putB_same _ _ true (ovfBit_ok pg hbit)

/-- No addition takes an overflow bit back. -/
theorem flag_ctrAdd_keeps {s : State} {e i : Nat} (h : s.flag (ovfBit pg c i) = true) :
    (s.ctrAdd pg c k e).flag (ovfBit pg c i) = true := by
  unfold State.ctrAdd
  dsimp only
  split
  · exact h
  · split
    · rwa [flag_modCtr]
    · rw [State.flag, get_raise_ne _ _ _ _ (ovfBit_not_irq hpg c i)]
      by_cases hik : i = k
      · subst hik
        exact flag_putB_same _ _ true (ovfBit_ok pg hbit)
      · rw [get_putB_ne _ _ _ _ (ovfBit_ok pg hbit) (.inr (by simp only [ovfBit, pmcField]; omega)), ← State.flag]
        exact (flag_modCtr s pg c k _ (ovfBit pg c i)).trans h

end

/-- Counter k of core c has counted e events between s and t, and a wrap shows. -/
def Counted (s t : State) (pg : PageRef) (c k e : Nat) : Prop :=
  ((t.pmcOf pg).get c k).val
      = (if e = 0 then ((s.pmcOf pg).get c k).val else (((s.pmcOf pg).get c k).val + e) % 2 ^ 48)
    ∧ (e ≠ 0 → 2 ^ 48 ≤ ((s.pmcOf pg).get c k).val + e → t.flag (ovfBit pg c k) = true)

/-- One after another, the first m counters of a core count; the others wait. -/
theorem counted_fold {pg : PageRef} (hpg : isPmc pg = true) (c : Fin 2) (e : Nat → Nat) (s : State) {m : Nat} (hm : m ≤ 6) :
    let t := (List.range m).foldl (fun t k => t.ctrAdd pg c k (e k)) s
    (∀ k, k < m → Counted s t pg c k (e k))
    ∧ ∀ k, m ≤ k → ((t.pmcOf pg).get c k).val = ((s.pmcOf pg).get c k).val := by
  induction m with
  | zero => exact ⟨fun k hk => absurd hk (Nat.not_lt_zero k), fun _ _ => rfl⟩
  | succ m ih =>
    obtain ⟨hdone, hwait⟩ := ih (by omega)
    have hbit : 8 * c.val + m < 32 := by omega
    simp only [List.range_succ, List.foldl_append, List.foldl_cons, List.foldl_nil]
    generalize (List.range m).foldl (fun t k => t.ctrAdd pg c k (e k)) s = t at *
    refine ⟨fun k hk => ?_, fun k hk => ?_⟩
    · by_cases hkm : k = m
      · subst hkm
        refine ⟨?_, fun he hwrap => flag_ctrAdd_wrap hpg hbit t he (by rwa [hwait k (le_refl k)])⟩
        rw [get_ctrAdd, hwait k (le_refl k)]
        by_cases he : e k = 0 <;> simp [he]
      · obtain ⟨hval, hflag⟩ := hdone k (by omega)
        refine ⟨?_, fun he hwrap => flag_ctrAdd_keeps hpg hbit (hflag he hwrap)⟩
        rw [get_ctrAdd, if_neg (fun h => hkm h.1)]
        exact hval
    · rw [get_ctrAdd, if_neg (fun h => by omega)]
      exact hwait k (by omega)

/-! ## The commands -/

/-- A clear of the sampling buffer with a valid interval, the buffer being off (Table 20.5). -/
theorem doPsCtrl_clear {u : State} {pg : PageRef} {w : Word} (hclear : bit w 31 = true) (hint : bitsOf w 15 0 ≠ 0)
    (hoff : u.flag (pmcField pg 0x028 30 30) = false) :
    u.doPsCtrl pg w = (.ok, ((u.setReg (hdr pg 0x028) (w &&& 0x6000FFFF)).modPmc pg (fun q =>
      { q with ps := [], psWord := 0 })).psShow pg) := by
  unfold State.doPsCtrl
  rw [if_neg hint, hoff, hclear]
  rfl

theorem readPs_cons {s : State} {pg : PageRef} {e : List Word} {l : List (List Word)} (h : (s.pmcOf pg).ps = e :: l) :
    s.readPs pg = (if 3 ≤ (s.pmcOf pg).psWord then (s.modPmc pg (fun q => { q with ps := l, psWord := 0 })).psShow pg
      else s.modPmc pg (fun q => { q with psWord := q.psWord + 1 }), e.getD (s.pmcOf pg).psWord 0) := by
  simp only [State.readPs, h]
  split <;> rfl

/-- A run of an enabled core (R355). -/
theorem execOvf_runs {s : State} {pg : PageRef} {c : Fin 2} (hpg : isPmc pg = true) (hen : s.enabled pg = true)
    (hrun : s.flag (pmcField pg 0x020 c.val c.val) = true) (r : IssueSlots) (o : List (Nat × Nat)) :
    execOvf pg c r o s = .next ((List.range 6).foldl (fun t k =>
      t.ctrAdd pg c.val k (eventCount r o (s.get (pmcEvsel pg c.val k)))) s) := by
  simp only [execOvf, happen, hpg, hen, hrun, Bool.not_true, Bool.false_eq_true, or_self, if_false]

/-- A sample for a buffer with room (R361). -/
theorem execPsSample_room {s : State} {pg : PageRef} (hpg : isPmc pg = true) (hen : s.enabled pg = true)
    (hon : s.flag (pmcField pg 0x028 30 30) = true) (hroom : (s.pmcOf pg).ps.length < 64) (e : PsEntry) :
    let u := (s.modPmc pg (fun p => { p with
      ps := p.ps ++ [[e.addr, e.enc, BitVec.ofNat 32 (min 0xFFFFFFFF e.lat), s.ep32]] })).psShow pg
    execPsSample pg e s = .next (if (u.pmcOf pg).ps.length = 64 then u.raise pg 3 else u) := by
  simp only [execPsSample, happen, hpg, hen, hon, Nat.not_le.mpr hroom, Bool.not_true, Bool.false_eq_true, or_self, if_false]

theorem execPmcCntlWrite_page {pg : PageRef} (hpg : isPmc pg = true) (s : State) (src : Src) (c : Fin 2) (k : Fin 6)
    (v : Word) : exec (.pmcCntlWrite src pg c k v) s
      = answer (s.gated src pg (cntlOff c.val k.val) v (fun t => t.doCntl pg c.val k.val v)) :=
  congrArg answer (if_neg (by simp [hpg]))

theorem execPsClear_page {pg : PageRef} (hpg : isPmc pg = true) (s : State) (src : Src) (v : Word) :
    exec (.psClear src pg v) s
      = answer (s.gated src pg 0x028 (v ||| 0x80000000) (fun t => t.doPsCtrl pg (v ||| 0x80000000))) :=
  congrArg answer (if_neg (by simp [hpg]))

/-- Settles O24: each command in its conditions. -/
theorem counterCommands : Obligations.CounterCommands := by
  unfold Obligations.CounterCommands
  refine ⟨fun s pg c r o hpg hen hrun => ?_, fun r o => rfl, fun s src pg c k hpg hread hreach => ?_,
    fun s src pg c k v hpg hgate => ?_, fun s pg e hpg hen hon hroom => ?_, fun s src pg e l hpg hread hreach hps => ?_,
    fun s src pg v hpg => ?_⟩
  · exact ⟨_, execOvf_runs hpg hen hrun r o, (counted_fold hpg c _ s (le_refl 6)).1⟩
  · exact pmcReadAs_ok hpg hread hreach _
  · rw [execPmcCntlWrite_page hpg]
    exact answer_gated_ok hgate rfl
  · exact execPsSample_room hpg hen hon hroom e
  · refine (pmcReadAs_ok hpg hread hreach _).trans ?_
    rw [readPs_cons hps]
  · intro u w hgate hint hoff
    rw [execPsClear_page hpg]
    exact answer_gated_ok hgate (doPsCtrl_clear (bit_or_restart v) hint hoff)

end Sys2Proof.Machine
end
section
/-! PROOFS. The CAN port: transmission (R315 to R318, R321, R394) and reception (R313, R318 to R320). -/

namespace Sys2Proof.Machine
open Sys2Proof

/-! ## CAN.TXCMD (R315, R317) -/

/-- The buffers that a request and a cancel of a mask name (Table 17.14). -/
theorem bufs_request (m : BitVec 3) :
    bufs (bitsOf (BitVec.ofNat 32 m.toNat) 2 0) = bufs m.toNat ∧ bufs (bitsOf (BitVec.ofNat 32 m.toNat) 6 4) = [] := by
  revert m
  decide

theorem bufs_cancel (m : BitVec 3) :
    bufs (bitsOf (BitVec.ofNat 32 (m.toNat * 16)) 2 0) = []
      ∧ bufs (bitsOf (BitVec.ofNat 32 (m.toNat * 16)) 6 4) = bufs m.toNat := by
  revert m
  decide

theorem doTxcmd_request {u : State} {m : BitVec 3} (hfree : (bufs m.toNat).any u.txReserved = false)
    (hgood : (bufs m.toNat).any u.txBad = false) :
    u.doTxcmd (BitVec.ofNat 32 m.toNat)
      = (.ok, (bufs m.toNat).foldl (fun t k => if t.txState k = 2 then t else t.setTx k 1) u) := by
  obtain ⟨hreq, hcan⟩ := bufs_request m
  have hapart : ((bufs m.toNat).any fun k => List.contains [] k) = false := by simp
  simp only [State.doTxcmd, hreq, hcan, List.append_nil, hapart, hfree, hgood, Bool.false_eq_true, if_false,
    List.foldl_nil]

theorem doTxcmd_cancel {u : State} {m : BitVec 3} (hfree : (bufs m.toNat).any u.txReserved = false) :
    u.doTxcmd (BitVec.ofNat 32 (m.toNat * 16))
      = (.ok, (bufs m.toNat).foldl (fun t k => if t.txState k = 1 then t.setTx k 4
          else if t.txState k = 2 then t.putBit F.CAN_TXSTAT_CFAIL k true else t) u) := by
  obtain ⟨hreq, hcan⟩ := bufs_cancel m
  simp only [State.doTxcmd, hreq, hcan, List.nil_append, List.any_nil, hfree, Bool.false_eq_true, if_false,
    List.foldl_nil]

/-! ## Transmission (R316, R318, R321) -/

theorem execCanTxArbitration_next {s : State} {k : Nat} (hlive : s.canLive = true) (hlisten : s.flag F.CAN_CTRL_LISTEN = false)
    (hidle : s.can.active = none) (htec : s.get F.CAN_ERR_TEC ≤ 255) (hnext : s.nextTx = some k) :
    execCanTxArbitration s = .next (((s.setTx k 2).stamp k).modCan (fun c => { c with active := some k })) := by
  simp only [execCanTxArbitration, happen, hlive, hlisten, hidle, Nat.not_lt.mpr htec, hnext, Bool.not_true, Option.isSome_none,
    Bool.false_eq_true, or_self, if_false]

section
variable {s : State} {k : Nat} (hactive : s.can.active = some k)
include hactive

theorem execCanTxComplete_active :
    let x := ((s.emit (.can (s.txFrame k))).setTx k 3).modCan (fun c => { c with active := none })
    let y := (x.put F.CAN_ERR_TEC (x.get F.CAN_ERR_TEC - 1)).errJudge
    execCanTxComplete s = .next (if k = 2 ∧ y.can.nextStatus ∧ y.flag F.CAN_CTRL_STATUS_EN then y.statusQueue else y) := by
  simp only [execCanTxComplete, happen, hactive]

theorem execCanTxError_lost :
    execCanTxError .lostArbitration s = .next ((s.setTx k 1).modCan (fun c => { c with active := none })) := by
  simp only [execCanTxError, happen, hactive]

theorem execCanTxError_error :
    let z := (s.setTx k 1).modCan (fun c => { c with active := none })
    execCanTxError .error s = .next (z.put F.CAN_ERR_TEC (min 511 (z.get F.CAN_ERR_TEC + 8))).errJudge := by
  simp only [execCanTxError, happen, hactive]

end

/-- A state other than the present one is a change, and a source. -/
theorem errState_change {s : State} {v : Nat} (h : s.get F.CAN_ERR_STATE ≠ v) :
    s.errState v = (s.put F.CAN_ERR_STATE v).raise pgCAN 5 := if_neg h

theorem execCanBusOff_passed {s : State} (hon : s.get F.CAN_ERR_STATE < 2) (hpast : 255 < s.get F.CAN_ERR_TEC) :
    execCanBusOff s = .next ((s.put F.CAN_ERR_STATE (if s.flag F.CAN_CTRL_ABO then 3 else 2)).raise pgCAN 5) := by
  have hstay : ¬ (2 ≤ s.get F.CAN_ERR_STATE ∨ s.get F.CAN_ERR_TEC ≤ 255) := by omega
  have hchange : s.get F.CAN_ERR_STATE ≠ if s.flag F.CAN_CTRL_ABO then 3 else 2 := by split <;> omega
  simp only [execCanBusOff, happen, hstay, if_false, errState_change hchange]

theorem doCanCmd_recover {u : State} (hoff : u.get F.CAN_ERR_STATE = 2) :
    u.doCanCmd 1 = (.ok, (u.put F.CAN_ERR_STATE 3).raise pgCAN 5) := by
  have hchange : u.get F.CAN_ERR_STATE ≠ 3 := by omega
  exact congrArg (Prod.mk _) ((if_pos ⟨by decide, hoff⟩).trans (errState_change hchange))

/-- The status frame is due when its content has changed or 1,000 ms have passed. -/
theorem execCanStatusFrame_due {s : State} (hen : s.flag F.CAN_CTRL_STATUS_EN = true)
    (hdue : statusKey s.statusBytes ≠ statusKey s.can.last ∨ 1000000000 ≤ s.tb - s.can.lastAt) :
    execCanStatusFrame s
      = .next (if s.txState 2 = 2 then s.modCan (fun c => { c with nextStatus := true }) else s.statusQueue) := by
  have hwait : ¬ (statusKey s.statusBytes = statusKey s.can.last ∧ (!s.passedMs s.can.lastAt 1000) = true) := by
    rintro ⟨hkey, hage⟩
    rw [not_passedMs_iff] at hage
    exact hdue.elim (fun h => h hkey) (fun h => by omega)
  simp only [execCanStatusFrame, happen, hen, hwait, Bool.not_true, Bool.false_eq_true, if_false]

/-- Settles O48: each command in its conditions. -/
theorem canTransmission : Obligations.CanTransmission := by
  unfold Obligations.CanTransmission
  refine ⟨fun s src m => ?_, fun s src m => ?_, fun s k hlive hlisten hidle htec hnext => ?_,
    fun s k hactive => ⟨?_, ?_, ?_⟩, fun s hon hpast => ?_, fun s src => ?_, fun s hstate => ?_, fun s hen => ?_,
    fun s hen hdue => ⟨fun hbusy => ?_, fun hfree => ?_⟩⟩
  · intro v u hgate hfree hgood
    exact answer_gated_ok hgate (doTxcmd_request hfree hgood)
  · intro v u hgate hfree
    exact answer_gated_ok hgate (doTxcmd_cancel hfree)
  · exact execCanTxArbitration_next hlive hlisten hidle htec hnext
  · exact execCanTxComplete_active hactive
  · exact execCanTxError_lost hactive
  · exact execCanTxError_error hactive
  · exact execCanBusOff_passed hon hpast
  · intro u hgate hoff
    exact answer_gated_ok hgate (doCanCmd_recover hoff)
  · exact congrArg _ (if_pos hstate)
  · exact congrArg _ (if_pos hen)
  · exact (execCanStatusFrame_due hen hdue).trans (congrArg _ (if_pos hbusy))
  · exact (execCanStatusFrame_due hen hdue).trans (congrArg _ (if_neg hfree))

/-! ## Reception (R313, R318 to R320) -/

theorem execCanRxFrame_live {s : State} (hlive : s.canLive = true) (f : CanFrame) :
    execCanRxFrame f s = .next (if 64 ≤ s.recDown.can.rx.length
      then ((s.recDown.incSat F.CAN_RXSTAT_OVF).modCan (fun c => { c with lost := true })).raise pgCAN 4
      else (s.recDown.modCan (fun c => { c with rx := c.rx ++ [(f, s.recDown.clock.plant, c.lost)], lost := false })).rxShow) := by
  simp only [execCanRxFrame, happen, hlive, Bool.not_true, Bool.false_eq_true, if_false]

/-- A word of the receive window that its reader may have. -/
theorem rxRead_ok {s t : State} {src : Src} {w : Nat} {v : Word} (hreach : s.reachable src pgCAN = .ok)
    (hread : s.readRxWin src w = (.ok, t, v)) : s.rxRead src w = .next (t.doneRead v) := by
  simp only [State.rxRead, hreach, hread, if_true]
  rfl

theorem readRxWin_first {s : State} {src : Src} {e : CanFrame × Nat × Bool} {l : List (CanFrame × Nat × Bool)}
    (hrx : s.can.rx = e :: l) (hlock : s.can.lock = none) :
    s.readRxWin src 0 = (.ok, (s.modCan (fun c => { c with lock := some (src, s.tb) })).rxShow, rxWord e 0) := by
  simp only [State.readRxWin, hrx, hlock, if_true]

theorem readRxWin_last {s : State} {src : Src} {e : CanFrame × Nat × Bool} {l : List (CanFrame × Nat × Bool)} {t : Nat}
    (hrx : s.can.rx = e :: l) (hlock : s.can.lock = some (src, t)) :
    s.readRxWin src 19 = (.ok, (s.modCan (fun c => { c with rx := l, lock := none })).rxShow, rxWord e 19) := by
  simp only [State.readRxWin, hrx, hlock, ne_eq, not_true_eq_false, if_false, if_true]

theorem execLockTmo_due {s : State} {src : Src} {t : Nat} (hlock : s.can.lock = some (src, t)) (hdue : 100000000 ≤ s.tb - t) :
    execLockTmo s = .next (((s.modCan (fun c => { c with lock := none })).rxShow).putB F.CAN_RXSTAT_LOCK_TMO true) := by
  have hpassed : s.passedMs t 100 = true := by simpa [State.passedMs] using hdue
  simp only [execLockTmo, happen, hlock, hpassed, if_true]

/-- Settles O49: each command in its conditions. -/
theorem canReception : Obligations.CanReception := by
  unfold Obligations.CanReception
  refine ⟨fun s f hlive => ⟨fun hroom => ?_, fun hfull => ?_⟩, fun s hlive => ?_,
    fun s src e l hreach hrx => ⟨fun hlock => ?_, fun t hlock => ?_⟩, fun s src t hlock hdue => ?_⟩
  · exact (execCanRxFrame_live hlive f).trans (congrArg _ (if_neg (Nat.not_le.mpr hroom)))
  · exact (execCanRxFrame_live hlive f).trans (congrArg _ (if_pos hfull))
  · exact congrArg _ (if_pos hlive)
  · exact rxRead_ok hreach (readRxWin_first hrx hlock)
  · exact rxRead_ok hreach (readRxWin_last hrx hlock)
  · exact execLockTmo_due hlock hdue

end Sys2Proof.Machine
end
section
/-! PROOFS. Updates (R365 to R372), and secrets and test access (R374 to R378). -/

namespace Sys2Proof.Machine
open Sys2Proof

/-! ## Staging and UPD.CMD (R366, R367, R371) -/

theorem doStageWin_staged {u : State} {src : Src} (hserv : u.service src = true)
    (hstate : ¬ (u.get F.UPD_STAT_STATE = 2 ∨ u.get F.UPD_STAT_STATE = 4 ∨ u.get F.UPD_STAT_STATE = 5)) (k : Nat) (v : Word) :
    u.doStageWin src k v = (.ok, ((u.setInactive { u.inactive with mem := mset u.inactive.mem (u.stageAt k) v, valid := false }).put
      F.UPD_STAT_STATE 1).verShow) := by
  simp only [State.doStageWin, hserv, hstate, Bool.not_true, Bool.false_eq_true, if_false]

/-- The bit of UPD.CMD names the command (Table 21.6). -/
theorem doUpdCmd_bits (u : State) (src : Src) :
    u.doUpdCmd src 1 = u.doVerify src ∧ u.doUpdCmd src 2 = u.doArm src ∧ u.doUpdCmd src 4 = u.doCancel
      ∧ u.doUpdCmd src 8 = u.doAccept ∧ u.doUpdCmd .unit 16 = u.doConfirm := by
  have hbit : ∀ m ∈ [1, 2, 4, 8], bit (BitVec.ofNat 32 m) 4 = false ∧ bitsOf (BitVec.ofNat 32 m) 4 0 = m := by decide
  have hconf : bitsOf (16#32) 4 0 = 16 := by decide
  obtain ⟨h1, h2, h4, h8⟩ : _ ∧ _ ∧ _ ∧ _ := by simpa only [List.forall_mem_cons, List.forall_mem_nil, and_true] using hbit
  refine ⟨?_, ?_, ?_, ?_, ?_⟩
  · simp [State.doUpdCmd, h1]
  · simp [State.doUpdCmd, h2]
  · simp [State.doUpdCmd, h4]
  · simp [State.doUpdCmd, h8]
  · simp [State.doUpdCmd, hconf]

theorem doVerify_starts {u : State} {src : Src} (hserv : u.service src = true)
    (hstate : u.get F.UPD_STAT_STATE = 1 ∨ u.get F.UPD_STAT_STATE = 3 ∨ u.get F.UPD_STAT_STATE = 6) :
    u.doVerify src = (.ok, u.put F.UPD_STAT_STATE 2) := by
  simp only [State.doVerify, hserv, hstate, Bool.not_true, Bool.false_eq_true, if_false, if_true]

theorem doArm_arms {u : State} {src : Src} (hlock : u.unlocked src pgUPD = true) (hstate : u.get F.UPD_STAT_STATE = 3)
    (htime : sdiff 48 u.plantS u.actTime < 0) :
    u.doArm src = (.ok, (u.put F.UPD_STAT_STATE 4).modUpd (fun p => { p with actAt := some u.actTime })) := by
  simp only [State.doArm, hlock, hstate, Int.not_le.mpr htime, Bool.not_true, Bool.false_eq_true, ne_eq, not_true_eq_false,
    if_false]

theorem doCancel_armed {u : State} (hstate : u.get F.UPD_STAT_STATE = 4) (hdue : u.actDue = false) :
    u.doCancel = (.ok, (u.put F.UPD_STAT_STATE 3).modUpd (fun p => { p with actAt := none })) := by
  simp only [State.doCancel, hstate, hdue, ne_eq, not_true_eq_false, Bool.false_eq_true, or_self, if_false]

theorem doAccept_trial {u : State} (hstate : u.get F.UPD_STAT_STATE = 5) :
    u.doAccept = (.ok, u.modUpd (fun p => { p with accepted := true })) := if_neg (not_not.mpr hstate)

theorem doConfirm_confirms {u : State} (hstate : u.get F.UPD_STAT_STATE = 5) (hmay : u.mayConfirm = true) :
    let x := if u.flag F.UPD_STAT_ACTIVE then u.upd.slotB else u.upd.slotA
    let a := (u.putB F.UPD_STAT_CONFIRMED true).put F.UPD_STAT_STATE 0
    let b := a.put F.SEC_STAT_FLOOR (max (a.get F.SEC_STAT_FLOOR) x.floor)
    u.doConfirm = (.ok, (b.put F.SEC_STAT_REVOKED (b.get F.SEC_STAT_REVOKED ||| x.revoke)).raise pgUPD 5) := by
  simp only [State.doConfirm, hstate, hmay, ne_eq, not_true_eq_false, Bool.not_true, Bool.false_eq_true, if_false]

/-! ## Activation (R367, R368, R372) -/

theorem execActivated_due {s : State} (hstate : s.get F.UPD_STAT_STATE = 4) (hdue : s.actDue = true) (hheld : s.actHeld = false) :
    execActivated s = .next (if s.carries ∧ s.sup.holdupAt.isNone then s.activate
      else ((s.put F.UPD_STAT_STATE 3).modUpd (fun u => { u with actAt := none })).logReg pgUPD 0x028) := by
  simp only [execActivated, happen, hstate, hdue, hheld, ne_eq, not_true_eq_false, Bool.not_true, Bool.false_eq_true, or_self,
    if_false]

theorem execFallback_due {s : State} (hstate : s.get F.UPD_STAT_STATE = 5)
    (hdue : 1000 * s.upd.trialLen * 1000000 ≤ s.tb - s.upd.trialAt) :
    execFallback s = .next s.fallBack.hitless.imageSwitch :=
  congrArg _ (if_pos ⟨hstate, decide_eq_true hdue⟩)

/-- Settles O52: each command in its conditions. -/
theorem updateCommands : Obligations.UpdateCommands := by
  unfold Obligations.UpdateCommands
  refine ⟨fun s src k v => ?_, fun s src => ⟨fun hgate hserv hstate => ?_, fun hgate hlock hstate htime => ?_,
    fun hgate hstate hdue => ?_, fun hgate hstate => ?_⟩, fun s hstate => ?_, fun s hstate hdue hheld => ?_, fun s hgate => ?_,
    fun s hstate hdue => execFallback_due hstate hdue, fun s hrun => ?_⟩
  · intro u hgate hserv hstate
    exact answer_gated_ok hgate (doStageWin_staged hserv hstate k v)
  · exact answer_gated_ok hgate ((doUpdCmd_bits _ _).1.trans (doVerify_starts hserv hstate))
  · exact answer_gated_ok hgate ((doUpdCmd_bits _ _).2.1.trans (doArm_arms hlock hstate htime))
  · exact answer_gated_ok hgate ((doUpdCmd_bits _ _).2.2.1.trans (doCancel_armed hstate hdue))
  · exact answer_gated_ok hgate ((doUpdCmd_bits _ _).2.2.2.1.trans (doAccept_trial hstate))
  · exact congrArg _ (if_neg (not_not.mpr hstate))
  · exact execActivated_due hstate hdue hheld
  · intro u x hstate hmay
    exact answer_gated_ok hgate ((doUpdCmd_bits _ .unit).2.2.2.2.trans (doConfirm_confirms hstate hmay))
  · exact congrArg _ (if_neg (by simp [hrun]))

/-! ## Provisioning (R375) -/

/-- The conditions that COMMIT checks. -/
def State.commitGood (u : State) : Bool :=
  (match u.upd.key with | some k => Config.certHasKey k (u.object 1) | none => false)
    && ([2, 3, 4, 5].map u.object).any (fun a => a != [] && Config.certChains (u.object 1) a)

/-- The module with the staged certificate and anchors. -/
def State.committed (u : State) : State :=
  let mask := b2n ((u.object 2) != []) + 2 * b2n ((u.object 3) != []) + 4 * b2n ((u.object 4) != []) + 8 * b2n ((u.object 5) != [])
  ((u.modUpd (fun p => { p with cert := u.object 1, anchors := [2, 3, 4, 5].map u.object })).put F.SEC_STAT_ANCHORS mask).put
    F.SEC_STAT_PROV 1

theorem doCommit_eq (u : State) : u.doCommit = if u.commitGood then
    (.ok, if u.get F.SEC_STAT_PROV ≠ 1 then u.committed.raise pgSEC 3 else u.committed) else refuse .range u := by
  have h : u.doCommit = if !u.commitGood then refuse .range u
      else (.ok, if u.get F.SEC_STAT_PROV ≠ 1 then u.committed.raise pgSEC 3 else u.committed) := rfl
  cases hgood : u.commitGood <;> simp [h, hgood]

theorem doSecCmd_bits (u : State) : u.doSecCmd 1 = u.doCommit ∧ u.doSecCmd 2 = (.ok, u.zeroise false) := ⟨rfl, rfl⟩

theorem execCommit_eq {s : State} {src : Src}
    (hgate : (s.restartUnlock src pgSEC 0x024).gate src pgSEC 0x024 1 = .ok) :
    let u := s.restartUnlock src pgSEC 0x024
    exec (.commit src) s = if u.commitGood
      then .next (if u.get F.SEC_STAT_PROV ≠ 1 then u.committed.raise pgSEC 3 else u.committed).done
      else answer (refuse .range u) := by
  intro u
  have hcommit := (gated_ok (f := fun t => t.doSecCmd 1) hgate).trans ((doSecCmd_bits u).1.trans (doCommit_eq u))
  refine (congrArg answer hcommit).trans ?_
  rw [apply_ite answer, answer_ok]

/-! ## Zeroisation (R376) -/

theorem sessions_snapRelease (s : State) (e : Bool) : (s.snapRelease e).sessions = s.sessions := by
  unfold State.snapRelease
  dsimp only
  split
  · rfl
  · split
    · exact sessions_setRaise _ _ _ _
    · rfl

theorem sessions_endSession (s : State) (i : Nat) : (s.endSession i).sessions = s.sessions.filter (fun x => x.sid != i) := by
  unfold State.endSession
  dsimp only
  split
  · rw [sessions_snapRelease]
  · rfl

/-- Every session whose number is listed ends. -/
theorem sessions_endSessions (l : List Nat) (s : State) :
    (l.foldl (fun t i => t.endSession i) s).sessions = s.sessions.filter (fun x => !l.contains x.sid) := by
  induction l generalizing s with
  | nil => simp
  | cons i l ih =>
    rw [List.foldl_cons, ih, sessions_endSession, List.filter_filter]
    refine List.filter_congr fun x _ => ?_
    by_cases hx : x.sid = i <;> simp [hx]

theorem sessions_zeroise (s : State) (tap : Bool) : (s.zeroise tap).sessions = [] := by
  have hall : ((s.sessions.map (·.sid)).foldl (fun t i => t.endSession i) s).sessions = [] := by
    rw [sessions_endSessions, List.filter_eq_nil_iff]
    intro x hx
    simpa using ⟨x, hx, rfl⟩
  unfold State.zeroise
  dsimp only
  split <;> split <;> simp [State.modUpd, State.modPanel, hall]

theorem doTestUnlock_zeroises {u : State} {v : Word} (hhold : u.sup.holdupAt = none) (hbit : bit v 0 = true) :
    u.doTestUnlock v = (.ok, u.zeroise true) := by
  simp only [State.doTestUnlock, hhold, hbit, Option.isSome_none, Bool.false_eq_true, if_false, if_true]

theorem key_zeroise (s : State) (tap : Bool) : (s.zeroise tap).upd.key = none := by
  unfold State.zeroise
  dsimp only
  split <;> split <;> simp [State.modPanel]

/-! ## Test access (R377, R378) -/

/-- With the TAP enabled the instruction's opcode decides (Table 21.4). -/
theorem execTapInstruction_enabled {s : State} (htap : s.flag F.TEST_STAT_TAP_EN = true) (d : Fin 3) (op : Byte) :
    let load (i : Byte) : State := s.modUpd (fun u => { u with ir := setAt 0x01 u.ir d.val i })
    execTapInstruction d op s = .next (
      if op.toNat = 3 ∨ op.toNat = 4 ∨ op.toNat = 5 ∨ op.toNat = 0x20 then
        if s.restrictOk then load op else (load 0xFF).putB F.TEST_STAT_REFUSED true
      else if op.toNat = 1 ∨ op.toNat = 2 then load op else load 0xFF) := by
  have hrestrict : [0x03, 0x04, 0x05, 0x20].contains op.toNat = true
      ↔ op.toNat = 3 ∨ op.toNat = 4 ∨ op.toNat = 5 ∨ op.toNat = 0x20 := by simp
  have hopen : [0x01, 0x02].contains op.toNat = true ↔ op.toNat = 1 ∨ op.toNat = 2 := by simp
  simp only [execTapInstruction, happen, htap, hrestrict, hopen, Bool.not_true, Bool.false_eq_true, if_false]

/-- Settles O53: each command in its conditions. -/
theorem secretsAndTestAccess : Obligations.SecretsAndTestAccess := by
  unfold Obligations.SecretsAndTestAccess
  refine ⟨fun s src => ⟨fun hgate => ?_, fun hgate => ?_⟩, fun s src v => ?_, fun s => rfl,
    fun s tap => ⟨key_zeroise s tap, sessions_zeroise s tap⟩, fun s => ?_, fun s d op htap => ⟨fun hop => ⟨fun hok => ?_, fun hok => ?_⟩,
      fun hop => ?_, fun hop => ?_⟩⟩
  · exact execCommit_eq hgate
  · exact answer_gated_ok hgate (doSecCmd_bits _).2
  · intro u hgate hhold hbit
    exact answer_gated_ok hgate (doTestUnlock_zeroises hhold hbit)
  · intro u hprov htap hcover
    exact congrArg _ (if_pos ⟨hprov, congrArg not htap, congrArg not hcover⟩)
  all_goals refine (execTapInstruction_enabled htap d op).trans ?_
  · rw [if_pos hop, if_pos hok]
  · rw [if_pos hop, if_neg (by simp [hok])]
  · rw [if_neg (by omega), if_pos hop]
  · rw [if_neg (by omega), if_neg (by omega)]

end Sys2Proof.Machine
end
section
/-! PROOFS. The allocator (R242 to R247), and the temperatures of the module and of the cells (R275 to R282). -/

namespace Sys2Proof.Machine
open Sys2Proof

/-! ## The allocator -/

theorem doPcmd_inRange {u : State} {v : Word} (hlo : -200000 ≤ v.toInt) (hhi : v.toInt ≤ 200000) :
    u.doPcmd v = (.ok, { (u.setReg R.ALLOC_PCMD v) with alloc := { u.alloc with cmdAt := u.tb, pcmdNew := true, tmoDone := false } }) :=
  if_neg (by omega)

theorem pcmdLate_of {s : State} (hset : s.get F.ALLOC_PCMD_TMO_TMO ≠ 0)
    (hold : 100 * s.get F.ALLOC_PCMD_TMO_TMO * 1000000 ≤ s.tb - s.alloc.cmdAt) : s.pcmdLate = true := by
  simp [State.pcmdLate, State.passedMs, hset, hold]

theorem execAllocRun_due {s : State} (hrun : s.sup.restarting = false) (hdue : s.allocDue = true) :
    execAllocRun s = .next s.allocRun := by
  simp only [execAllocRun, happen, hrun, hdue, Bool.false_eq_true, Bool.not_true, or_self, if_false]

/-- A run up to the choice of its members: the limits, the end of a rest window, and an offer. -/
def State.allocReady (s : State) : State :=
  let a := ({ s with alloc := { s.alloc with pcmdNew := false } } : State).allocLimits
  (if a.flag F.ALLOC_STAT_REST_ACT && a.restOver then a.restEnd else a).restOffer

/-- The targets of a run that changed are written. -/
def State.allocWrite (s : State) (m : List Ch) : State :=
  (s.allocCalc m).1.foldl (fun t x =>
    if t.reg (R.PROF_CUR_TARGET x.1) = intWord x.2 then t else (t.doCurTarget .unit x.1 (intWord x.2)).2) s

theorem allocRun_eq (s : State) : s.allocRun =
    let u := s.allocReady
    let m := allCh.filter u.member
    if u.alloc.modeNow ≠ 1 then u.allocShow m 0
    else { ((u.allocWrite m).allocShow m (u.allocCalc m).2) with free := (u.allocWrite m).free + 8 } := rfl

/-- Settles O41: each command in its conditions. -/
theorem allocatorCommands : Obligations.AllocatorCommands := by
  unfold Obligations.AllocatorCommands
  refine ⟨fun s hrun hdue => ⟨fun hmode => ?_, fun hmode => ?_⟩, fun s src v => ?_, fun s hset hold hdone => ?_, fun s hact hover => ?_⟩
  · exact (execAllocRun_due hrun hdue).trans (congrArg _ ((allocRun_eq s).trans (if_pos hmode)))
  · exact (execAllocRun_due hrun hdue).trans (congrArg _ ((allocRun_eq s).trans (if_neg (not_not.mpr hmode))))
  · intro u hgate hlo hhi
    exact answer_gated_ok hgate (doPcmd_inRange hlo hhi)
  · exact congrArg _ (if_pos ⟨pcmdLate_of hset hold, hdone⟩)
  · exact congrArg _ (if_pos (Bool.and_eq_true_iff.mpr ⟨hact, hover⟩))

/-! ## The compensation step (R279) -/

theorem compTo_bounds (now target : Rat) : now - 1 / 20 ≤ compTo now target ∧ compTo now target ≤ now + 1 / 20 := by
  unfold compTo maxR minR
  constructor <;> split <;> split <;> linarith

/-- A target within a step is reached. -/
theorem compTo_near {now target : Rat} (hlo : now - 1 / 20 ≤ target) (hhi : target ≤ now + 1 / 20) : compTo now target = target := by
  have hmin : minR (now + 1 / 20) target = target := by
    unfold minR
    split <;> linarith
  rw [compTo, hmin, maxR, if_pos hlo]

/-- The frequency correction after a step. -/
def State.compNext (s : State) : Rat :=
  match s.dieNow 8 with | some t => compTo s.clock.comp (Config.oscComp t) | none => s.clock.comp

/-- The corrections of the channels' references after a step. -/
def State.refNext (s : State) (k : Nat) : Rat :=
  match s.dieNow k with | some t => Config.refComp k t | none => s.clock.refComp.getD k 0

theorem execCompensationStep_due {s : State} (hdue : 100000000 ≤ s.tb - s.clock.compAt) :
    execCompensationStep s = .next { s with clock := { s.clock with
      comp := s.compNext, refComp := (List.range 8).map s.refNext, compAt := s.tb } } :=
  congrArg _ (if_pos (decide_eq_true (by omega)))

theorem getD_refNext (s : State) (n : Ch) : ((List.range 8).map s.refNext).getD n.val 0 = s.refNext n.val := by
  have hn := n.isLt
  simp [List.getD]

/-! ## Module temperature and cell temperature limits (R275 to R278, R280 to R282) -/

theorem execThermLimitEval_due {s : State} {n : Ch} (hdue : s.thermDue n = true) :
    execThermLimitEval s = .next (s.takeAxes.eachCh (fun t n => t.thermLimit s.takeAxes.therm.axes n)) := by
  have hsome : allCh.all (fun n => !s.thermDue n) = false := by
    rw [List.all_eq_false]
    exact ⟨n, List.mem_finRange n, by simp [hdue]⟩
  simp only [execThermLimitEval, happen, hsome, Bool.false_eq_true, if_false]

section
variable {s : State} {n : Ch}

theorem takeAxes_rising (hrise : axesOk ([0, 1, 2, 3].map (fun k => s.reg (R.THERM_AX k))) = true) :
    s.takeAxes = { s with therm := { s.therm with axes := [0, 1, 2, 3].map (fun k => s.reg (R.THERM_AX k)) } } := if_pos hrise

theorem takeAxes_native (hfall : axesOk ([0, 1, 2, 3].map (fun k => s.reg (R.THERM_AX k))) = false)
    (hnative : s.flag F.THERM_CTRL_COMPAT = false) : s.takeAxes = s.setRaise F.THERM_STAT_CFG_ERR pgTHERM 4 := by
  rw [State.takeAxes, hfall, hnative]
  rfl

theorem takeAxes_compat (hfall : axesOk ([0, 1, 2, 3].map (fun k => s.reg (R.THERM_AX k))) = false)
    (hcompat : s.flag F.THERM_CTRL_COMPAT = true) : s.takeAxes = s := by
  rw [State.takeAxes, hfall, hcompat]
  rfl

end

/-- Settles O42: each command in its conditions. -/
theorem thermalCommands : Obligations.ThermalCommands := by
  unfold Obligations.ThermalCommands
  refine ⟨fun s l hep => ?_, fun s hdue => ?_, fun s n hdue => ⟨fun hrise => ?_, fun hfall hnative => ?_, fun hfall hcompat => ?_⟩⟩
  · exact congrArg _ (if_pos hep)
  · refine ⟨_, execCompensationStep_due hdue, rfl, fun hnone => ?_, ?_, ?_, fun n hnone => ?_, fun n x hsome => ?_,
      fun x hsome hlo hhi => ?_, rfl, rfl⟩
    · simp only [State.compNext, hnone]
    · dsimp only [State.compNext]
      split
      · exact (compTo_bounds _ _).1
      · linarith
    · dsimp only [State.compNext]
      split
      · exact (compTo_bounds _ _).2
      · linarith
    · simp only [getD_refNext, State.refNext, hnone]
    · simp only [getD_refNext, State.refNext, hsome]
    · simp only [State.compNext, hsome, compTo_near hlo hhi]
  all_goals refine (execThermLimitEval_due hdue).trans ?_
  · rw [takeAxes_rising hrise]
  · rw [takeAxes_native hfall hnative]
  · rw [takeAxes_compat hfall hcompat]

end Sys2Proof.Machine
end
section
/-! PROOFS. The estimator's commands: chemistry data (R223), what was learned (R227, R230, R237), calibrations (R231). -/

namespace Sys2Proof.Machine
open Sys2Proof

/-! ## Chemistry data (R223) -/

theorem execChemDataAccess_read {s : State} {src : Src} {n : Ch} (hreach : s.reachable src (pgEST n) = .ok) :
    execChemDataAccess src n none s
      = .next ((s.chemNext n).doneRead (mget (s.ch n).est.stage (s.get (F.EST_CHEM_ADDR_WORD n)))) := by
  simp only [execChemDataAccess, hreach]
  rfl

theorem doCommitChem_fails {u : State} {n : Ch} {k : Nat} (hiso : u.chState n = stISOLATED)
    (hfail : chemFail (u.ch n).est.stage = some k) : u.doCommitChem n = refuse .range (u.put (F.EST_CHEM_CMD_ERR_WORD n) k) := by
  simp only [State.doCommitChem, hiso, hfail, ne_eq, not_true_eq_false, if_false]
  rfl

/-- The channel with its staged table in force (R223). -/
def State.chemCommitted (u : State) (n : Ch) : State :=
  let m := (u.ch n).est.stage
  let w := ((u.disqualify n 8 (fun _ _ => true)).modEst n (fun e =>
    { e with chem := m, chemOk := true, chemDue := true, writeDue := true })).chemStore n
  let x := w.mapCells n (fun _ c => if mget m 0 ≠ mget (u.ch n).est.chem 0 then c.unlearn (f32D (mget m 1))
    else if c.envQ.isNone && c.qNew.isNone then { c with q := f32D (mget m 1) } else c)
  let y := ((x.reinit n).put (F.EST_CHEM_CMD_ERR_WORD n) 0xFFFF).putB (F.EST_STAT_CHEM_VALID n) true
  (y.setReg (R.EST_CHEM_ID n) (mget m 0)).openShow n

theorem doCommitChem_commits {u : State} {n : Ch} (hiso : u.chState n = stISOLATED)
    (hgood : chemFail (u.ch n).est.stage = none) : u.doCommitChem n = (.ok, u.chemCommitted n) := by
  simp only [State.doCommitChem, hiso, hgood, ne_eq, not_true_eq_false, if_false]
  rfl

/-! ## EST.CTRL and EST.ICAL (Tables 12.8, 12.17) -/

theorem doEstCtrl_reinit {u : State} {n : Ch} {v : Word} (hiso : u.chState n = stISOLATED) (hre : bit v 31 = true)
    (hclr : bit v 30 = false) (src : Src) :
    u.doEstCtrl src n v = (.ok, (u.put (F.EST_CTRL_LEARN_EN n) (b2n (bit v 0))).reinit n) := by
  simp [State.doEstCtrl, hiso, hre, hclr]

theorem doEstCtrl_learnClear {u : State} {src : Src} {n : Ch} {v : Word} (hiso : u.chState n = stISOLATED)
    (hlock : u.unlocked src (pgEST n) = true) (hre : bit v 31 = false) (hclr : bit v 30 = true) :
    u.doEstCtrl src n v = (.ok, (u.put (F.EST_CTRL_LEARN_EN n) (b2n (bit v 0))).learnClear n) := by
  simp [State.doEstCtrl, hiso, hlock, hre, hclr]

/-- A request of one calibration in its condition starts its window. -/
theorem doIcal_starts {u : State} {n : Ch} {v : Word} {kind : Nat} (hone : (bit v 31 && bit v 30) = false)
    (hkind : (if bit v 31 then 1 else if bit v 30 then 2 else 0) = kind) (hsome : kind ≠ 0) (hcond : u.calCond n kind = true)
    (hsel : bitsOf v 25 24 ≤ 1) :
    u.doIcal n v = (.ok, ((u.put (F.EST_ICAL_SEL n) (bitsOf v 25 24)).put (F.EST_ICAL_RES n) 3).modEst n (fun e =>
      { e with calKind := kind, calSel := bitsOf v 25 24, calWin := [], calSkip := b2n (u.ch n).pour.busy })) := by
  simp only [State.doIcal, hone, hkind, hcond, hsome, Nat.not_lt.mpr hsel, Bool.false_or, decide_false, Bool.false_eq_true,
    Bool.not_true, and_false, if_false, ch_put]

/-- Settles O40: each command in its conditions. -/
theorem estimatorCommands : Obligations.EstimatorCommands := by
  unfold Obligations.EstimatorCommands
  refine ⟨fun s src n v => ?_, fun s src n hreach => execChemDataAccess_read hreach, fun s src n => ?_, fun s src n => ?_,
    fun s src n => ?_, fun s src n => ?_, fun s src n => ?_⟩
  · intro u hgate
    exact answer_gated_ok hgate rfl
  · intro u hgate hiso m
    refine ⟨fun k hfail => ?_, fun hgood => ?_⟩
    · exact (congrArg answer ((gated_ok (f := fun t => t.doCommitChem n) hgate).trans (doCommitChem_fails hiso hfail))).trans
        (answer_refuse .range _ (by decide))
    · exact answer_gated_ok hgate (doCommitChem_commits hiso hgood)
  · intro w u hgate hiso hre hclr
    exact answer_gated_ok hgate (doEstCtrl_reinit hiso hre hclr src)
  · intro w u hgate hiso hlock hre hclr
    exact answer_gated_ok hgate (doEstCtrl_learnClear hiso hlock hre hclr)
  · intro w u hgate hcond hoff hgain hsel
    exact answer_gated_ok hgate (doIcal_starts (by rw [hgain, Bool.and_false]) (if_pos hoff) (by decide) hcond hsel)
  · intro w u hgate hcond hoff hgain hsel
    exact answer_gated_ok hgate (doIcal_starts (by rw [hoff, Bool.false_and])
      ((if_neg (Bool.eq_false_iff.mp hoff)).trans (if_pos hgain)) (by decide) hcond hsel)

end Sys2Proof.Machine
end
section
/-! PROOFS. The percolator's tasks (R284 to R292, R296). -/

namespace Sys2Proof.Machine
open Sys2Proof

/-! ## Synchronous tasks (R284, R287, R288) -/

theorem execSyncCycleStart_due {s : State} {n : Ch} {k : Nat} {t : TaskDef} (htask : (s.ch n).perc.info.tasks[k]? = some t)
    (hdue : s.get (F.PERC_STAT_MODE n) = 1 ∧ t.cls = 1 ∧ (s.ch n).pour.on = true ∧ (s.ch n).pour.deliv.valid = true
      ∧ (s.ch n).pour.deliv.epoch % (max 1 t.period) = t.phase
      ∧ (s.ch n).perc.starts.getD k none ≠ some (s.ch n).pour.deliv.epoch) :
    execSyncCycleStart n k s = .next (s.modPerc n (fun p => { p with
      starts := setAt none p.starts k (some (s.ch n).pour.deliv.epoch), inputs := setAt [] p.inputs k p.image
      times := setAt 0 p.times k (s.ch n).pour.deliv.smpTb, running := if k ∈ p.running then p.running else p.running ++ [k] })) := by
  simp only [execSyncCycleStart, happen, htask, if_pos hdue]

/-- The deadline of a running task. -/
theorem execSyncDeadline_due {s : State} {n : Ch} {k : Nat} (hrun : s.get (F.PERC_STAT_MODE n) = 1) (hon : (s.ch n).pour.on = true)
    (htask : k ∈ (s.ch n).perc.running) (hdue : s.percDue n k = true) (finished : Bool) (outs : List (Nat × Nat × Bool)) :
    execSyncDeadline n k finished outs s = .next (if finished then
      (s.modPerc n (fun q => { q with
        latched := (outs.filter (fun o => progOwner (s.ch n).perc.info o.1 o.2.1 == some k)).foldl (fun l o => latchSet l o.1 o.2.1 o.2.2) q.latched
        running := q.running.filter (· != k) })).taskTime n k
      else (s.put (F.PERC_STAT_TASK n) k).percStop n 1) := by
  have hskip : ¬ (s.get (F.PERC_STAT_MODE n) ≠ 1 ∨ !(s.ch n).pour.on ∨ k ∉ (s.ch n).perc.running ∨ !s.percDue n k) := by
    simp [hrun, hon, htask, hdue]
  exact congrArg _ (if_neg hskip)

/-! ## Free tasks (R285, R289, R292) -/

/-- A switch between two free tasks (R285). -/
theorem execFreeSwitch_due {s : State} {n : Ch} {a b : Nat} (hrun : s.get (F.PERC_STAT_MODE n) = 1)
    (hfree : progFree (s.ch n).perc.info = [a, b]) (hdue : (s.ch n).perc.freeAt + 50000 ≤ s.tb) :
    let old := if (s.ch n).perc.freeNow = b then b else a
    execFreeSwitch n s
      = .next ((s.modPerc n (fun p => { p with freeNow := if old = b then a else b, freeAt := s.tb })).taskTime n old) := by
  have hskip : ¬ (s.get (F.PERC_STAT_MODE n) ≠ 1 ∨ s.tb < (s.ch n).perc.freeAt + 50000) := by
    rw [hrun]
    omega
  simp only [execFreeSwitch, happen, hskip, hfree, if_false]

/-- The channel once a free task has written an output, before the frame to the tile (R289). -/
def State.freeWritten (s : State) (n : Ch) (inst : Word) (tile out : Nat) (on : Bool) : State :=
  s.modPerc n (fun p => { p with
    latched := latchSet p.latched tile out on
    freeOut := (inst, tile, out, on) :: p.freeOut.filter (fun f => !(f.1 == inst && f.2.1 == tile && f.2.2.1 == out)) })

theorem execFreeOutputWrite_owner {s : State} {n : Ch} {tile out k : Nat} (howner : progOwner (s.ch n).perc.info tile out = some k)
    (hrun : s.get (F.PERC_STAT_MODE n) = 1) (hcls : progCls (s.ch n).perc.info k = 2) (inst : Word) (on : Bool) :
    let u := s.freeWritten n inst tile out on
    execFreeOutputWrite n inst tile out on s = .next (if !u.ringRuns n ∨ !u.masters n ∨ u.tiles n < tile
      then u.freeResult n tile false
      else (u.modRing n (fun r => { r with queue := r.queue.filter (fun f => !(f.cls == 2 && f.addr == tile)) })).queueFrame n
        (wrReg 2 tile 0x0050 [u.outWord n tile])) := by
  have hskip : ¬ (s.get (F.PERC_STAT_MODE n) ≠ 1 ∨ progCls (s.ch n).perc.info k ≠ 2) := by simp [hrun, hcls]
  simp only [execFreeOutputWrite, happen, howner, hskip, if_false]
  rfl

theorem execFreeOutputWrite_sent {s : State} {n : Ch} {tile out k : Nat} (howner : progOwner (s.ch n).perc.info tile out = some k)
    (hrun : s.get (F.PERC_STAT_MODE n) = 1) (hcls : progCls (s.ch n).perc.info k = 2) (inst : Word) (on : Bool) :
    let u := s.freeWritten n inst tile out on
    (u.ringRuns n = true → u.masters n = true → tile ≤ u.tiles n → execFreeOutputWrite n inst tile out on s =
      .next ((u.modRing n (fun r => { r with queue := r.queue.filter (fun f => !(f.cls == 2 && f.addr == tile)) })).queueFrame n
        (wrReg 2 tile 0x0050 [u.outWord n tile])))
    ∧ (u.ringRuns n = false ∨ u.masters n = false →
      execFreeOutputWrite n inst tile out on s = .next (u.freeResult n tile false)) := by
  have hexec := execFreeOutputWrite_owner howner hrun hcls inst on
  generalize s.freeWritten n inst tile out on = u at hexec
  refine ⟨fun hring hmaster htile => ?_, fun hno => ?_⟩
  · rw [hexec, if_neg (by simp [hring, hmaster, htile])]
  · rw [hexec, if_pos (by simpa using hno.imp_right .inl)]

/-- Settles O45: each command in its conditions. -/
theorem percolatorTasks : Obligations.PercolatorTasks := by
  unfold Obligations.PercolatorTasks
  refine ⟨fun s n k t => ?_, fun s n k outs => ?_, fun s n k hrun hcls => congrArg _ (if_pos ⟨hrun, hcls⟩),
    fun s n a b hrun hfree hab hdue => ⟨fun hnow => ?_, fun hnow => ?_⟩,
    fun s n hon hring hmaster hhalt hdecaf htiles htime => congrArg _ (if_pos ⟨hon, hring, hmaster, hhalt, hdecaf, htiles, htime⟩),
    fun s n inst tile out k on howner hrun hcls => execFreeOutputWrite_sent howner hrun hcls inst on, fun s n sync a => rfl,
    fun s n sync a v => rfl⟩
  · intro p b htask hrun hcls hon hvalid hphase hnew
    exact execSyncCycleStart_due htask ⟨hrun, hcls, hon, hvalid, hphase, hnew⟩
  · intro p hrun hon htask hdue
    exact ⟨(execSyncDeadline_due hrun hon htask hdue true outs).trans (congrArg _ (if_pos rfl)),
      (execSyncDeadline_due hrun hon htask hdue false outs).trans (congrArg _ (if_neg Bool.false_ne_true))⟩
  · refine (execFreeSwitch_due hrun hfree hdue).trans ?_
    simp only [hnow, hab, if_false]
  · refine (execFreeSwitch_due hrun hfree hdue).trans ?_
    simp only [hnow, if_true]

end Sys2Proof.Machine
end
section
/-! PROOFS. The percolator's modes, programs and stored data (R292 to R302). -/

namespace Sys2Proof.Machine
open Sys2Proof

/-! ## Modes (R292, R293, R295) -/

/-- The mode of a request by PERC.CTRL. -/
theorem percModeWord (w : Word) {m : Nat} (hm : m < 4) : bitsOf (putBits w 1 0 m) 1 0 = m := by
  rw [bitsOf_putBits_same _ _ _ _ (by decide) (by decide)]
  exact Nat.mod_eq_of_lt hm

section
variable {u : State} {n : Ch} {v : Word}

theorem doPercCtrl_same {m : Nat} (hv : bitsOf v 1 0 = m) (hm : m ≠ 3) (hcur : u.get (F.PERC_STAT_MODE n) = m) :
    u.doPercCtrl n v = (.ok, u.setReg (R.PERC_CTRL n) (v &&& 0x103)) := by
  simp only [State.doPercCtrl, hv, hm, hcur, if_false, if_true]

theorem doPercCtrl_run (hv : bitsOf v 1 0 = 1) (hcur : u.get (F.PERC_STAT_MODE n) ≠ 1) (hmay : u.percMayRun n = true) :
    u.doPercCtrl n v = (.ok, (u.setReg (R.PERC_CTRL n) (v &&& 0x103)).percRun n) := by
  simp [State.doPercCtrl, hv, hcur.symm, hmay]

theorem doPercCtrl_stop (hv : bitsOf v 1 0 = 0) (hcur : u.get (F.PERC_STAT_MODE n) ≠ 0) :
    u.doPercCtrl n v = (.ok, (u.setReg (R.PERC_CTRL n) (v &&& 0x103)).percStop n 0) := by
  simp [State.doPercCtrl, hv, hcur.symm]

theorem doPercCtrl_hold (hv : bitsOf v 1 0 = 2) (hcur : u.get (F.PERC_STAT_MODE n) = 1) (hiso : u.chState n = stISOLATED)
    (hen : u.enabled (pgPERC n) = true) :
    u.doPercCtrl n v = (.ok, ((u.setReg (R.PERC_CTRL n) (v &&& 0x103)).put (F.PERC_STAT_MODE n) 2).modPerc n (fun p =>
      { p with running := [] })) := by
  simp [State.doPercCtrl, hv, hcur, hiso, hen]

end

/-! ## Program words and PERC.CMD (R297 to R300, R302) -/

theorem execProgDataAccess_read {s : State} {src : Src} {n : Ch} (hreach : s.reachable src (pgPERC n) = .ok) :
    execProgDataAccess src n none s
      = .next ((s.progNext n).doneRead (mget (s.ch n).perc.stage (s.get (F.PERC_PROG_ADDR_WORD n)))) := by
  simp only [execProgDataAccess, hreach]
  rfl

section
variable {u : State} {src : Src} {n : Ch} (hserv : u.service src = true)
include hserv

/-- LOAD (v = 1) and EXCHANGE (v = 2) begin the check. -/
theorem doPercCmd_check {v : Word} (hv : v = 1 ∨ v = 2) (hfree : u.xchgBusy n = false) :
    u.doPercCmd src n v
      = (.ok, (u.put (F.PERC_STAT_XCHG n) 1).modPerc n (fun p => { p with cmdLoad := bit v 0, xsince := u.ep })) := by
  have hone : ¬ 1 < b2n (bit v 0) + b2n (bit v 1) + b2n (bit v 2) ∧ (bit v 0 || bit v 1) = true := by
    obtain rfl | rfl := hv <;> decide
  simp only [State.doPercCmd, hone, hserv, hfree, Bool.not_true, Bool.false_eq_true, if_false, if_true]

theorem doPercCmd_retInit (hstop : u.get (F.PERC_STAT_MODE n) = 0) :
    u.doPercCmd src n 4
      = (.ok, u.modPerc n (fun p => { p with retain := (p.info.insts.filter (·.retained)).map (fun i => (i.id, i.init)) })) := by
  have hbits : bit (4 : Word) 0 = false ∧ bit (4 : Word) 1 = false ∧ bit (4 : Word) 2 = true := by decide
  obtain ⟨hload, hexchange, hinit⟩ := hbits
  have hone : ¬ 1 < b2n false + b2n false + b2n true := by decide
  simp only [State.doPercCmd, hload, hexchange, hinit, hone, hserv, hstop, Bool.not_true, Bool.or_self, Bool.false_eq_true,
    ne_eq, not_true_eq_false, if_false, if_true]

end

/-! ## Checks, installation, storage (R298 to R302) -/

/-- The end of a check (R298 to R300). -/
theorem execProgCheckDone_checking {s : State} {n : Ch} (hcheck : s.get (F.PERC_STAT_XCHG n) = 1) (info : ProgInfo) :
    execProgCheckDone n info s = .next (
      if s.progRefusal n info ≠ 0 then s.progRefuse n (s.progRefusal n info)
      else if (s.ch n).perc.cmdLoad then (s.progInstall n info (s.ch n).perc.stage).put (F.PERC_STAT_XCHG n) 0
      else (s.put (F.PERC_STAT_XCHG n) 2).modPerc n (fun p =>
        { p with staged := some info, stagedImg := p.stage, xsince := s.ep })) :=
  congrArg _ (if_neg (not_not.mpr hcheck))

/-- The channel with its staged program exchanged (R300). -/
def State.exchanged (s : State) (n : Ch) (info : ProgInfo) : State :=
  let u := ((s.progInstall n info (s.ch n).perc.stagedImg).modPerc n (fun p => { p with staged := none, stagedImg := [] })).put
    (F.PERC_STAT_XCHG n) 3
  ((u.incSat (F.PERC_CNT_EXCHANGES n)).raise (pgPERC n) 5).logReg (pgPERC n) 0x024

/-- The point of an exchange that waits (R300). -/
theorem execXdone_pending {s : State} {n : Ch} {info : ProgInfo} (hstaged : (s.ch n).perc.staged = some info)
    (hwait : s.get (F.PERC_STAT_XCHG n) = 2) (x : ExchangePoint) :
    execXdone n x s = .next (
      if 0 < sdiff 48 (s.ch n).pour.deliv.epoch (s.ch n).perc.xsince ∧ ((s.ch n).perc.running = [] ∨ x.idle) ∧ x.freeAtEnds
      then s.exchanged n info
      else if 1000 ≤ sdiff 48 s.ep (s.ch n).perc.xsince then
        (s.progRefuse n 8).modPerc n (fun p => { p with staged := none, stagedImg := [] })
      else s) := by
  simp only [execXdone, happen, hstaged, hwait, ne_eq, not_true_eq_false, if_false]
  rfl

/-- Settles O46: each command in its conditions. -/
theorem percolatorCommands : Obligations.PercolatorCommands := by
  unfold Obligations.PercolatorCommands
  refine ⟨fun s src n => ⟨fun hgate hcur hmay => ?_, fun hgate hcur => ?_, fun hgate hcur => ?_, fun hgate hcur hiso hen => ?_⟩,
    fun s src n v => ?_, fun s src n hreach => execProgDataAccess_read hreach,
    fun s src n => ⟨fun hgate hserv hfree => ?_, fun hgate hserv hfree => ?_, fun hgate hserv hstop => ?_⟩,
    fun s n info hcheck => ⟨fun hbad => ?_, fun hgood hload => ?_, fun hgood hload => ?_⟩,
    fun s n info idle hstaged hwait => ⟨fun hdue hidle => ?_, fun hlate => ?_⟩,
    fun s n hhold => ⟨fun hdue => ?_, fun hdecaf hdue => ?_⟩⟩
  · exact answer_gated_ok hgate (doPercCtrl_run (percModeWord _ (by decide)) hcur hmay)
  · exact answer_gated_ok hgate (doPercCtrl_same (percModeWord _ (by decide)) (by decide) hcur)
  · exact answer_gated_ok hgate (doPercCtrl_stop (percModeWord _ (by decide)) hcur)
  · exact answer_gated_ok hgate (doPercCtrl_hold (percModeWord _ (by decide)) hcur hiso hen)
  · intro u hgate
    exact answer_gated_ok hgate rfl
  · exact answer_gated_ok hgate (doPercCmd_check hserv (.inl rfl) hfree)
  · exact answer_gated_ok hgate (doPercCmd_check hserv (.inr rfl) hfree)
  · exact answer_gated_ok hgate (doPercCmd_retInit hserv hstop)
  · exact (execProgCheckDone_checking hcheck info).trans (congrArg _ (if_pos hbad))
  · exact (execProgCheckDone_checking hcheck info).trans (congrArg _ ((if_neg (not_not.mpr hgood)).trans (if_pos hload)))
  · exact (execProgCheckDone_checking hcheck info).trans
      (congrArg _ ((if_neg (not_not.mpr hgood)).trans (if_neg (Bool.eq_false_iff.mp hload))))
  · exact (execXdone_pending hstaged hwait ⟨idle, true⟩).trans (congrArg _ (if_pos ⟨hdue, hidle, rfl⟩))
  · refine (execXdone_pending hstaged hwait ⟨idle, false⟩).trans (congrArg _ ((if_neg ?_).trans (if_pos hlate)))
    exact fun h => Bool.false_ne_true h.2.2
  · exact congrArg _ (if_pos ⟨hdue, hhold⟩)
  · exact congrArg _ (if_pos ⟨hhold, hdecaf, decide_eq_true hdue⟩)

end Sys2Proof.Machine
end
section
/-! PROOFS. Ownership of twin channels (R326, R328, R335 to R342). -/

namespace Sys2Proof.Machine
open Sys2Proof

/-! ## Claims (R326) -/

theorem carries_modTwin (s : State) (n : Ch) (f : TwinCh → TwinCh) : (s.modTwin n f).carries = s.carries := rfl

/-- A level of OWNER_IN that changes (R326). -/
theorem execOwnerInChange_changed {s : State} {n : Ch} (htwin : s.twinCh n = true) (claimed : Bool)
    (hwas : (s.ch n).twin.claimIn ≠ claimed) :
    let u := s.modTwin n (fun w => { w with claimIn := claimed, claimInAt := s.tb })
    let v := if (u.ch n).twin.claimOut ∧ !(u.ch n).twin.held then u.dropClaim n else u
    execOwnerInChange n claimed s = .next (if !claimed then u
      else if (v.ch n).twin.claimOut ∨ !v.carries then v
      else v.modTwin n (fun w => { w with standby := true, pOwned := true, toClaim := false })) := by
  have hskip : ¬ ((!s.twinCh n) = true ∨ (s.ch n).twin.claimIn = claimed) := by simp [htwin, hwas]
  exact congrArg _ (if_neg hskip)

section
variable {s : State} {n : Ch} (htwin : s.twinCh n = true)
include htwin

theorem execOwnerInChange_ends (hin : (s.ch n).twin.claimIn = true) :
    execOwnerInChange n false s = .next (s.modTwin n (fun w => { w with claimIn := false, claimInAt := s.tb })) := by
  rw [execOwnerInChange_changed htwin false (by simp [hin])]
  rfl

theorem execOwnerInChange_held (hin : (s.ch n).twin.claimIn = false) (hout : (s.ch n).twin.claimOut = true)
    (hheld : (s.ch n).twin.held = true) :
    execOwnerInChange n true s = .next (s.modTwin n (fun w => { w with claimIn := true, claimInAt := s.tb })) := by
  rw [execOwnerInChange_changed htwin true (by simp [hin])]
  simp [hout, hheld]

theorem execOwnerInChange_standby (hin : (s.ch n).twin.claimIn = false) (hout : (s.ch n).twin.claimOut = false)
    (hcarries : s.carries = true) :
    execOwnerInChange n true s = .next ((s.modTwin n (fun w => { w with claimIn := true, claimInAt := s.tb })).modTwin n (fun w =>
      { w with standby := true, pOwned := true, toClaim := false })) := by
  rw [execOwnerInChange_changed htwin true (by simp [hin])]
  simp [hout, carries_modTwin, hcarries]

end

/-- The channel once its claim is driven (R326, R338). -/
def State.claimDriven (s : State) (n : Ch) : State :=
  let a := (s.modTwin n (fun w => { w with
    claimOut := true, held := s.twin.side == 0, claimAt := s.tb, toClaim := false, standby := false, pOwned := false })).putBit
    F.TWIN_STAT_OWN n.val true
  (a.putB (F.RING_STAT_MASTER_B n) (a.flag (F.RING_CTRL_END n))).putB (F.RING_STAT_RELAY n) false

/-- TRIP closes with a claim that takes nothing over. -/
def State.claimTrip (s : State) (n : Ch) : State :=
  s.putB (F.CONT_STAT_TRIP_ON n) (s.chState n != stTRIPPED && s.chState n != stLOCKOUT)

/-- What a driven claim starts: a survivor masters the running ring as a SPLIT, and a ring that does not run starts. -/
def State.claimGoes (b : State) (n : Ch) (taking : Bool) : State :=
  let c := if !taking then b.claimTrip n else b
  if c.ringRuns n then
    if taking then
      (if c.flag (F.RING_CTRL_END n) then c.linkBreak n 0 1 else c.linkBreak n (c.tiles n) (c.tiles n + 1)).percTake n
    else c
  else (c.ringStart n).percTake n

theorem claimGoes_new (b : State) (n : Ch) : b.claimGoes n false =
    if (b.claimTrip n).ringRuns n then b.claimTrip n else ((b.claimTrip n).ringStart n).percTake n := rfl

theorem claimGoes_survivor {b : State} {n : Ch} (hring : b.ringRuns n = false) :
    b.claimGoes n true = (b.ringStart n).percTake n := if_neg (Bool.eq_false_iff.mp hring)

theorem execClaimStart_due {s : State} {n : Ch} (htwin : s.twinCh n = true) (hlock : s.chState n ≠ stLOCKOUT)
    (hto : (s.ch n).twin.toClaim = true) (hin : (s.ch n).twin.claimIn = false) (hout : (s.ch n).twin.claimOut = false)
    (hquiet : 100000 ≤ s.tb - (s.ch n).twin.claimInAt) (hcarries : s.carries = true) :
    execClaimStart n s = .next ((s.claimDriven n).claimGoes n (s.ch n).twin.taking) := by
  have hskip : ¬ ((!s.twinCh n) = true ∨ s.chState n = stLOCKOUT ∨ (!(s.ch n).twin.toClaim) = true ∨ (s.ch n).twin.claimIn = true
      ∨ (s.ch n).twin.claimOut = true ∨ s.tb - (s.ch n).twin.claimInAt < 100000 ∨ (!s.carries) = true) := by
    simp [htwin, hlock, hto, hin, hout, hcarries]
    omega
  exact congrArg _ (if_neg hskip)

/-! ## Loss of the partner (R335 to R339) -/

/-- The loss is shown and recorded once. -/
def State.lostNoted (s : State) (n : Ch) : State :=
  if s.getBit F.TWIN_STAT_LOST n.val then s else ((s.putBit F.TWIN_STAT_LOST n.val true).raise pgTWIN 3).valveLost n

/-- The partner is lost for a channel that is not claimed here, its heartbeats going on. -/
theorem execLost_unclaimed {s : State} {n : Ch} (htwin : s.twinCh n = true) (hcarries : s.carries = true)
    (hgone : (s.claimGone n || s.hbGone || (s.partnerDown && s.flag F.TWIN_STAT_LINK)) = true)
    (hbeat : (s.lostNoted n).hbGone = false) (howns : (s.lostNoted n).owns n = false)
    (hout : ((s.lostNoted n).ch n).twin.claimOut = false) :
    execLost n s = .next (
      if ((s.lostNoted n).ch n).twin.pOwned ∧ !(s.partnerDown && s.flag F.TWIN_STAT_LINK) then (s.lostNoted n).takeover n
      else (s.lostNoted n).modTwin n (fun w => { w with toClaim := true, standby := false, pOwned := false })) := by
  have hskip : ¬ ((!s.twinCh n) = true ∨ (!s.carries) = true
      ∨ (!(s.claimGone n || s.hbGone || (s.partnerDown && s.flag F.TWIN_STAT_LINK))) = true) := by
    rw [htwin, hcarries, hgone]
    decide
  have hnoted : execLost n s = .next (
      let u := if (s.lostNoted n).hbGone then (s.lostNoted n).linkDown else s.lostNoted n
      if u.owns n then
        if u.ringRuns n then
          (if u.flag (F.RING_CTRL_END n) then u.breakSeen n 0 1 else u.breakSeen n (u.tiles n) (u.tiles n + 1))
        else u
      else if (u.ch n).twin.claimOut then u
      else if (u.ch n).twin.pOwned ∧ !(s.partnerDown && s.flag F.TWIN_STAT_LINK) then u.takeover n
      else u.modTwin n (fun w => { w with toClaim := true, standby := false, pOwned := false })) := congrArg _ (if_neg hskip)
  rw [hnoted]
  simp only [hbeat, howns, hout, Bool.false_eq_true, if_false]

/-! ## The BRIDGE and the handover (R336, R342) -/

theorem execBridgeClose_meets {s : State} {n : Ch} (htwin : s.twinCh n = true) (htrip : s.flag (F.CONT_STAT_TRIP_ON n) = true)
    (hhold : s.flag (F.CONT_STAT_HOLD_POS n) = true) (htest : s.testWindow n = false) (hnone : (s.ch n).twin.pTripAt = none)
    (hever : s.twin.everHb = true) (hlink : s.flag F.TWIN_STAT_LINK = true) (hbeat : s.tb - s.twin.lastHb ≤ 3100000) :
    execBridgeClose n s = .next (s.setBridge n true) := by
  simp only [execBridgeClose, happen, htwin, htrip, hhold, htest, hnone, hever, hlink, hbeat, Bool.true_or, Bool.not_false,
    and_self, if_true]

theorem doHandover_owned {u : State} {v : Word}
    (hall : (allCh.filter (fun n => bit v n.val)).all (fun n =>
      u.owns n && u.chState n == stISOLATED && u.flag F.TWIN_STAT_READY) = true) :
    u.doHandover v = (.ok, (allCh.filter (fun n => bit v n.val)).foldl (fun t n =>
      ((t.twinSend 2 [2, n.val, 0, 0]).dropClaim n).modTwin n (fun w => { w with standby := true })) u) := if_pos hall

/-- Settles O51: each command in its conditions. -/
theorem twinOwnership : Obligations.TwinOwnership := by
  unfold Obligations.TwinOwnership
  refine ⟨fun s n htwin => ⟨execOwnerInChange_ends htwin, execOwnerInChange_held htwin, execOwnerInChange_standby htwin⟩,
    fun s n => ?_, fun s n hout hdue => congrArg _ (if_pos ⟨hout, hdue⟩), fun s n htwin hcarries hgone hbeat hdown => ?_,
    fun s n htwin hcarries hdown => ?_, fun s n htaking hout hgood => congrArg _ (if_pos ⟨htaking, hout, hgood⟩),
    fun s n htwin htrip hhold htest hnone hever hlink hbeat =>
      execBridgeClose_meets htwin htrip hhold htest hnone hever hlink hbeat,
    fun s => ?_, fun s src v => ?_⟩
  · intro w htwin hlock hto hin hout hquiet hcarries a b
    have hexec := execClaimStart_due htwin hlock hto hin hout hquiet hcarries
    exact ⟨fun htaking => hexec.trans (by rw [htaking]; exact congrArg _ (claimGoes_new b n)), fun htaking hring => hexec.trans (by rw [htaking]; exact congrArg _ (claimGoes_survivor hring))⟩
  · intro u hubeat howns hout howned
    refine (execLost_unclaimed htwin hcarries (by rw [hgone]; rfl) hubeat howns hout).trans (congrArg _ (if_pos ⟨howned, ?_⟩))
    exact congrArg not hdown
  · intro u hubeat howns hout
    refine (execLost_unclaimed htwin hcarries (by rw [hdown, Bool.or_true]) hubeat howns hout).trans (congrArg _ (if_neg ?_))
    exact fun h => Bool.false_ne_true ((congrArg not hdown).symm.trans h.2)
  · intro l hsome hall
    exact congrArg _ (if_pos ⟨hsome, hall⟩)
  · intro u l hgate hall
    exact answer_gated_ok hgate (doHandover_owned hall)

end Sys2Proof.Machine
end
section
/-! PROOFS. What the estimator's tasks rest on: rounding that keeps order, folds that bound, the cells of a channel. -/

namespace Sys2Proof.Machine
open Sys2Proof

/-! ## Numbers -/

theorem clampR_mem (x : Rat) : 0 ≤ clampR x 0 1 ∧ clampR x 0 1 ≤ 1 := by
  unfold clampR
  split
  · constructor <;> norm_num
  · split
    · constructor <;> norm_num
    · constructor <;> linarith

theorem clampR_mono {x y : Rat} (h : x ≤ y) : clampR x 0 1 ≤ clampR y 0 1 := by
  by_cases hx : x < 0
  · rw [clampR, if_pos hx]
    exact (clampR_mem y).1
  · by_cases hy : 1 < y
    · rw [clampR.eq_1 y, if_neg (by linarith), if_pos hy]
      exact (clampR_mem x).2
    · rw [clampR, clampR, if_neg hx, if_neg (by linarith), if_neg (by linarith), if_neg hy]
      exact h

theorem roundHalf_eq (q : Rat) : roundHalf q = if q < 0 then -⌊-q + 1 / 2⌋ else ⌊q + 1 / 2⌋ := rfl

theorem roundHalf_mono {q r : Rat} (h : q ≤ r) : roundHalf q ≤ roundHalf r := by
  rw [roundHalf_eq, roundHalf_eq]
  by_cases hq : q < 0
  · by_cases hr : r < 0
    · rw [if_pos hq, if_pos hr]
      exact neg_le_neg (Int.floor_le_floor (by linarith))
    · have hneg : 0 ≤ ⌊-q + 1 / 2⌋ := Int.floor_nonneg.mpr (by linarith)
      have hpos : 0 ≤ ⌊r + 1 / 2⌋ := Int.floor_nonneg.mpr (by linarith)
      rw [if_pos hq, if_neg hr]
      linarith
  · rw [if_neg hq, if_neg (by linarith)]
    exact Int.floor_le_floor (by linarith)

theorem pct_mono {x y : Rat} (h : x ≤ y) : pct x ≤ pct y :=
  Int.toNat_le_toNat (roundHalf_mono (by linarith [clampR_mono h]))

theorem cAh_mono {x y : Rat} (h : x ≤ y) : cAh x ≤ cAh y :=
  min_le_min_left _ (Int.toNat_le_toNat (roundHalf_mono (by linarith)))

/-- A fold that keeps the better of what it has and the next bounds its start and every element. -/
theorem foldl_bound {α β : Type} {r : β → β → Prop} (hrefl : ∀ x, r x x) (htrans : ∀ x y z, r x y → r y z → r x z) {g : α → β}
    {pick : β → α → β} (hpick : ∀ b a, r (pick b a) b ∧ r (pick b a) (g a)) (l : List α) (b : β) :
    r (l.foldl pick b) b ∧ ∀ a ∈ l, r (l.foldl pick b) (g a) := by
  induction l generalizing b with
  | nil => exact ⟨hrefl b, fun a ha => absurd ha List.not_mem_nil⟩
  | cons c l ih =>
    obtain ⟨hstart, hrest⟩ := ih (pick b c)
    obtain ⟨hb, hc⟩ := hpick b c
    refine ⟨htrans _ _ _ hstart hb, fun a ha => ?_⟩
    obtain rfl | ha := List.mem_cons.mp ha
    · exact htrans _ _ _ hstart hc
    · exact hrest a ha

/-- The element with the least value, and the one with the greatest. -/
theorem foldl_argmin (f : Nat → Rat) (l : List Nat) (i0 : Nat) :
    ∀ i ∈ l, f (l.foldl (fun a i => if f i < f a then i else a) i0) ≤ f i :=
  (foldl_bound (r := fun x y => f x ≤ f y) (g := id) (fun _ => le_refl _) (fun _ _ _ => le_trans)
    (fun _ _ => by dsimp only [id]; split <;> constructor <;> linarith) l i0).2

theorem foldl_argmax (f : Nat → Rat) (l : List Nat) (i0 : Nat) :
    ∀ i ∈ l, f i ≤ f (l.foldl (fun a i => if f a < f i then i else a) i0) :=
  (foldl_bound (r := fun x y => f y ≤ f x) (g := id) (fun _ => le_refl _) (fun _ _ _ h1 h2 => le_trans h2 h1)
    (fun _ _ => by dsimp only [id]; split <;> constructor <;> linarith) l i0).2

theorem foldl_minR (f : Nat → Rat) (l : List Nat) (x : Rat) : ∀ i ∈ l, l.foldl (fun a i => minR a (f i)) x ≤ f i :=
  (foldl_bound (r := (· ≤ ·)) (g := f) le_refl (fun _ _ _ => le_trans)
    (fun _ _ => by unfold minR; split <;> constructor <;> linarith) l x).2

theorem foldl_max (f : Nat → Nat) (l : List Nat) (x : Nat) : ∀ i ∈ l, f i ≤ l.foldl (fun a i => max a (f i)) x :=
  (foldl_bound (r := (· ≥ ·)) (g := f) le_refl (fun _ _ _ => ge_trans)
    (fun _ _ => ⟨le_max_left _ _, le_max_right _ _⟩) l x).2

theorem foldl_max_le {f : Nat → Nat} {l : List Nat} {x top : Nat} (hx : x ≤ top) (hf : ∀ i, f i ≤ top) :
    l.foldl (fun a i => max a (f i)) x ≤ top := by
  induction l generalizing x with
  | nil => exact hx
  | cons i l ih => exact ih (max_le hx (hf i))

/-! ## Cells (R224) -/

/-- How many cells a pass over a channel's cells reaches. -/
def State.cellCount (s : State) (n : Ch) : Nat := max (s.ch n).est.cells.length (16 * s.get (F.RING_STAT_TILES n))

theorem cells_mapCells (s : State) (n : Ch) (f : Nat → EstCell → EstCell) :
    ((s.mapCells n f).ch n).est.cells = (List.range (s.cellCount n)).map (fun i => f i (s.estCell n i)) := by
  simp [State.mapCells, State.cellCount]

theorem estCell_mapCells (s : State) (n : Ch) (f : Nat → EstCell → EstCell) {i : Nat} (hi : i < s.cellCount n) :
    (s.mapCells n f).estCell n i = f i (s.estCell n i) := by
  rw [State.estCell, cells_mapCells]
  simp [List.getD, hi]

/-- Cells and chemistry alike, the cell read is alike. -/
theorem estCell_congr {s t : State} {n : Ch} (hcells : (t.ch n).est.cells = (s.ch n).est.cells)
    (hchem : (t.ch n).est.chem = (s.ch n).est.chem) (i : Nat) : t.estCell n i = s.estCell n i := by
  rw [State.estCell, State.estCell, State.cRated, State.cRated, hcells, hchem]

theorem grade_le (c : EstCell) : c.grade ≤ 3 := by
  unfold EstCell.grade
  dsimp only
  split
  · exact le_refl 3
  · split
    · exact min_le_left _ _
    · split
      · decide
      · split
        · decide
        · split <;> decide

/-! ## Aggregates (R232) -/

/-- The cells that have a SoC. -/
def State.socCells (s : State) (n : Ch) : List Nat :=
  (List.range (s.ch n).est.cells.length).filter (fun i => (s.estCell n i).init && (s.ch n).pour.deliv.cellQ.getD i 4 != 4)

/-- What the published aggregates say of the cells with a SoC. -/
structure AggBounds (s : State) (n : Ch) (p : EstPub) : Prop where
  ncells : p.ncells = (s.socCells n).length
  grade : p.gradeMin ≤ 3
  none : s.socCells n = [] → p.socMin = 0xFFFF ∧ p.socMean = 0xFFFF ∧ p.socMax = 0xFFFF ∧ p.socStr = 0xFFFF ∧ p.gradeMin = 3
  bounds : ∀ i ∈ s.socCells n, let c := s.estCell n i
    p.socMin ≤ pct c.socPub ∧ pct c.socPub ≤ p.socMax ∧ p.ahDis ≤ cAh (c.socPub * c.q) ∧ p.ahChg ≤ cAh ((1 - c.socPub) * c.q)
    ∧ c.grade ≤ p.gradeMin ∧ (c.extrap = true → p.extrapAny = true)

theorem aggregate_epoch (s : State) (n : Ch) (epoch : Nat) : (s.aggregate n epoch).aggEpoch = epoch := by
  unfold State.aggregate
  dsimp only
  split <;> rfl

theorem aggregate_bounds (s : State) (n : Ch) (epoch : Nat) : AggBounds s n (s.aggregate n epoch) := by
  unfold State.aggregate
  dsimp only
  split
  next hl =>
    have hnil : s.socCells n = [] := hl
    exact ⟨by rw [hnil]; rfl, le_refl 3, fun _ => ⟨rfl, rfl, rfl, rfl, rfl⟩, fun i hi => absurd (hnil ▸ hi) List.not_mem_nil⟩
  next i0 l hl =>
    have hcons : s.socCells n = i0 :: l := hl
    refine ⟨rfl, foldl_max_le (Nat.zero_le 3) fun i => grade_le _, fun hnil => by simp [hcons] at hnil, fun i hi => ?_⟩
    refine ⟨pct_mono (foldl_argmin (fun i => (s.estCell n i).socPub) _ i0 i hi),
      pct_mono (foldl_argmax (fun i => (s.estCell n i).socPub) _ i0 i hi),
      cAh_mono (foldl_minR (fun i => (s.estCell n i).socPub * (s.estCell n i).q) _ _ i hi),
      cAh_mono (foldl_minR (fun i => (1 - (s.estCell n i).socPub) * (s.estCell n i).q) _ _ i hi),
      foldl_max (fun i => (s.estCell n i).grade) _ 0 i hi, fun hextrap => List.any_eq_true.mpr ⟨i, hi, hextrap⟩⟩

/-! ## What the estimator's tasks leave: the channel's epochs and its chemistry -/

/-- From s to t the sampling part of the channel and its chemistry stay. -/
structure EstStays (n : Ch) (s t : State) : Prop where
  pour : (t.ch n).pour = (s.ch n).pour
  chem : (t.ch n).est.chem = (s.ch n).est.chem

namespace EstStays

variable {n : Ch} {s t u : State}

theorem refl (s : State) : EstStays n s s := ⟨rfl, rfl⟩

theorem of_ch (h : EstStays n s t) (hch : u.ch n = t.ch n) : EstStays n s u := ⟨hch ▸ h.pour, hch ▸ h.chem⟩

theorem ite {c : Prop} {_ : Decidable c} (h1 : EstStays n s t) (h2 : EstStays n s u) : EstStays n s (if c then t else u) := by
  split <;> assumption

theorem thenIf {c : Prop} {_ : Decidable c} (h : EstStays n s t) (hu : EstStays n s t → EstStays n s u) :
    EstStays n s (if c then u else t) := ite (hu h) h

/-- A change of the estimator's part that keeps the chemistry. -/
theorem modEst (h : EstStays n s t) {f : EstS → EstS} (hf : ∀ e, (f e).chem = e.chem := by exact fun _ => rfl) :
    EstStays n s (t.modEst n f) := ⟨by simpa using h.pour, by simpa [hf] using h.chem⟩

theorem put (h : EstStays n s t) {f : RF} {v : Nat} : EstStays n s (t.put f v) := h.of_ch rfl
theorem putB (h : EstStays n s t) {f : RF} {b : Bool} : EstStays n s (t.putB f b) := h.of_ch rfl
theorem raise (h : EstStays n s t) {pg : PageRef} {b : Nat} : EstStays n s (t.raise pg b) := h.of_ch (ch_raise t pg b n)
theorem incSat (h : EstStays n s t) {f : RF} : EstStays n s (t.incSat f) := h.of_ch rfl
theorem openShow (h : EstStays n s t) : EstStays n s (t.openShow n) := h.put
theorem mapCells (h : EstStays n s t) {f : Nat → EstCell → EstCell} : EstStays n s (t.mapCells n f) := h.modEst
theorem disqualify (h : EstStays n s t) {code : Nat} {p : Nat → EstCell → Bool} : EstStays n s (t.disqualify n code p) :=
  ite h h.modEst.put.put.raise.openShow

theorem learnChecks (h : EstStays n s t) {b : EpochBuf} : EstStays n s (t.learnChecks n b) := by
  unfold State.learnChecks
  dsimp only
  refine disqualify (disqualify ?_)
  refine thenIf (disqualify ?_) (·.disqualify)
  refine thenIf ?_ (·.disqualify)
  exact thenIf h.disqualify (·.disqualify)

theorem restCheck (h : EstStays n s t) {b : EpochBuf} : EstStays n s (t.restCheck n b) := by
  unfold State.restCheck
  dsimp only
  split
  · exact h.modEst
  · exact ite h.modEst h.modEst

theorem aggEpoch1 (h : EstStays n s t) {x : AggIn} {cur : Rat} : EstStays n s (t.aggEpoch1 n x cur) :=
  h.mapCells.learnChecks.restCheck

theorem aggRun (h : EstStays n s t) {l : List AggIn} {last : Rat} : EstStays n s (t.aggRun n l last) := by
  unfold State.aggRun
  induction l generalizing t last with
  | nil => exact h
  | cons x l ih =>
    rw [List.foldl_cons]
    exact ih (h.aggEpoch1 (x := x))

end EstStays

/-! ## The aggregate task (R232, R234) -/

/-- A task of the estimator on a delivered epoch, EST being enabled. -/
def State.estReady (s : State) (n : Ch) : Prop :=
  (s.ch n).twin.standby = false ∧ (s.ch n).pour.deliv.valid = true ∧ s.enabled (pgEST n) = true

/-- The channel once the waiting epochs are taken. -/
def State.aggTaken (s : State) (n : Ch) : State :=
  ((s.modEst n (fun e => { e with prevWin := s.estWin n, prevStat := s.reg (R.EST_STAT n) })).aggRun n (s.ch n).est.aggPend
    (s.ch n).est.iAgg).modEst n (fun e => { e with aggPend := [], iAgg := e.iValid })

/-- The aggregates p of an epoch are published. -/
def State.aggPublish (u : State) (n : Ch) (b : EpochBuf) (p : EstPub) : State :=
  (((u.modEst n (fun e => { e with pub := p })).seqPage (pgEST n) b.epoch b.holdover).put (F.EST_STAT_GRADE_MIN n)
    p.gradeMin).putB (F.EST_STAT_EXTRAP n) p.extrapAny

theorem execAggregateTask_ready {s : State} {n : Ch} (hready : s.estReady n) :
    execAggregateTask n s = .next ((s.aggTaken n).aggPublish n (s.ch n).pour.deliv
      ((s.aggTaken n).aggregate n (s.ch n).pour.deliv.epoch)) := by
  obtain ⟨hown, hvalid, hen⟩ := hready
  have hskip : ¬ ((!(s.ch n).pour.deliv.valid) = true ∨ (!s.enabled (pgEST n)) = true) := by simp [hvalid, hen]
  exact congrArg _ ((if_neg (by simp [hown])).trans (if_neg hskip))

theorem aggTaken_stays (s : State) (n : Ch) : EstStays n s (s.aggTaken n) := (EstStays.refl s).modEst.aggRun.modEst

theorem ch_aggPublish (u : State) (n : Ch) (b : EpochBuf) (p : EstPub) :
    (u.aggPublish n b p).ch n = { u.ch n with est := { (u.ch n).est with pub := p } } := by
  rw [State.aggPublish, State.seqPage, ch_putB, ch_put, ch_putB, ch_setReg]
  exact ch_modCh_same u n _

/-- The fields of EST.STAT that show the aggregates. -/
theorem get_aggPublish (u : State) (n : Ch) (b : EpochBuf) {p : EstPub} (hgrade : p.gradeMin ≤ 3) :
    (u.aggPublish n b p).get (F.EST_STAT_GRADE_MIN n) = p.gradeMin ∧ (u.aggPublish n b p).flag (F.EST_STAT_EXTRAP n) = p.extrapAny := by
  have hok : (F.EST_STAT_GRADE_MIN n).ok ∧ (F.EST_STAT_EXTRAP n).ok := by simp [RF.ok, F.EST_STAT_GRADE_MIN, F.EST_STAT_EXTRAP]
  have happart : (F.EST_STAT_EXTRAP n).apart (F.EST_STAT_GRADE_MIN n) := .inr (by simp [F.EST_STAT_GRADE_MIN, F.EST_STAT_EXTRAP])
  refine ⟨?_, flag_putB_same _ _ _ hok.2⟩
  rw [State.aggPublish, get_putB_ne _ _ _ _ hok.2 happart, get_put_same _ _ _ hok.1]
  exact Nat.mod_eq_of_lt (Nat.lt_succ_of_le hgrade)

/-- What the cells and the epochs of a channel show does not hang on the aggregates published. -/
theorem aggPublish_cells (u : State) (n : Ch) (b : EpochBuf) (p : EstPub) :
    ((u.aggPublish n b p).ch n).est.pub = p ∧ ((u.aggPublish n b p).ch n).est.aggPend = (u.ch n).est.aggPend
    ∧ ((u.aggPublish n b p).ch n).est.cells = (u.ch n).est.cells ∧ ((u.aggPublish n b p).ch n).pour = (u.ch n).pour
    ∧ ∀ i, (u.aggPublish n b p).estCell n i = u.estCell n i := by
  have hch := ch_aggPublish u n b p
  refine ⟨by rw [hch], by rw [hch], by rw [hch], by rw [hch], fun i => estCell_congr (by rw [hch]) (by rw [hch]) i⟩

/-- The aggregates of an epoch, as the state after the task shows them. -/
theorem aggPublish_shows {s : State} {n : Ch} :
    let b := (s.ch n).pour.deliv
    let u := s.aggTaken n
    let t := u.aggPublish n b (u.aggregate n b.epoch)
    (t.ch n).pour = (s.ch n).pour ∧ (t.ch n).est.aggPend = []
      ∧ let p := (t.ch n).est.pub
        let l := (List.range (t.ch n).est.cells.length).filter (fun i => (t.estCell n i).init && b.cellQ.getD i 4 != 4)
        p.aggEpoch = b.epoch ∧ p.ncells = l.length ∧ t.get (F.EST_STAT_GRADE_MIN n) = p.gradeMin
        ∧ t.flag (F.EST_STAT_EXTRAP n) = p.extrapAny
        ∧ (l = [] → p.socMin = 0xFFFF ∧ p.socMean = 0xFFFF ∧ p.socMax = 0xFFFF ∧ p.socStr = 0xFFFF ∧ p.gradeMin = 3)
        ∧ (∀ i ∈ l, let c := t.estCell n i
          p.socMin ≤ pct c.socPub ∧ pct c.socPub ≤ p.socMax ∧ p.ahDis ≤ cAh (c.socPub * c.q) ∧ p.ahChg ≤ cAh ((1 - c.socPub) * c.q)
          ∧ c.grade ≤ p.gradeMin ∧ (c.extrap = true → p.extrapAny = true)) := by
  intro b u t
  have hstay := aggTaken_stays s n
  have hpend : (u.ch n).est.aggPend = [] := by simp [u, State.aggTaken]
  have hepoch := aggregate_epoch u n b.epoch
  have hbounds := aggregate_bounds u n b.epoch
  obtain ⟨hpub, hpend', hcells, hpour, hcell⟩ := aggPublish_cells u n b (u.aggregate n b.epoch)
  have hget := get_aggPublish u n b hbounds.grade
  have hsoc : (List.range (t.ch n).est.cells.length).filter (fun i => (t.estCell n i).init && b.cellQ.getD i 4 != 4)
      = u.socCells n := by
    simp only [t, State.socCells, hcells, hcell, u, b, hstay.pour]
  refine ⟨hpour.trans hstay.pour, hpend'.trans hpend, ?_⟩
  intro p l
  have hp : p = u.aggregate n b.epoch := hpub
  have hl : l = u.socCells n := hsoc
  rw [hp, hl]
  refine ⟨hepoch, hbounds.ncells, hget.1, hget.2, hbounds.none, fun i hi => ?_⟩
  rw [hcell i]
  exact hbounds.bounds i hi

end Sys2Proof.Machine
end
section
/-! PROOFS. The estimator's filter (R224 to R227), state of power (R233), rest points (R234, R236), lateness, ages,
calibration (R231) and record (R239). -/

namespace Sys2Proof.Machine
open Sys2Proof

/-! ## The filter update (R224 to R227) -/

theorem init_kfPredict (s : State) (n : Ch) (k : KfCtx) (valid : Bool) (i : Rat) (c : EstCell) :
    (s.kfPredict n k valid i c).init = c.init := rfl

/-- The prediction keeps what is initialised. -/
theorem init_kfGroup (s : State) (n : Ch) (k : KfCtx) (idx : Nat) (c : EstCell) : (s.kfGroup n k idx c).init = c.init := by
  have hfold : ∀ (l : List (Option Rat × List Nat)) (a : EstCell × Rat),
      (l.foldl (fun (a : EstCell × Rat) g =>
        let i0 := g.1.getD a.2
        (s.kfPredict n k g.1.isSome (i0 - s.bleed n (nth g.2 idx)) a.1, i0)) a).1.init = a.1.init := by
    intro l
    induction l with
    | nil => exact fun a => rfl
    | cons g l ih => exact fun a => (ih _).trans (init_kfPredict s n k _ _ _)
  exact hfold _ _

theorem init_kfPred (s : State) (n : Ch) (b : EpochBuf) (iLast : Rat) (i : Nat) :
    (s.kfPred n b iLast i).1.init = (s.estCell n i).init := by
  unfold State.kfPred
  dsimp only
  split
  · exact init_kfGroup s n _ i _
  · rfl

theorem init_capacity (c : EstCell) : c.capacity.init = c.init := by
  unfold EstCell.capacity
  split <;> rfl

/-- What an update makes of a cell with a measurement: an initialised filter within its range. -/
structure Updated (was d : EstCell) : Prop where
  init : d.init = true
  noUpd : d.noUpd = false
  low : 0 ≤ d.soc
  high : d.soc ≤ 1
  pub : d.socPub = d.soc
  fresh : was.init = false → d.v1 = 0 ∧ d.v2 = 0 ∧ (d.p00, d.p11, d.p22) = (1 / 100, 1 / 10000, 1 / 10000)
    ∧ (d.p01, d.p02, d.p12) = (0, 0, 0)

section
variable {s : State} {n : Ch} {b : EpochBuf} {rv : Rat} {pred : List (EstCell × KfCtx × Rat)} {i : Nat} {c : EstCell} {k : KfCtx}
  {cur : Rat} (hpred : pred[i]? = some (c, k, cur))
include hpred

theorem kfCell_absent (hq : b.cellQ.getD i 4 = 4) : s.kfCell n b rv pred i = { s.estCell n i with noUpd := true } := by
  simp only [State.kfCell, hpred, hq, if_true]

theorem kfCell_measured (hq : b.cellQ.getD i 4 = 0) : Updated c (s.kfCell n b rv pred i) := by
  have hmeas : s.kfMeas n b rv pred i = some (b.volt i, rv) := by simp only [State.kfMeas, hq]
  have hcell : s.kfCell n b rv pred i = if c.init then
      { s.kfUpdate1 n (b.volt i) (s.yhat n k cur c) rv c with
        soc := clampR (s.kfUpdate1 n (b.volt i) (s.yhat n k cur c) rv c).soc 0 1
        socPub := clampR (s.kfUpdate1 n (b.volt i) (s.yhat n k cur c) rv c).soc 0 1 }
      else s.kfInit n k (b.volt i) cur c := by
    simp only [State.kfCell, hpred, hq, hmeas]
    rfl
  rw [hcell]
  cases hinit : c.init with
  | true => exact ⟨hinit, rfl, (clampR_mem _).1, (clampR_mem _).2, rfl, fun h => by rw [hinit] at h; cases h⟩
  | false => exact ⟨rfl, rfl, (clampR_mem _).1, (clampR_mem _).2, rfl, fun _ => ⟨rfl, rfl, rfl, rfl⟩⟩

theorem kfCell_predicted (hq : b.cellQ.getD i 4 = 1 ∨ b.cellQ.getD i 4 = 2) :
    (s.kfCell n b rv pred i).init = c.init ∧ (s.kfCell n b rv pred i).noUpd = true ∧ 0 ≤ (s.kfCell n b rv pred i).soc
      ∧ (s.kfCell n b rv pred i).soc ≤ 1 := by
  have hmeas : s.kfMeas n b rv pred i = none := by
    obtain hq | hq := hq <;> simp only [State.kfMeas, hq]
  have hthere : ¬ b.cellQ.getD i 4 = 4 := by omega
  have hcell : s.kfCell n b rv pred i = { c with noUpd := true, soc := clampR c.soc 0 1, socPub := clampR c.soc 0 1 } := by
    simp only [State.kfCell, hpred, hthere, hmeas, if_false]
  rw [hcell]
  exact ⟨rfl, rfl, clampR_mem _⟩

end

/-- The cells of a channel after an update: each from the predictions of all. -/
def State.kfCells (u : State) (n : Ch) (b : EpochBuf) (rv iLast : Rat) : List EstCell :=
  let pred := (List.range (u.ch n).est.cells.length).map (u.kfPred n b iLast)
  (List.range pred.length).map (u.kfCell n b rv pred)

/-- The filter task in the last epoch of its period (R224). -/
theorem kfUpdate_due {s : State} {n : Ch} (hready : s.estReady n) (hchem : (s.ch n).est.chemOk = true)
    (hdue : (s.ch n).pour.deliv.epoch % s.kfPeriod n = s.kfPeriod n - 1) (hgroup : (s.ch n).est.group ≠ []) :
    let u := s.mapCells n (fun _ c => c.capacity)
    ∃ rv iLast : Rat, execKfUpdate n s = .next (u.modEst n (fun e => { e with
      cells := u.kfCells n (s.ch n).pour.deliv rv iLast, group := [], iLast := iLast
      pub := { e.pub with kfEpoch := (s.ch n).pour.deliv.epoch }, aggPend := e.aggPend.map (fun x => { x with inKf := true }) })) := by
  obtain ⟨hown, hvalid, hen⟩ := hready
  have hskip : ¬ ((!(s.ch n).pour.deliv.valid) = true ∨ (!s.enabled (pgEST n)) = true ∨ (!(s.ch n).est.chemOk) = true
      ∨ (s.ch n).pour.deliv.epoch % s.kfPeriod n ≠ s.kfPeriod n - 1 ∨ (s.ch n).est.group = []) := by
    simp [hvalid, hen, hchem, hdue, hgroup]
  exact ⟨_, _, congrArg _ ((if_neg (by simp [hown])).trans (if_neg hskip))⟩

theorem getD_kfCells (u : State) (n : Ch) (b : EpochBuf) (rv iLast : Rat) {i : Nat} (hi : i < (u.ch n).est.cells.length) (d : EstCell) :
    ∃ pred k cur, pred[i]? = some ((u.kfPred n b iLast i).1, k, cur) ∧ (u.kfCells n b rv iLast).getD i d = u.kfCell n b rv pred i := by
  have hpred : ((List.range (u.ch n).est.cells.length).map (u.kfPred n b iLast))[i]? = some (u.kfPred n b iLast i) := by
    simp [hi]
  refine ⟨_, _, _, hpred, ?_⟩
  simp [State.kfCells, List.getD, hi]

/-! ## The state of power (R233) -/

/-- A cell's current limits at the three horizons, for charge or discharge. -/
def State.sopLims (s : State) (n : Ch) (chg : Bool) (i : Nat) : List Nat := [0, 1, 2].map (s.sopCell n (s.ch n).pour.deliv i chg)

/-- The string's limit at a horizon: the least of IRATED and of the cells' limits. -/
def State.sopString (s : State) (n : Ch) (chg : Bool) (k : Nat) : Nat :=
  ((s.sopCells n (s.ch n).pour.deliv).map (fun i => (i, s.sopLims n true i, s.sopLims n false i))).foldl
    (fun a r => min a (nth (if chg then r.2.1 else r.2.2) k)) (s.get (F.CTLE_STAGE_IRATED n))

/-- The string's power at that limit, W. -/
def State.sopPower (s : State) (n : Ch) (chg : Bool) (k : Nat) : Nat :=
  let a := s.sopString n chg k
  let sg : Rat := if chg then 1 else -1
  (roundHalf ((a : Rat) * sumR ((s.sopCells n (s.ch n).pour.deliv).map (fun i =>
    s.sopV n i chg (nth horizons k) (sg * a))))).toNat

theorem sopUpdate_due {s : State} {n : Ch} (hready : s.estReady n) (hchem : (s.ch n).est.chemOk = true)
    (hdue : (s.ch n).pour.deliv.epoch % 100 = 99) (hcells : s.sopCells n (s.ch n).pour.deliv ≠ []) :
    ∃ f : Nat → EstCell → EstCell, execSopUpdate n s = .next ((s.mapCells n f).modEst n (fun e =>
      { e with pub := { e.pub with
        sopEpoch := (s.ch n).pour.deliv.epoch
        curLim := ([0, 1, 2].map (s.sopString n true) ++ [0, 1, 2].map (s.sopString n false)).map (· * 1000)
        powLim := [0, 1, 2].map (s.sopPower n true) ++ [0, 1, 2].map (s.sopPower n false) } })) := by
  obtain ⟨hown, hvalid, hen⟩ := hready
  have hskip : ¬ ((!(s.ch n).pour.deliv.valid) = true ∨ (!s.enabled (pgEST n)) = true ∨ (!(s.ch n).est.chemOk) = true
      ∨ (s.ch n).pour.deliv.epoch % 100 ≠ 99 ∨ s.sopCells n (s.ch n).pour.deliv = []) := by
    simp [hvalid, hen, hchem, hdue, hcells]
  exact ⟨_, congrArg _ ((if_neg (Bool.eq_false_iff.mp hown)).trans (if_neg hskip))⟩

theorem sopString_le (s : State) (n : Ch) (chg : Bool) (k : Nat) :
    s.sopString n chg k ≤ s.get (F.CTLE_STAGE_IRATED n)
      ∧ ∀ i ∈ s.sopCells n (s.ch n).pour.deliv, s.sopString n chg k ≤ nth (s.sopLims n chg i) k := by
  obtain ⟨htop, hall⟩ := foldl_bound (r := (· ≤ ·)) (g := fun r : Nat × List Nat × List Nat => nth (if chg then r.2.1 else r.2.2) k)
    (pick := fun a r => min a (nth (if chg then r.2.1 else r.2.2) k)) le_refl (fun _ _ _ => le_trans)
    (fun _ _ => ⟨min_le_left _ _, min_le_right _ _⟩)
    ((s.sopCells n (s.ch n).pour.deliv).map (fun i => (i, s.sopLims n true i, s.sopLims n false i))) (s.get (F.CTLE_STAGE_IRATED n))
  refine ⟨htop, fun i hi => ?_⟩
  have hcell := hall _ (List.mem_map_of_mem hi)
  cases chg <;> exact hcell

theorem nth_sopLims (s : State) (n : Ch) (chg : Bool) (i : Nat) {k : Nat} (hk : k < 3) :
    nth (s.sopLims n chg i) k = s.sopCell n (s.ch n).pour.deliv i chg k := by
  obtain rfl | rfl | rfl : k = 0 ∨ k = 1 ∨ k = 2 := by omega
  all_goals rfl

/-- The string limits of a table of six, mA. -/
theorem nth_curLim (f g : Nat → Nat) {k : Nat} (hk : k < 3) :
    nth (([0, 1, 2].map f ++ [0, 1, 2].map g).map (· * 1000)) k = f k * 1000
      ∧ nth (([0, 1, 2].map f ++ [0, 1, 2].map g).map (· * 1000)) (3 + k) = g k * 1000 := by
  obtain rfl | rfl | rfl : k = 0 ∨ k = 1 ∨ k = 2 := by omega
  all_goals exact ⟨rfl, rfl⟩

/-! ## Rest points (R234 to R236) -/

/-- A cell without what learning may change at a rest point. -/
def EstCell.core (c : EstCell) : EstCell := { c with cycle := none, qNew := none }

/-- From s to t the channel has the same cells but for their open cycles and learned capacities. -/
structure SameCores (n : Ch) (s t : State) : Prop where
  chem : (t.ch n).est.chem = (s.ch n).est.chem
  length : (t.ch n).est.cells.length = (s.ch n).est.cells.length
  core : ∀ i, (t.estCell n i).core = (s.estCell n i).core

/-- A change of the estimator's part hangs on what it makes of the part that is there. -/
theorem modEst_congr {t : State} {n : Ch} {f g : EstS → EstS} (h : f (t.ch n).est = g (t.ch n).est) :
    t.modEst n f = t.modEst n g := by
  simp only [State.modEst, State.modCh, h]

theorem setAt_eq_set {α : Type} (d : α) {l : List α} {i : Nat} (hi : i < l.length) (v : α) : setAt d l i v = l.set i v := by
  induction l generalizing i with
  | nil => exact absurd hi (Nat.not_lt_zero i)
  | cons h t ih =>
    cases i with
    | zero => rfl
    | succ i => exact congrArg (List.cons h) (ih (Nat.lt_of_succ_lt_succ hi))

namespace SameCores

variable {n : Ch} {s t u : State}

theorem refl (s : State) : SameCores n s s := ⟨rfl, rfl, fun _ => rfl⟩

theorem trans (h1 : SameCores n s t) (h2 : SameCores n t u) : SameCores n s u :=
  ⟨h2.chem.trans h1.chem, h2.length.trans h1.length, fun i => (h2.core i).trans (h1.core i)⟩

/-- A step that keeps the cells and the chemistry. -/
theorem keep (h : SameCores n s t) (hcells : (u.ch n).est.cells = (t.ch n).est.cells)
    (hchem : (u.ch n).est.chem = (t.ch n).est.chem) : SameCores n s u :=
  h.trans ⟨hchem, by rw [hcells], fun i => by rw [estCell_congr hcells hchem]⟩

theorem of_ch (h : SameCores n s t) (hch : u.ch n = t.ch n) : SameCores n s u := h.keep (by rw [hch]) (by rw [hch])

theorem ite {c : Prop} {_ : Decidable c} (h1 : SameCores n s t) (h2 : SameCores n s u) : SameCores n s (if c then t else u) := by
  split <;> assumption

/-- New cells with the cores of the old ones. -/
theorem setCells (h : SameCores n s t) {l : List EstCell} (hlen : l.length = (t.ch n).est.cells.length)
    (hcore : ∀ i, i < l.length → (l.getD i (EstCell.fresh (t.cRated n))).core = (t.estCell n i).core) :
    SameCores n s (t.modEst n (fun e => { e with cells := l })) := by
  have hcells : ((t.modEst n (fun e => { e with cells := l })).ch n).est.cells = l := by simp
  have hchem : ((t.modEst n (fun e => { e with cells := l })).ch n).est.chem = (t.ch n).est.chem := by simp
  refine h.trans ⟨hchem, by rw [hcells, hlen], fun i => ?_⟩
  have hfresh : (t.modEst n (fun e => { e with cells := l })).cRated n = t.cRated n := by rw [State.cRated, State.cRated, hchem]
  rw [State.estCell, hcells, hfresh]
  by_cases hi : i < l.length
  · exact hcore i hi
  · rw [State.estCell, List.getD_eq_default _ _ (Nat.not_lt.mp hi), List.getD_eq_default _ _ (by rw [← hlen]; exact Nat.not_lt.mp hi)]

theorem put (h : SameCores n s t) {f : RF} {v : Nat} : SameCores n s (t.put f v) := h.of_ch rfl
theorem incSat (h : SameCores n s t) {f : RF} : SameCores n s (t.incSat f) := h.of_ch rfl
theorem raise (h : SameCores n s t) {pg : PageRef} {b : Nat} : SameCores n s (t.raise pg b) := h.of_ch (ch_raise t pg b n)
theorem openShow (h : SameCores n s t) : SameCores n s (t.openShow n) := h.put

theorem disqualify (h : SameCores n s t) {code : Nat} {p : Nat → EstCell → Bool} : SameCores n s (t.disqualify n code p) := by
  refine ite h (h.setCells (by simp) fun i hi => ?_).put.put.raise.openShow
  simp only [List.length_map, List.length_range] at hi
  simp only [List.getD, List.getElem?_map, List.getElem?_range hi, Option.map_some, Option.getD_some]
  split <;> rfl

/-- One cell takes another open cycle or learned capacity. -/
theorem setCell (h : SameCores n s t) {i : Nat} (hi : i < (t.ch n).est.cells.length) {c : EstCell}
    (hc : c.core = (t.estCell n i).core) : SameCores n s (t.modEst n (fun e => { e with cells := setAt c e.cells i c })) := by
  have hmod : t.modEst n (fun e => { e with cells := setAt c e.cells i c })
      = t.modEst n (fun e => { e with cells := (t.ch n).est.cells.set i c }) :=
    modEst_congr (congrArg (fun l => { (t.ch n).est with cells := l }) (setAt_eq_set c hi c))
  rw [hmod]
  refine h.setCells (by simp) fun j hj => ?_
  by_cases hji : i = j
  · subst hji
    simp [List.getD, hi, hc]
  · simp [List.getD, List.getElem?_set_ne hji, State.estCell]

theorem writeDue (h : SameCores n s t) : SameCores n s (t.modEst n (fun e => { e with writeDue := true })) :=
  h.keep (by simp) (by simp)

theorem learnCell (h : SameCores n s t) {i : Nat} (hi : i < (t.ch n).est.cells.length) (cur : Rat) :
    SameCores n s (t.learnCell n cur i) := by
  unfold State.learnCell
  dsimp only
  split
  · exact h
  · split
    · exact h.setCell hi rfl
    · split
      · exact h
      · split
        · refine writeDue (raise (incSat (h.setCell hi ?_)))
          rfl
        · have hdisq : SameCores n t (t.disqualify n 9 (fun j _ => j == i)) := (refl t).disqualify
          exact h.trans (hdisq.setCell (hdisq.length ▸ hi) (hdisq.core i).symm)

theorem learnCells (h : SameCores n s t) (cur : State → Nat → Rat) {l : List Nat}
    (hl : ∀ i ∈ l, i < (s.ch n).est.cells.length) : SameCores n s (l.foldl (fun t i => t.learnCell n (cur t i) i) t) := by
  induction l generalizing t with
  | nil => exact h
  | cons i l ih =>
    rw [List.forall_mem_cons] at hl
    obtain ⟨hi, hl⟩ := hl
    rw [List.foldl_cons]
    exact ih (h.learnCell (h.length ▸ hi) _) hl

end SameCores

/-- The cells that a rest point updates (R234). -/
def State.restTakes (s : State) (n : Ch) (i : Nat) (c : EstCell) : Bool :=
  c.init && decide (10 ≤ c.measRun) && (s.ch n).pour.deliv.cellQ.getD i 4 == 0

/-- The channel's cells after a rest point: the update, then learning. -/
def State.restCells (s : State) (n : Ch) : State :=
  (((List.range (s.ch n).est.cells.length).filter (fun i => s.restTakes n i (s.estCell n i))).foldl (fun t i =>
    t.learnCell n (((s.ch n).pour.deliv.istr.toInt : Rat) / 1000 - t.bleed n (nth (t.ch n).bal.applied i)) i)
    (s.mapCells n (fun i c => if s.restTakes n i c then s.restUpdate n ((s.ch n).pour.deliv.volt i) c else c))).openShow n

/-- The rest conditions start anew at time now (R234, R235). -/
def State.restAnew (u : State) (n : Ch) (now : Nat) : State :=
  ((u.modEst n (fun e => { e with restT0 := some now, restTmin := [], restTmax := [], restHourAt := now })).put
    (F.EST_STAT_REST_AGE n) 0).putB (F.EST_STAT_REST_NEEDED n) false

theorem execRestPoint_due {s : State} {n : Ch} {t0 : Nat} (hown : (s.ch n).twin.standby = false)
    (hrest : (s.ch n).est.restT0 = some t0) (hdue : 900000000000 ≤ s.tb - t0) (hpend : (s.ch n).est.aggPend = [])
    (hen : s.enabled (pgEST n) = true) : execRestPoint n s = .next ((s.restCells n).restAnew n s.tb) := by
  have hpassed : s.passedMs t0 900000 = true := by simpa [State.passedMs] using hdue
  have hskip : ¬ ((!s.passedMs t0 900000) = true ∨ (!s.enabled (pgEST n)) = true ∨ (s.ch n).est.aggPend ≠ []) := by
    simp [hpassed, hen, hpend]
  have hpoint : s.restPoint n = (s.restCells n).restAnew n s.tb := by
    unfold State.restPoint
    simp only [hrest]
    rw [if_neg hskip]
    rfl
  rw [execRestPoint, hpoint, if_neg (Bool.eq_false_iff.mp hown)]
  rfl

theorem restCells_cores (s : State) (n : Ch) : SameCores n
    (s.mapCells n (fun i c => if s.restTakes n i c then s.restUpdate n ((s.ch n).pour.deliv.volt i) c else c)) (s.restCells n) := by
  refine ((SameCores.refl _).learnCells (fun t i =>
    ((s.ch n).pour.deliv.istr.toInt : Rat) / 1000 - t.bleed n (nth (t.ch n).bal.applied i)) fun i hi => ?_).openShow
  rw [cells_mapCells, List.length_map, List.length_range]
  have hlen := List.mem_range.mp (List.mem_of_mem_filter hi)
  exact Nat.lt_of_lt_of_le hlen (Nat.le_max_left _ _)

theorem ch_restAnew (u : State) (n : Ch) (now : Nat) : (u.restAnew n now).ch n = { u.ch n with est := { (u.ch n).est with
    restT0 := some now, restTmin := [], restTmax := [], restHourAt := now } } := by
  rw [State.restAnew, ch_putB, ch_put]
  exact ch_modCh_same u n _

theorem restAnew_cores (u : State) (n : Ch) (now : Nat) : SameCores n u (u.restAnew n now) := by
  have hch := ch_restAnew u n now
  exact (SameCores.refl u).keep (by rw [hch]) (by rw [hch])

/-- The cores of a channel's cells after a rest point. -/
theorem core_restPoint (s : State) (n : Ch) (now : Nat) {i : Nat} (hi : i < s.cellCount n) :
    (((s.restCells n).restAnew n now).estCell n i).core
      = (if s.restTakes n i (s.estCell n i) then s.restUpdate n ((s.ch n).pour.deliv.volt i) (s.estCell n i)
          else s.estCell n i).core := by
  rw [((restCells_cores s n).trans (restAnew_cores _ n now)).core, estCell_mapCells _ _ _ hi]

/-- What shows a rest point that starts anew. -/
theorem restAnew_shows (u : State) (n : Ch) (now : Nat) :
    (u.restAnew n now).get (F.EST_STAT_REST_AGE n) = 0 ∧ (u.restAnew n now).flag (F.EST_STAT_REST_NEEDED n) = false
      ∧ ((u.restAnew n now).ch n).est.restT0 = some now ∧ ((u.restAnew n now).ch n).est.restHourAt = now := by
  have hok : (F.EST_STAT_REST_AGE n).ok ∧ (F.EST_STAT_REST_NEEDED n).ok := by
    simp [RF.ok, F.EST_STAT_REST_AGE, F.EST_STAT_REST_NEEDED]
  have happart : (F.EST_STAT_REST_NEEDED n).apart (F.EST_STAT_REST_AGE n) :=
    .inr (by simp [F.EST_STAT_REST_AGE, F.EST_STAT_REST_NEEDED])
  refine ⟨?_, ?_, by rw [ch_restAnew], by rw [ch_restAnew]⟩
  · rw [State.restAnew, get_putB_ne _ _ _ _ hok.2 happart, get_put_same _ _ _ hok.1]
    exact Nat.zero_mod _
  · rw [State.restAnew]
    exact flag_putB_same _ _ _ hok.2

end Sys2Proof.Machine
end
section
/-! PROOFS. The estimator's rest age (R235), calibration windows (R231) and stored record (R239), and its tasks as a
whole. -/

namespace Sys2Proof.Machine
open Sys2Proof

/-! ## The rest age (R235) -/

theorem execRestAgeTick_due {s : State} {n : Ch} (hdue : 3600000000000 ≤ s.tb - (s.ch n).est.restHourAt) :
    let u := (s.incSat (F.EST_STAT_REST_AGE n)).modEst n (fun e => { e with restHourAt := s.tb })
    execRestAgeTick n s = .next (if 336 ≤ u.get (F.EST_STAT_REST_AGE n) ∧ u.flag (F.EST_STAT_REST_NEEDED n) = false then
      ((u.putB (F.EST_STAT_REST_NEEDED n) true).raise (pgEST n) 2).logReg (pgEST n) 0x024 else u) := by
  have hpassed : s.passedMs (s.ch n).est.restHourAt 3600000 = true := by simpa [State.passedMs] using hdue
  simp only [execRestAgeTick, happen, hpassed, if_true, Bool.not_eq_true']

/-! ## The end of a calibration window (R231) -/

/-- A calibration accepted with offset and gain c and the current's envelope env. -/
def State.calAccept (s : State) (n : Ch) (c : Int × Rat) (env : Option (Rat × Rat)) : State :=
  (s.modEst n (fun x => { x with
    calOld := x.cal, calAt := (s.ep + 1) % 2 ^ 48, cal := setAt (0, 1) x.cal x.calSel c
    calEnv := setAt none x.calEnv x.calSel env, writeDue := true })).calEnd n 1

/-- The mean of the window. -/
def EstS.calMean (e : EstS) : Rat := (sumI e.calWin : Rat) / 1000

/-- An offset calibration judged by its mean. -/
def State.calOffset (s : State) (n : Ch) : State :=
  let e := (s.ch n).est
  if absR e.calMean ≤ 2000 then
    s.calAccept n (roundHalf e.calMean, (e.cal.getD e.calSel (0, 1)).2) (e.calEnv.getD e.calSel none)
  else s.calEnd n 2

/-- A gain calibration judged by its mean m above the offset, its range and its gain g. -/
def State.calGain (s : State) (n : Ch) : State :=
  let e := (s.ch n).est
  let old := e.cal.getD e.calSel (0, 1)
  let m := e.calMean - (old.1 : Rat)
  let lo := e.calWin.foldl min (e.calWin.headD 0)
  let hi := e.calWin.foldl max (e.calWin.headD 0)
  let g := ((s.reg (R.EST_ICAL_REF n)).toInt : Rat) / m
  if absR m < s.irated n * 200 ∨ s.irated n * 10 < ((hi - lo : Int) : Rat) then s.calEnd n 2
  else if 95 / 100 ≤ g ∧ g ≤ 105 / 100 then
    s.calAccept n (old.1, g) (some (((lo - old.1 : Int) : Rat) * g / 1000, ((hi - old.1 : Int) : Rat) * g / 1000))
  else s.calEnd n 2

/-- The end of a window under way (R231). -/
theorem execIcalDone_full {s : State} {n : Ch} (hwin : 1000 ≤ (s.ch n).est.calWin.length) (hkind : (s.ch n).est.calKind ≠ 0) :
    execIcalDone n s = .next (if !s.calCond n (s.ch n).est.calKind then s.calEnd n 2
      else if (s.ch n).est.calKind = 1 then s.calOffset n else s.calGain n) :=
  congrArg _ (if_neg (by omega))

section
variable {s : State} {n : Ch} (hwin : 1000 ≤ (s.ch n).est.calWin.length)
include hwin

theorem execIcalDone_offset (hkind : (s.ch n).est.calKind = 1) :
    (s.calCond n 1 = true → absR (s.ch n).est.calMean ≤ 2000 → execIcalDone n s = .next (s.calAccept n
      (roundHalf (s.ch n).est.calMean, ((s.ch n).est.cal.getD (s.ch n).est.calSel (0, 1)).2)
      ((s.ch n).est.calEnv.getD (s.ch n).est.calSel none)))
    ∧ (s.calCond n 1 = false ∨ 2000 < absR (s.ch n).est.calMean → execIcalDone n s = .next (s.calEnd n 2)) := by
  have hdone := execIcalDone_full hwin (by omega)
  simp only [hkind, if_true] at hdone
  refine ⟨fun hcond hmean => ?_, fun hbad => ?_⟩
  · rw [hdone, hcond, State.calOffset, if_pos hmean]
    rfl
  · rw [hdone]
    cases hcond : s.calCond n 1 with
    | false => rfl
    | true =>
      have hmean : ¬ absR (s.ch n).est.calMean ≤ 2000 := by
        simpa [hcond] using hbad
      rw [State.calOffset, if_neg hmean]
      rfl

theorem execIcalDone_gain (hkind : (s.ch n).est.calKind = 2) :
    let e := (s.ch n).est
    let old := e.cal.getD e.calSel (0, 1)
    let m := e.calMean - (old.1 : Rat)
    let lo := e.calWin.foldl min (e.calWin.headD 0)
    let hi := e.calWin.foldl max (e.calWin.headD 0)
    let g := ((s.reg (R.EST_ICAL_REF n)).toInt : Rat) / m
    let good : Prop := s.calCond n 2 = true ∧ s.irated n * 200 ≤ absR m ∧ ((hi - lo : Int) : Rat) ≤ s.irated n * 10
      ∧ 95 / 100 ≤ g ∧ g ≤ 105 / 100
    (good → execIcalDone n s = .next (s.calAccept n (old.1, g)
      (some (((lo - old.1 : Int) : Rat) * g / 1000, ((hi - old.1 : Int) : Rat) * g / 1000))))
    ∧ (¬ good → execIcalDone n s = .next (s.calEnd n 2)) := by
  intro e old m lo hi g good
  have hdone : execIcalDone n s = .next (if !s.calCond n 2 then s.calEnd n 2
      else if absR m < s.irated n * 200 ∨ s.irated n * 10 < ((hi - lo : Int) : Rat) then s.calEnd n 2
      else if 95 / 100 ≤ g ∧ g ≤ 105 / 100 then
        s.calAccept n (old.1, g) (some (((lo - old.1 : Int) : Rat) * g / 1000, ((hi - old.1 : Int) : Rat) * g / 1000))
      else s.calEnd n 2) := by
    rw [execIcalDone_full hwin (by omega), hkind]
    rfl
  refine ⟨fun hgood => ?_, fun hbad => ?_⟩
  · obtain ⟨hcond, hlarge, hnarrow, hlow, hhigh⟩ := hgood
    have hrange : ¬ (absR m < s.irated n * 200 ∨ s.irated n * 10 < ((hi - lo : Int) : Rat)) :=
      not_or.mpr ⟨not_lt.mpr hlarge, not_lt.mpr hnarrow⟩
    rw [hdone, hcond, if_neg (by decide), if_neg hrange, if_pos ⟨hlow, hhigh⟩]
  · rw [hdone]
    split
    · rfl
    · split
      · rfl
      · split
        · next hcond hrange hgain =>
          rw [not_or, not_lt, not_lt] at hrange
          exact absurd ⟨by simpa using hcond, hrange.1, hrange.2, hgain.1, hgain.2⟩ hbad
        · rfl

end

/-! ## The stored record (R239) -/

/-- The record that a write stores now. -/
def State.estRecord (s : State) (n : Ch) : EstCopy :=
  let e := (s.ch n).est
  ⟨true, (match e.newest with | some c => c.gen + 1 | none => 1), s.ep, e.cells, s.get (F.EST_STAT_REST_AGE n), e.cal, e.calEnv⟩

/-- The first copy is the older one, or invalid. -/
def EstS.storesA (e : EstS) : Bool :=
  !e.copyA.valid || (e.copyB.valid && decide (0 < sdiff 32 e.copyB.gen.toNat e.copyA.gen.toNat))

theorem newest_of_storesA {e : EstS} (h : e.storesA = true) (hvalid : e.copyA.valid = true) : e.newest = some e.copyB := by
  simp only [EstS.storesA, hvalid, Bool.not_true, Bool.false_or, Bool.and_eq_true, decide_eq_true_eq] at h
  obtain ⟨hb, hahead⟩ := h
  simp only [EstS.newest, hvalid, hb, hahead, Bool.and_self, if_true]

theorem newest_of_storesB {e : EstS} (h : e.storesA = false) : e.newest = some e.copyA := by
  simp only [EstS.storesA, Bool.or_eq_false_iff, Bool.not_eq_false', Bool.and_eq_false_iff, decide_eq_false_iff_not] at h
  obtain ⟨hvalid, hb | hahead⟩ := h
  · simp only [EstS.newest, hvalid, hb, Bool.and_false, Bool.false_eq_true, if_false, if_true]
  · simp only [EstS.newest, hvalid, hahead, Bool.true_and, if_false, if_true, ite_self]

/-- The estimator's part after a write of the record. -/
theorem est_estWrite (s : State) (n : Ch) :
    ((s.estWrite n).ch n).est = if (s.ch n).est.storesA
      then { (s.ch n).est with writeDue := false, wroteAt := s.tb, copyA := s.estRecord n }
      else { (s.ch n).est with writeDue := false, wroteAt := s.tb, copyB := s.estRecord n } := by
  rw [State.estWrite, State.modEst, ch_modCh_same]
  rfl

theorem execEstRecordWrite_due {s : State} {n : Ch} (hhold : s.sup.vholdOk = true) (hload : (s.ch n).est.unloaded = false)
    (hdue : (s.ch n).est.writeDue = true ∨ 600000000000 ≤ s.tb - (s.ch n).est.wroteAt) :
    execEstRecordWrite n s = .next (s.estWrite n) := by
  have hpassed : (s.ch n).est.writeDue = true ∨ s.passedMs (s.ch n).est.wroteAt 600000 = true := by
    simpa [State.passedMs] using hdue
  exact congrArg _ (if_pos ⟨hhold, congrArg not hload, hpassed⟩)

/-! ## The tasks as a whole -/

/-- The channel after an update: its cells, which rest on those before with the learned capacities applied. -/
theorem kfUpdate_shows {s : State} {n : Ch} (hready : s.estReady n) (hchem : (s.ch n).est.chemOk = true)
    (hdue : (s.ch n).pour.deliv.epoch % s.kfPeriod n = s.kfPeriod n - 1) (hgroup : (s.ch n).est.group ≠ []) :
    ∃ t, exec (.kfUpdate n) s = .next t ∧ (t.ch n).est.group = [] ∧ (t.ch n).est.pub.kfEpoch = (s.ch n).pour.deliv.epoch
      ∧ t.regs = s.regs ∧ (t.ch n).pour = (s.ch n).pour ∧ (t.ch n).est.chem = (s.ch n).est.chem
      ∧ ∀ i, i < s.cellCount n →
        let b := (s.ch n).pour.deliv
        let c := s.estCell n i
        let d := t.estCell n i
        (b.cellQ.getD i 4 = 4 → d = { c.capacity with noUpd := true })
        ∧ (b.cellQ.getD i 4 = 0 → Updated c d)
        ∧ (b.cellQ.getD i 4 = 1 ∨ b.cellQ.getD i 4 = 2 → d.init = c.init ∧ d.noUpd = true ∧ 0 ≤ d.soc ∧ d.soc ≤ 1) := by
  obtain ⟨rv, iLast, hexec⟩ := kfUpdate_due hready hchem hdue hgroup
  have hstay : EstStays n s (s.mapCells n (fun _ c => c.capacity)) := (EstStays.refl s).mapCells
  have hcell : ∀ i, i < s.cellCount n → (s.mapCells n (fun _ c => c.capacity)).estCell n i = (s.estCell n i).capacity :=
    fun i hi => estCell_mapCells s n _ hi
  have hlen : ((s.mapCells n (fun _ c => c.capacity)).ch n).est.cells.length = s.cellCount n := by
    rw [cells_mapCells, List.length_map, List.length_range]
  have hregs : (s.mapCells n (fun _ c => c.capacity)).regs = s.regs := rfl
  generalize s.mapCells n (fun _ c => c.capacity) = u at *
  obtain ⟨t, hexec, hempty, hepoch, htregs, hpour, hchem', hcells⟩ : ∃ t, exec (.kfUpdate n) s = .next t
      ∧ (t.ch n).est.group = [] ∧ (t.ch n).est.pub.kfEpoch = (s.ch n).pour.deliv.epoch ∧ t.regs = s.regs
      ∧ (t.ch n).pour = (s.ch n).pour ∧ (t.ch n).est.chem = (s.ch n).est.chem
      ∧ (t.ch n).est.cells = u.kfCells n (s.ch n).pour.deliv rv iLast :=
    ⟨_, hexec, by simp, by simp, hregs, by simpa using hstay.pour, by simpa using hstay.chem, by simp⟩
  refine ⟨t, hexec, hempty, hepoch, htregs, hpour, hchem', fun i hi => ?_⟩
  intro b c d
  obtain ⟨pred, k, cur, hpred, hget⟩ := getD_kfCells u n b rv iLast (hlen ▸ hi) (EstCell.fresh (t.cRated n))
  have hd : d = u.kfCell n b rv pred i := by
    rw [show d = t.estCell n i from rfl, State.estCell, hcells, hget]
  have hinit : (u.kfPred n b iLast i).1.init = c.init := (init_kfPred u n b iLast i).trans (by rw [hcell i hi, init_capacity])
  rw [hd]
  refine ⟨fun hq => ?_, fun hq => ?_, fun hq => ?_⟩
  · rw [kfCell_absent hpred hq, hcell i hi]
  · have hupd := kfCell_measured (s := u) (n := n) (rv := rv) hpred hq
    exact { hupd with fresh := fun h => hupd.fresh (hinit.trans h) }
  · rw [← hinit]
    exact kfCell_predicted hpred hq

theorem sopUpdate_shows {s : State} {n : Ch} (hready : s.estReady n) (hchem : (s.ch n).est.chemOk = true)
    (hdue : (s.ch n).pour.deliv.epoch % 100 = 99) (hcells : s.sopCells n (s.ch n).pour.deliv ≠ []) :
    ∃ t, exec (.sopUpdate n) s = .next t ∧ (t.ch n).est.pub.sopEpoch = (s.ch n).pour.deliv.epoch ∧ t.regs = s.regs
      ∧ (t.ch n).est.pub.curLim.length = 6 ∧ (t.ch n).est.pub.powLim.length = 6
      ∧ (∀ x ∈ (t.ch n).est.pub.curLim, x ≤ s.get (F.CTLE_STAGE_IRATED n) * 1000)
      ∧ (∀ i ∈ s.sopCells n (s.ch n).pour.deliv, ∀ k, k < 3 →
        nth (t.ch n).est.pub.curLim k ≤ s.sopCell n (s.ch n).pour.deliv i true k * 1000
        ∧ nth (t.ch n).est.pub.curLim (3 + k) ≤ s.sopCell n (s.ch n).pour.deliv i false k * 1000) := by
  obtain ⟨f, hexec⟩ := sopUpdate_due hready hchem hdue hcells
  have hcur : (((s.mapCells n f).modEst n (fun e => { e with pub := { e.pub with
      sopEpoch := (s.ch n).pour.deliv.epoch
      curLim := ([0, 1, 2].map (s.sopString n true) ++ [0, 1, 2].map (s.sopString n false)).map (· * 1000)
      powLim := [0, 1, 2].map (s.sopPower n true) ++ [0, 1, 2].map (s.sopPower n false) } })).ch n).est.pub.curLim
      = ([0, 1, 2].map (s.sopString n true) ++ [0, 1, 2].map (s.sopString n false)).map (· * 1000) := by
    simp
  refine ⟨_, hexec, by simp, rfl, by simp, by simp, fun x hx => ?_, fun i hi k hk => ?_⟩
  · rw [hcur, List.mem_map] at hx
    obtain ⟨y, hy, rfl⟩ := hx
    refine Nat.mul_le_mul_right _ ?_
    obtain hy | hy := List.mem_append.mp hy
    all_goals
      obtain ⟨k, -, rfl⟩ := List.mem_map.mp hy
      exact (sopString_le s n _ k).1
  · rw [hcur, (nth_curLim _ _ hk).1, (nth_curLim _ _ hk).2, ← nth_sopLims s n true i hk, ← nth_sopLims s n false i hk]
    exact ⟨Nat.mul_le_mul_right _ ((sopString_le s n true k).2 i hi), Nat.mul_le_mul_right _ ((sopString_le s n false k).2 i hi)⟩

/-- Settles O39: each task on an epoch that it takes. -/
theorem estimatorTasks : Obligations.EstimatorTasks := by
  unfold Obligations.EstimatorTasks
  refine ⟨fun s n => ?_, fun s n => ?_, fun s n => ?_, fun s n t0 => ?_, fun s n k => rfl,
    fun s n hdue => execRestAgeTick_due hdue, fun s n => ?_, fun s n => ?_⟩
  · intro b hown hvalid hen
    exact ⟨_, execAggregateTask_ready ⟨hown, hvalid, hen⟩, aggPublish_shows⟩
  · intro b hown hvalid hen hchem hdue hgroup
    obtain ⟨t, hexec, hempty, hepoch, hregs, hpour, hchem', hcell⟩ := kfUpdate_shows ⟨hown, hvalid, hen⟩ hchem hdue hgroup
    refine ⟨t, hexec, hempty, hepoch, hregs, hpour, hchem', fun i hi => ?_⟩
    obtain ⟨habsent, hmeas, hpredicted⟩ := hcell i hi
    refine ⟨habsent, fun hq => ?_, hpredicted⟩
    obtain ⟨hinit, hupd, hlow, hhigh, hpub, hfresh⟩ := hmeas hq
    exact ⟨hinit, hupd, hlow, hhigh, hpub, hfresh⟩
  · intro b hown hvalid hen hchem hdue hcells
    exact sopUpdate_shows ⟨hown, hvalid, hen⟩ hchem hdue hcells
  · intro b hown hrest hdue hpend hen
    obtain ⟨hage, hneeded, hanew, hhour⟩ := restAnew_shows (s.restCells n) n s.tb
    refine ⟨_, execRestPoint_due hown hrest hdue hpend hen, hage, hneeded, hanew, hhour, fun i hi => ?_⟩
    intro c d
    have htakes : s.restTakes n i c = true ↔ c.init = true ∧ 10 ≤ c.measRun ∧ b.cellQ.getD i 4 = 0 := by
      simp [State.restTakes, b, and_assoc]
    exact (core_restPoint s n s.tb hi).trans (congrArg EstCell.core (if_congr htakes rfl rfl))
  · intro e mean old accept hwin
    refine ⟨fun hkind => (execIcalDone_offset hwin hkind).1, fun hkind => (execIcalDone_offset hwin hkind).2, fun hkind => ?_⟩
    exact execIcalDone_gain hwin hkind
  · intro e hhold hload hdue
    have hest := est_estWrite s n
    refine ⟨_, s.estRecord n, execEstRecordWrite_due hhold hload hdue, ?_, rfl, ?_⟩
    · rw [hest]
      split <;> rfl
    · rw [hest]
      cases hstore : e.storesA with
      | true => exact .inl ⟨rfl, rfl, newest_of_storesA hstore⟩
      | false => exact .inr ⟨rfl, rfl, newest_of_storesB hstore⟩

end Sys2Proof.Machine
end
